-- ==== Sys2Proof/Word.lean ====
section
/-! DEFINITION. The words the manual treats as bits: bytes of frames, the 16-bit codes, and the 32-bit
segment clock and token (00 Table 1.4, Table 1.5). Everything else the manual counts is a Nat or an Int. -/

namespace Sys2Proof

/-- A byte of a trunk or pedestal bus frame. -/
abbrev Byte := BitVec 8

/-- A 16-bit field: a CRC, a label code. -/
abbrev Half := BitVec 16

/-- A segment clock value, in seconds (00 Table 1.4). -/
abbrev Clock := BitVec 32

/-- A credential number (00 Table 1.2). -/
abbrev Token := BitVec 32

end Sys2Proof
end

