-- ==== Sys2Proof/Syntax.lean ====
section
/-! DEFINITION. The commands of the part: one constructor of `Instr` for each row of the table of operations
and events, with the fields its frame or event carries. -/

namespace Sys2Proof

/-! ## Enumerations -/

/-- The class of a berth (01 Table 1.9). -/
inductive BerthClass where
  | resident | visitor | service | fuel
  deriving DecidableEq, Repr

/-- A side of a pedestal (00 Table 1.2). -/
inductive Side where
  | a | b
  deriving DecidableEq, Repr

/-- The side of a gate reader (07 Table 7.1). -/
inductive GateSide where
  | entry | exit
  deriving DecidableEq, Repr

/-- The kind of a device on the pedestal bus (08 Table 8.1). -/
inductive DeviceKind where
  | pedestal | gate | dispenser
  deriving DecidableEq, Repr

/-- The poll class of a device (08 Table 8.1). -/
inductive PollClass where
  | fast | slow
  deriving DecidableEq, Repr

/-- The watchable fields of Table 8.4. -/
inductive WatchField where
  | plugA | buttonA | plugB | buttonB | cardRead | exitButton | door
  deriving DecidableEq, Repr

/-- The kind of a credential (07 Table 7.2). -/
inductive CredKind where
  | resident | visitor | staff
  deriving DecidableEq, Repr

/-- The fault kinds of Table 4.1. -/
inductive FaultKind where
  | overcurrent | earthLeak | leakDisagree | contactor | meter | leak | valve
  deriving DecidableEq, Repr

/-- The selector of CLEAR FAULT and RETURN TO SERVICE (04 R85, R87). -/
inductive Target where
  | outlet | tap
  deriving DecidableEq, Repr

/-- A trunk port (00 Table 1.2). -/
inductive Port where
  | up | down
  deriving DecidableEq, Repr

/-- The requester of a credential decision (07 Table 7.5). -/
inductive Requester where
  | gate (reader : Nat)
  | dispenser (index : Nat)
  deriving DecidableEq, Repr

/-- The report source classes of Table 9.3. -/
inductive ReportClass where
  | berth | outlet | tap | account | feeder | journal | query | sale | alarm | status
  deriving DecidableEq, Repr

/-- A report source: its class and its identity (09 Table 9.3). -/
structure SourceId where
  cls : ReportClass
  ident : Nat
  deriving DecidableEq, Repr

/-- A field that names one of a list: the named one, or a value that names none (refused OUT_OF_RANGE, 10 R175). -/
inductive Coded (α : Type) where
  | known (a : α)
  | unlisted
  deriving DecidableEq, Repr

/-- The form of a local frame (10 R173 step 2): the fields it carries, or a length that matches no form of its type. -/
inductive Form (α : Type) where
  | fields (a : α)
  | badLength
  deriving DecidableEq, Repr

/-! ## The fields of the local frames -/

/-- The vessel record (01 Table 1.9): LOA and beam in dm, draft in cm, power need in A. -/
structure Vessel where
  loa : Nat
  beam : Nat
  draft : Nat
  power : Nat
  deriving DecidableEq, Repr

/-- One field of SEGMENT CONFIG: its identifier, the class code for a report mode or period, its value (10 R176). -/
structure ConfigItem where
  field : Nat
  cls : Nat
  value : Int
  deriving DecidableEq, Repr

/-- TIDE (01 R13). -/
structure TideFields where
  current : Int
  low : Int
  lowTime : Clock
  deriving DecidableEq, Repr

/-- READ (09 R169): a class code of Table 9.3 and an identity. -/
structure ReadFields where
  cls : Nat
  ident : Nat
  deriving DecidableEq, Repr

/-- A service side as a frame carries it (01 R2). -/
structure SideFields where
  address : Nat
  side : Coded Side
  deriving DecidableEq, Repr

/-- BERTH LOAD (01 R2). -/
structure BerthLoad where
  index : Nat
  label : Half
  cls : Coded BerthClass
  maxLength : Nat
  maxBeam : Nat
  depth : Nat
  service : Option SideFields
  deriving DecidableEq, Repr

/-- BOOK (01 R7). -/
structure Book where
  index : Nat
  account : Option Nat
  vessel : Option Vessel
  arriveBy : Option Clock
  deriving DecidableEq, Repr

/-- ALLOCATE (01 R15). A class mask names some of the four classes, or something else (refused OUT_OF_RANGE). -/
structure Allocate where
  account : Nat
  vessel : Vessel
  acceptNoPower : Bool
  classMask : Option (Coded (List BerthClass))
  deriving DecidableEq, Repr

/-- CONFIRM (01 R8). -/
structure Confirm where
  index : Nat
  account : Option Nat
  vessel : Option Vessel
  deriving DecidableEq, Repr

/-- ACCOUNT LOAD (02 R25). -/
structure AccountLoad where
  number : Nat
  cls : Nat
  priority : Nat
  opening : Int
  overdraft : Nat
  warning : Int
  suspend : Option Bool
  deriving DecidableEq, Repr

/-- ACCOUNT UPDATE (02 R30). -/
structure AccountUpdate where
  number : Nat
  cls : Option Nat
  priority : Option Nat
  overdraft : Option Nat
  warning : Option Int
  suspend : Option Bool
  deriving DecidableEq, Repr

/-- TOP UP (02 R31). -/
structure TopUp where
  number : Nat
  amount : Int
  deriving DecidableEq, Repr

/-- ACCOUNT READ (02 R26): the flag WALK and a number. -/
structure AccountRead where
  walk : Bool
  number : Nat
  deriving DecidableEq, Repr

/-- TARIFF LOAD (02 R34). -/
structure TariffLoad where
  cls : Nat
  power : Nat
  water : Nat
  fuel0 : Nat
  fuel1 : Nat
  deriving DecidableEq, Repr

/-- OUTLET LOAD (03 R49). -/
structure OutletLoad where
  index : Nat
  address : Nat
  side : Coded Side
  rating : Nat
  feeder : Nat
  deriving DecidableEq, Repr

/-- FEEDER LOAD (03 R50): C, D, S and T. -/
structure FeederLoad where
  index : Nat
  capacity : Nat
  diversity : Nat
  shed : Nat
  restore : Nat
  deriving DecidableEq, Repr

/-- PROTECTION LOAD (04 R81). -/
structure ProtectionLoad where
  kind : Coded FaultKind
  enable : Bool
  cut : Bool
  latch : Bool
  count : Bool
  byUnplug : Bool
  byCommand : Bool
  byTime : Bool
  deriving DecidableEq, Repr

/-- CLEAR FAULT (04 R85). -/
structure ClearFault where
  target : Coded Target
  index : Nat
  kind : Option (Coded FaultKind)
  deriving DecidableEq, Repr

/-- RETURN TO SERVICE (04 R87). -/
structure ReturnToService where
  target : Coded Target
  index : Nat
  deriving DecidableEq, Repr

/-- TAP LOAD (05 R93). -/
structure TapLoad where
  index : Nat
  address : Nat
  side : Coded Side
  deriving DecidableEq, Repr

/-- DEVICE LOAD (08 R145). -/
structure DeviceLoad where
  address : Nat
  kind : Coded DeviceKind
  pollClass : Option (Coded PollClass)
  watch : Option (List WatchField)
  index : Option Nat
  gateSide : Option (Coded GateSide)
  hose0 : Bool
  hose1 : Bool
  deriving DecidableEq, Repr

/-- CREDENTIAL FILL (07 R128). -/
structure CredentialFill where
  token : Token
  kind : Coded CredKind
  account : Option Nat
  validUntil : Option Clock
  fuelPermitted : Bool
  pin : Bool
  deriving DecidableEq, Repr

/-- INVALIDATE (07 R129): a token, or the flag ALL with or without UNPIN. -/
inductive Invalidate where
  | token (t : Token)
  | all (unpin : Bool)
  deriving DecidableEq, Repr

/-- AUTHORISE SALE (06 R109). -/
structure AuthoriseSale where
  dispenser : Nat
  grade : Nat
  preset : Option Nat
  account : Option Nat
  deriving DecidableEq, Repr

/-- TANK SET and TANK ADD (06 R105): the level, or the amount added. -/
structure TankFields where
  tank : Nat
  amount : Nat
  cutoff : Option Nat
  deriving DecidableEq, Repr

/-- What the payload of a local frame spells: one constructor per type of Table 10.1. -/
inductive LocalBody where
  | segmentConfig (items : List ConfigItem)
  | time (clock : Clock)
  | tide (f : TideFields)
  | restart
  | read (f : ReadFields)
  | berthLoad (f : BerthLoad)
  | berthRead (index : Nat)
  | openBerth (index : Nat)
  | closeBerth (index : Nat)
  | book (f : Book)
  | allocate (f : Allocate)
  | confirm (f : Confirm)
  | decline (index : Nat)
  | depart (index : Nat)
  | accountLoad (f : AccountLoad)
  | accountUpdate (f : AccountUpdate)
  | topUp (f : TopUp)
  | accountRemove (number : Nat)
  | accountRead (f : AccountRead)
  | tariffLoad (f : TariffLoad)
  | outletLoad (f : OutletLoad)
  | feederLoad (f : FeederLoad)
  | protectionLoad (f : ProtectionLoad)
  | forceOff (index : Nat)
  | releaseForce (index : Nat)
  | serviceHold
  | serviceRelease
  | clearFault (f : ClearFault)
  | returnToService (f : ReturnToService)
  | tapLoad (f : TapLoad)
  | waterSuspend
  | waterResume
  | deviceLoad (f : DeviceLoad)
  | deviceRemove (address : Nat)
  | credentialFill (f : CredentialFill)
  | credentialUnknown (token : Token)
  | invalidate (f : Invalidate)
  | authoriseSale (f : AuthoriseSale)
  | stopSale (dispenser : Nat)
  | takeSale
  | tankSet (f : TankFields)
  | tankAdd (f : TankFields)
  | freeze
  | freezeRelease
  | closePeriod
  | readTally (page : Nat)
  deriving DecidableEq, Repr

/-! ## What reaches the part's pins -/

/-- The strap pins SEG[5:0], CHAIN_END and BUSRATE (00 Table 1.8, 10 R177). -/
structure Straps where
  seg : BitVec 6
  chainEnd : Bool
  busRate : Bool
  deriving DecidableEq, Repr

/-- A trunk frame of Table 9.4, without the start byte, the length field and the CRC that its payload fixes. -/
structure Frame where
  dest : Byte
  source : Byte
  type : Byte
  tag : Byte
  payload : List Byte
  deriving DecidableEq, Repr

/-- A frame as a trunk port receives it (09 Table 9.4): the frame, its length field and its CRC field.
`form` is what the payload spells when the frame is a local one: the manual names the fields of each local frame
and gives their order and widths nowhere, so the reading comes with the bytes (DESIGN CHOICE, log 4). -/
structure RxFrame where
  frame : Frame
  length : Byte
  crc : Half
  form : Option LocalBody
  deriving DecidableEq, Repr

/-- A frame received on the pedestal bus (08 Table 8.6). -/
structure BusReply where
  address : Byte
  function : Byte
  flags : Byte
  length : Byte
  payload : List Byte
  crc : Half
  deriving DecidableEq, Repr

/-! ## The commands -/

/-- The steps of the part: one constructor per row of the table of operations and events. -/
inductive Instr where
  | powerOn (straps : Straps)
  | resetAsserted
  | resetReleased (straps : Straps)
  | startupComplete
  | upFrameReceived (rx : RxFrame)
  | downFrameReceived (rx : RxFrame)
  | pauseReceived
  | resumeReceived
  | upstreamHoldExpiry
  | pauseRepeat
  | portDisconnected (port : Port)
  | portConnected (port : Port)
  | upstreamTransmit
  | upstreamFrameSent
  | downTransmit
  | localSlotFill
  | periodTimerExpiry (source : SourceId)
  | upstreamSilenceExpiry
  | unknownType
  | broadcastDiscard
  | segmentConfig (f : Form (List ConfigItem))
  | time (f : Form Clock)
  | tide (f : Form TideFields)
  | restart (f : Form Unit)
  | read (f : Form ReadFields)
  | berthLoad (f : Form BerthLoad)
  | berthRead (f : Form Nat)
  | openBerth (f : Form Nat)
  | closeBerth (f : Form Nat)
  | book (f : Form Book)
  | allocate (f : Form Allocate)
  | confirm (f : Form Confirm)
  | decline (f : Form Nat)
  | depart (f : Form Nat)
  | offerTimerExpiry (berth : Nat)
  | secondTick
  | noShowExpiry (berth : Nat)
  | tideStaleExpiry
  | accountLoad (f : Form AccountLoad)
  | accountUpdate (f : Form AccountUpdate)
  | topUp (f : Form TopUp)
  | accountRemove (f : Form Nat)
  | accountRead (f : Form AccountRead)
  | tariffLoad (f : Form TariffLoad)
  | officeOperation
  | powerPosting
  | waterPosting
  | holdServed
  | releaseServed
  | settleServed
  | outletLoad (f : Form OutletLoad)
  | feederLoad (f : Form FeederLoad)
  | protectionLoad (f : Form ProtectionLoad)
  | forceOff (f : Form Nat)
  | releaseForce (f : Form Nat)
  | serviceHold (f : Form Unit)
  | serviceRelease (f : Form Unit)
  | clearFault (f : Form ClearFault)
  | returnToService (f : Form ReturnToService)
  | tapLoad (f : Form TapLoad)
  | waterSuspend (f : Form Unit)
  | waterResume (f : Form Unit)
  | deviceLoad (f : Form DeviceLoad)
  | deviceRemove (f : Form Nat)
  | credentialFill (f : Form CredentialFill)
  | credentialUnknown (f : Form Token)
  | invalidate (f : Form Invalidate)
  | authoriseSale (f : Form AuthoriseSale)
  | stopSale (f : Form Nat)
  | takeSale (f : Form Unit)
  | tankSet (f : Form TankFields)
  | tankAdd (f : Form TankFields)
  | freeze (f : Form Unit)
  | freezeRelease (f : Form Unit)
  | closePeriod (f : Form Unit)
  | readTally (f : Form Nat)
  | freezeAutoRelease
  | poll (address : Nat)
  | setOutputs (address : Nat)
  | oneShotTransmit (address : Nat)
  | statusReply (reply : BusReply)
  | ackReceived (reply : BusReply)
  | replyTimeout
  | badReply (reply : BusReply)
  | stuckMeterDetect (outlet : Nat)
  | dispensePeriodExpiry (tap : Nat)
  | leakDisagreeExpiry (outlet : Nat)
  | recoveryTimerExpiry (target : Target) (index : Nat) (kind : FaultKind)
  | leakSettleEnd (tap : Nat)
  | queryTimeout (requester : Requester)
  | nozzleTimeout (dispenser : Nat)
  | cycleWithNothingToSend
  deriving DecidableEq, Repr

end Sys2Proof
end

