-- ==== Sys2Proof/Config.lean ====
section
/-! DEFINITION. What is fixed for the part (capacities and constants of the manual) and the free values: what the
manual leaves open although the machine goes on. -/

namespace Sys2Proof

/-- The last reasons of outlets and taps (03 Note 1 to Table 3.4, 05 Note 1 to Table 5.3); those from UNPLUGGED to
RESTART and from BUTTON to RESTART are also session end reasons. -/
inductive Reason where
  | unplugged | depart | credit | suspended | lock | hold | linkLost | fault | restart
  | granted | queued | shed | eligible | loaded | recovered
  | opened | button | period | waterSuspend
  deriving DecidableEq, Repr, Inhabited

namespace Config

/-- Berths, outlets and taps are indexed 1 to 48 (00 section 1.3.1). -/
def tableSize : Nat := 48
/-- Account records (02 R24). -/
def accountCapacity : Nat := 128
/-- The greatest account number (00 Table 1.5). -/
def maxAccount : Nat := 16777215
/-- The bound of every balance, in cu (02 R32). -/
def maxBalance : Int := 99999999
/-- The bound of the top-up sum, in cu (02 Table 2.1). -/
def maxTopUpSum : Int := 140737488355328
/-- The upper limit of a period total or period tally (02 Table 2.1, 11 Table 11.1). -/
def maxPeriodTotal : Nat := 281474976710655
/-- The greatest 32-bit value. -/
def max32 : Nat := 4294967295
/-- THRU and DOWN queue slots (09 Table 9.1). -/
def thruCapacity : Nat := 8
/-- LOCAL queue slots (09 R167). -/
def localCapacity : Nat := 16
/-- The sale count limit (06 R106). -/
def saleCapacity : Nat := 16
/-- Journal entries (07 R140). -/
def journalCapacity : Nat := 32
/-- Pending queries (07 R134). -/
def queryCapacity : Nat := 4
/-- Waiting closings and end records per outlet or tap (02 R37, 03 R67). -/
def closingCapacity : Nat := 4
/-- Poll list entries, and pedestals among them (08 R145). -/
def deviceCapacity : Nat := 32
/-- Pedestals on the poll list (08 R145). -/
def pedestalCapacity : Nat := 24
/-- Stuck-meter rounds (04 R79). -/
def stuckRounds : Nat := 30
/-- The hold time of a PAUSE received on UP, ms (09 R164). -/
def holdTime : Nat := 500
/-- The repeat time of PAUSE, ms (09 R164). -/
def pauseRepeatTime : Nat := 200
/-- The greatest volume limit, cL (02 R42). -/
def maxVolumeLimit : Nat := 999999900

/-- FREE VALUE (log 19): what an account's period total holds when a debit takes it past its range; the manual gives
the range (02 Table 2.1) and no rule for leaving it. Applied to the account number and the exact sum; the model keeps
it within the range and not below the total before the debit (02 R40). -/
opaque periodTotalBeyond : Nat → Nat → Nat

/-- FREE VALUE (log 20): the last reason of a READY outlet that its fourth waiting closing makes ineligible (03 R52);
Table 3.5 names no cause for it. Applied to the outlet's index and the reference clock moment. -/
opaque closingsFullReason : Nat → Nat → Reason

end Config

end Sys2Proof
end

