-- ==== Sys2Proof/Machine/Table.lean ====
section
/-! DEFINITION. Tables by key: berths, outlets, accounts, devices and the other tables of the part, as a list in
ascending order of key with no key twice. An entry that is not listed is not loaded (not valid, not present). -/

namespace Sys2Proof.Machine

/-- A table keyed by a number, in ascending order of key. -/
abbrev Table (α : Type) := List (Nat × α)

namespace Table

/-- The entry of a key. -/
def get {α : Type} : Table α → Nat → Option α
  | [], _ => none
  | (k, a) :: t, n => if k = n then some a else get t n

/-- Whether a key has an entry. -/
def has {α : Type} (t : Table α) (n : Nat) : Bool := (get t n).isSome

/-- Replace a key's entry, or insert it at the place its key takes in the order. -/
def set {α : Type} : Table α → Nat → α → Table α
  | [], n, a => [(n, a)]
  | (k, b) :: t, n, a => if n < k then (n, a) :: (k, b) :: t else if k = n then (n, a) :: t else (k, b) :: set t n a

/-- Remove a key's entry. -/
def erase {α : Type} : Table α → Nat → Table α
  | [], _ => []
  | (k, a) :: t, n => if k = n then t else (k, a) :: erase t n

/-- The keys, in ascending order. -/
def keys {α : Type} (t : Table α) : List Nat := t.map Prod.fst

/-- Change the entry of a key, where there is one. -/
def modify {α : Type} (t : Table α) (n : Nat) (f : α → α) : Table α :=
  match get t n with
  | some a => set t n (f a)
  | none => t

/-- The entry of a key, or a default. -/
def getD {α : Type} (t : Table α) (n : Nat) (d : α) : α := (get t n).getD d

/-- The keys rise strictly. -/
def sorted {α : Type} : Table α → Bool
  | [] => true
  | [_] => true
  | (k, _) :: (k', b) :: t => decide (k < k') && sorted ((k', b) :: t)

end Table

end Sys2Proof.Machine
end

