-- ==== Sys2Proof/Machine/State.lean ====
section
/-! DEFINITION. The state of the part as plain data: one structure per block of Table 1.1, the queue of commands, and
the state at reset. Times are moments of the reference clock in milliseconds unless they are of type `Clock`. -/

namespace Sys2Proof.Machine

/-! ## Outcomes -/

/-- No command stops the part: every row has an effect in every state, and a command the part turns away is answered
in its reply. So there is no fault. -/
inductive Fault where
  deriving DecidableEq, Repr

/-- Why a command has no meaning in the model. -/
inductive Refusal where
  /-- Raised by `exec` for a command that has no meaning yet (none at present). Safe: nothing is claimed of it. -/
  | notModelled (mnemonic : String)
  deriving DecidableEq, Repr

/-! ## Small shapes -/

/-- One value per fault kind (04 Table 4.1). -/
structure KindMap (α : Type) where
  overcurrent : α
  earthLeak : α
  leakDisagree : α
  contactor : α
  meter : α
  leak : α
  valve : α
  deriving DecidableEq, Repr

/-- A side of a pedestal, named by address and side (00 Table 1.2). -/
structure SideRef where
  address : Nat
  side : Side
  deriving DecidableEq, Repr

/-! ## Chapter 1: the berth unit -/

/-- Berth states (01 Table 1.10). -/
inductive BerthState where
  | closed | free | offered | held | occupied
  deriving DecidableEq, Repr

/-- The last reason of a berth (01 R21). -/
inductive BerthReason where
  | loaded | opened | closed | offered | booked | confirmed | declined | departed | expired | noShow | restarted
  deriving DecidableEq, Repr

/-- A loaded berth entry (01 Table 1.9). `offerEnd` is the running offer timer, `expiry` a HELD berth's expiry. -/
structure Berth where
  label : Half
  cls : BerthClass
  maxLength : Nat
  maxBeam : Nat
  depth : Nat
  service : Option SideRef
  state : BerthState
  account : Option Nat
  vessel : Option Vessel
  offerEnd : Option Nat
  expiry : Option Clock
  reason : BerthReason
  deriving DecidableEq, Repr

/-- The tide record once a TIDE frame has been taken (01 Table 1.13); the age counts from `taken`. -/
structure Tide where
  current : Int
  low : Int
  lowTime : Clock
  receipt : Option Clock
  taken : Nat
  deriving DecidableEq, Repr

/-- The berth unit. `tideStale` is the staleness last presented to the outlet unit (01 R14). -/
structure BerthUnit where
  berths : Table Berth
  tide : Option Tide
  tideStale : Bool
  deriving DecidableEq, Repr

/-! ## Chapter 2: the charge engine -/

/-- The standing of an account in the table (02 Table 2.2); ABSENT is the answer for one not in it. -/
inductive Standing where
  | good | low | stopped | suspended
  deriving DecidableEq, Repr

/-- An account record (02 Table 2.1). Its number is its key; its notice-pending mark is its report source's mark. -/
structure Account where
  cls : Nat
  priority : Nat
  balance : Int
  overdraft : Nat
  warning : Int
  held : Nat
  suspend : Bool
  saturated : Bool
  standing : Standing
  opening : Int
  topUps : Int
  power : Nat
  water : Nat
  fuel : Nat
  deriving DecidableEq, Repr

/-- One class row of the tariff table (02 section 2.4). -/
structure TariffRow where
  power : Nat
  water : Nat
  fuel0 : Nat
  fuel1 : Nat
  deriving DecidableEq, Repr

/-- A session end record, pending or complete (03 R66, 05 R98). -/
structure EndRecord where
  account : Nat
  quantity : Nat
  charged : Nat
  reason : Reason
  startTime : Option Clock
  endTime : Option Clock
  deriving DecidableEq, Repr

/-- What makes a posting entry closing: the carried residual, and the pending end record of its session. -/
structure Closing where
  carried : Nat
  record : EndRecord
  deriving DecidableEq, Repr

/-- A posting entry (02 Table 2.4). The slots of a requester are a list in order of becoming pending. -/
structure Posting where
  source : Nat
  account : Nat
  quantity : Nat
  closing : Option Closing
  deriving DecidableEq, Repr

/-- A waiting closing of an outlet or tap (02 R37). -/
structure WaitingClosing where
  account : Nat
  unposted : Nat
  closing : Closing
  deriving DecidableEq, Repr

/-- What a FUEL request asks (02 R41, R43). -/
inductive FuelAsk where
  | hold (amount : Nat)
  | release (hold : Nat)
  | settle (hold : Nat) (amount : Nat)
  deriving DecidableEq, Repr

/-- A request of the fuel unit for a dispenser's sale (02 R44). -/
structure FuelRequest where
  dispenser : Nat
  account : Nat
  ask : FuelAsk
  deriving DecidableEq, Repr

/-- Work of the OFFICE requester (02 R35, R36): frame-borne operations, and the steps of RESTART (02 R47). -/
inductive OfficeOp where
  | accountLoad (f : AccountLoad)
  | accountUpdate (f : AccountUpdate)
  | topUp (f : TopUp)
  | accountRemove (number : Nat)
  | tariffLoad (f : TariffLoad)
  | freeze
  | closePeriod
  | restartStep (r : FuelRequest)
  deriving DecidableEq, Repr

/-- The requesters of the charge arbiter (02 Table 2.3). -/
inductive ArbiterClass where
  | power | water | fuel | office
  deriving DecidableEq, Repr

/-- The charge engine. -/
structure ChargeEngine where
  accounts : Table Account
  tariff : Table TariffRow
  power : List Posting
  water : List Posting
  fuel : List FuelRequest
  office : List OfficeOp
  lastGranted : ArbiterClass
  deriving DecidableEq, Repr

/-! ## Chapters 3 and 4: the outlet unit -/

/-- Outlet states (03 Table 3.4); WAITING carries its reason. -/
inductive OutletState where
  | off | ready | waiting (shed : Bool) | live | tripped | outOfService
  deriving DecidableEq, Repr

/-- The plug of an outlet (03 Table 3.1). -/
inductive Plug where
  | present | absent | unknown
  deriving DecidableEq, Repr

/-- A contactor or valve readback, or a door (03 Table 3.1, 05 Table 5.1, 07 Table 7.1). -/
inductive Contact where
  | opened | closed | unknown
  deriving DecidableEq, Repr

/-- A reservation: a figure in dA and the feeder it is held on (03 Table 3.1). -/
structure Reservation where
  figure : Nat
  feeder : Nat
  deriving DecidableEq, Repr

/-- An outlet or tap session (03 Table 3.2, 05 Table 5.2). `moment` is the admission moment of an outlet session and
the period end of a tap session; `quantity` is Wh or litres, modulo 2^32. -/
structure Session where
  account : Nat
  startTime : Option Clock
  moment : Nat
  quantity : Nat
  residual : Nat
  charged : Nat
  unposted : Nat
  deriving DecidableEq, Repr

/-- A check point: the contactor or valve of the acknowledged image (true: closed contactor, open valve), and the
replies counted since (04 R77). -/
structure CheckPoint where
  energised : Bool
  count : Nat
  deriving DecidableEq, Repr

/-- The fault record of an outlet or tap (04 R73). `litresAdvanced`: the last reply showed the litre counter advanced
while the valve was commanded closed (04 Table 4.1). -/
structure FaultRecord where
  latches : KindMap Bool
  recovery : KindMap (Option Nat)
  trips : List Nat
  last : Option (FaultKind × Nat)
  overCount : Nat
  disagreeEnd : Option Nat
  stuck : Nat
  energySeen : Bool
  check : Option CheckPoint
  litresAdvanced : Bool
  deriving DecidableEq, Repr

/-- A loaded outlet (03 Table 3.1), with the leak channels and breaker of its last reply. -/
structure Outlet where
  address : Nat
  side : Side
  rating : Nat
  feeder : Nat
  state : OutletState
  reason : Reason
  lock : Bool
  plug : Plug
  readback : Contact
  current : Nat
  leakA : Bool
  leakB : Bool
  breaker : Bool
  reservation : Option Reservation
  session : Option Session
  waiting : List WaitingClosing
  ends : List EndRecord
  endsDropped : Bool
  fault : FaultRecord
  deriving DecidableEq, Repr

/-- A loaded feeder (03 Table 3.3, R70). R and the mean are computed. -/
structure Feeder where
  capacity : Nat
  diversity : Nat
  shed : Nat
  restore : Nat
  ring : List Nat
  lastSum : Option Nat
  congested : Bool
  lastShed : Option Nat
  deriving DecidableEq, Repr

/-- An entry of the admission queue (03 R58). -/
structure QueueEntry where
  outlet : Nat
  shed : Bool
  priority : Nat
  moment : Nat
  deriving DecidableEq, Repr

/-- An entry of the protection action table (04 section 4.2). -/
structure ProtectionEntry where
  enable : Bool
  cut : Bool
  latch : Bool
  count : Bool
  byUnplug : Bool
  byCommand : Bool
  byTime : Bool
  deriving DecidableEq, Repr

/-- The alarm raw status (04 Table 4.5). -/
structure RawStatus where
  outletLatch : Bool
  tapLatch : Bool
  outOfService : Bool
  feederCongested : Bool
  tideStale : Bool
  upstreamLost : Bool
  deviceLost : Bool
  saleListFull : Bool
  clockInvalid : Bool
  serviceHold : Bool
  deriving DecidableEq, Repr

/-- The outlet unit. `attempts` lists the feeders that await an admission attempt in the present operation: the
model's own field, empty between steps (log 18). -/
structure OutletUnit where
  outlets : Table Outlet
  feeders : Table Feeder
  queue : List QueueEntry
  serviceHold : Bool
  protection : KindMap ProtectionEntry
  raw : RawStatus
  attempts : List Nat
  deriving DecidableEq, Repr

/-! ## Chapter 5: the tap unit -/

/-- Tap states (05 Table 5.3). -/
inductive TapState where
  | closed | opened | locked
  deriving DecidableEq, Repr

/-- A loaded tap (05 Table 5.1). `settleEnd` is the running settle time of the leak watch (04 R80). -/
structure Tap where
  address : Nat
  side : Side
  state : TapState
  reason : Reason
  readback : Contact
  lastClose : Nat
  settleEnd : Option Nat
  watchSum : Nat
  outOfService : Bool
  session : Option Session
  waiting : List WaitingClosing
  ends : List EndRecord
  endsDropped : Bool
  fault : FaultRecord
  deriving DecidableEq, Repr

/-- The tap unit. -/
structure TapUnit where
  taps : Table Tap
  waterSuspend : Bool
  deriving DecidableEq, Repr

/-! ## Chapter 6: the fuel unit -/

/-- Sale states of a dispenser (06 Table 6.4). -/
inductive SaleState where
  | idle | cardWait | holding | waitPump | authorised | delivering | settling | cancelling
  deriving DecidableEq, Repr

/-- A sale record (06 Table 6.3). -/
structure Sale where
  number : Option Half
  dispenser : Nat
  grade : Nat
  account : Option Nat
  token : Option Token
  price : Nat
  preset : Nat
  hold : Nat
  limit : Nat
  volume : Nat
  amount : Option Nat
  cash : Bool
  overrun : Bool
  incomplete : Bool
  startTime : Option Clock
  endTime : Option Clock
  deriving DecidableEq, Repr

/-- A card in wait (06 Table 6.1). -/
structure CardWait where
  token : Token
  grade : Nat
  preset : Nat
  deriving DecidableEq, Repr

/-- The nozzle of a dispenser (06 Table 6.1). -/
inductive Nozzle where
  | lifted | hung | unknown
  deriving DecidableEq, Repr

/-- A dispenser record (06 Table 6.1). `stopAcked`: the STOP of STOP SALE is acknowledged, and the next reply ends the
sale (06 R115, R116). -/
structure Dispenser where
  address : Nat
  hose0 : Bool
  hose1 : Bool
  state : SaleState
  card : Option CardWait
  sale : Option Sale
  nozzle : Nozzle
  volume : Nat
  total0 : Option Nat
  total1 : Option Nat
  nozzleEnd : Option Nat
  stopRequested : Bool
  stopAcked : Bool
  deriving DecidableEq, Repr

/-- A tank record (06 Table 6.2). -/
structure Tank where
  level : Nat
  cutoff : Nat
  shortfall : Bool
  deriving DecidableEq, Repr

/-- The fuel unit. -/
structure FuelUnit where
  dispensers : Table Dispenser
  fifo : List Nat
  tank0 : Tank
  tank1 : Tank
  sales : List Sale
  counter : Half
  newest : Option Half
  deriving DecidableEq, Repr

/-! ## Chapter 7: the gate unit -/

/-- The presence of a cached token (07 Table 7.2). -/
inductive Presence where
  | inside | outside | unknown
  deriving DecidableEq, Repr

/-- Decisions and events of the gate journal (07 Table 7.8). -/
inductive Decision where
  | granted | expired | notPermitted | unknownAccount | suspended | stopped | noBerth | passback | unknownToken
  | officeTimeout | queryBusy | busy | exitButton | doorForced | commandFailed
  deriving DecidableEq, Repr

/-- The unlock record of a reader (07 Table 7.1): the token of the grant, the presence its cache entry held before it,
and the presence the grant set; no presence where no entry held the token. -/
structure UnlockRecord where
  token : Token
  before : Option Presence
  given : Presence
  deriving DecidableEq, Repr

/-- A gate reader record (07 Table 7.1). Its pending query is the entry of the pending list that names it. -/
structure Reader where
  address : Nat
  side : GateSide
  last : Option (Token × Decision)
  unlock : Option UnlockRecord
  door : Contact
  windowEnd : Option Nat
  deriving DecidableEq, Repr

/-- A valid credential cache entry (07 Table 7.2); its index is its key, an index without an entry is not valid. -/
structure CacheEntry where
  tag : Nat
  pinned : Bool
  kind : CredKind
  account : Option Nat
  validUntil : Option Clock
  fuelPermitted : Bool
  presence : Presence
  deriving DecidableEq, Repr

/-- A pending query entry (07 Table 7.5). -/
structure Query where
  token : Token
  requester : Requester
  start : Nat
  timerEnd : Nat
  deriving DecidableEq, Repr

/-- A journal entry (07 Table 7.8). -/
structure JournalEntry where
  time : Option Clock
  requester : Requester
  token : Option Token
  decision : Decision
  clockInvalid : Bool
  passback : Bool
  queried : Bool
  notStored : Bool
  deriving DecidableEq, Repr

/-- The gate unit. `copied` counts the oldest journal entries copied into frames not yet transmitted (07 R141). -/
structure GateUnit where
  readers : Table Reader
  cache : Table CacheEntry
  queries : List Query
  journal : List JournalEntry
  copied : Nat
  gap : Bool
  deriving DecidableEq, Repr

/-! ## Chapter 8: the pedestal bus controller -/

/-- The lamp of a side (03 Table 3.10). -/
inductive Lamp where
  | dark | green | greenFlashing | amber | amberFlashing | red | redFlashing
  deriving DecidableEq, Repr

/-- The outputs of one side (08 R151). -/
structure SideOutputs where
  contactorClosed : Bool
  valveOpen : Bool
  lamp : Lamp
  deriving DecidableEq, Repr

/-- The output image of a pedestal (08 R151). -/
structure Image where
  a : SideOutputs
  b : SideOutputs
  deriving DecidableEq, Repr

/-- One side of a pedestal status reply (08 Table 8.8). -/
structure SideStatus where
  plug : Bool
  leakA : Bool
  leakB : Bool
  breaker : Bool
  contactorClosed : Bool
  valveOpen : Bool
  current : Nat
  energy : Nat
  litres : Nat
  button : Nat
  deriving DecidableEq, Repr

/-- A status reply by kind (08 Tables 8.8, 8.10, 8.11). -/
inductive Status where
  | pedestal (a b : SideStatus)
  | gate (cardCount : Nat) (token : Token) (exitCount : Nat) (doorOpen : Bool)
  | dispenser (cardCount : Nat) (token : Token) (grade : Nat) (preset : Nat) (lifted : Bool) (volume : Nat)
      (total0 total1 : Nat)
  deriving DecidableEq, Repr

/-- A one-shot command (08 section 8.5, Table 8.7). -/
inductive OneShot where
  | unlock (seconds : Nat)
  | authorise (grade : Nat) (limit : Nat) (price : Nat)
  | stop
  | refuse (code : Nat)
  deriving DecidableEq, Repr

/-- A one-shot slot that holds a command: its transmission count and its sequence bit (08 R153, R154). -/
structure Slot where
  command : OneShot
  count : Nat
  bit : Bool
  deriving DecidableEq, Repr

/-- Device states (08 Table 8.2). -/
inductive DeviceState where
  | unpolled | online | missing | lost
  deriving DecidableEq, Repr

/-- A poll list entry (08 Table 8.1). The side of a gate and the hoses of a dispenser stand in their records. `acked` is
the acknowledged image of 04 Note 1 to Table 4.1. -/
structure Device where
  kind : DeviceKind
  pollClass : PollClass
  watch : List WatchField
  index : Nat
  state : DeviceState
  misses : Nat
  stored : Option Status
  energyA : Option Nat
  energyB : Option Nat
  litresA : Option Nat
  litresB : Option Nat
  total0 : Option Nat
  total1 : Option Nat
  desired : Image
  lastSent : Option Image
  lastTransmitted : Option Image
  acked : Option Image
  differSince : Option Nat
  sequence : Bool
  slot : Option Slot
  lastAddressed : Option Nat
  deriving DecidableEq, Repr

/-- A request frame on the bus (08 Table 8.7). -/
inductive Request where
  | poll (resync : Bool)
  | setOutputs (image : Image)
  | oneShot (command : OneShot)
  deriving DecidableEq, Repr

/-- The exchange in progress: the device addressed, the request, its sequence bit, the moment it was sent (08 R149). -/
structure Exchange where
  address : Nat
  request : Request
  bit : Bool
  started : Nat
  deriving DecidableEq, Repr

/-- The stages of the poll cycle (08 R150); the output stage has its SET OUTPUTS part and its one-shot part. -/
inductive Stage where
  | outputs | oneShots | fast | slow | done
  deriving DecidableEq, Repr

/-- The poll cycle (08 R150): the cycle counter, the present stage, the pedestals sent SET OUTPUTS in this cycle, the
last address served in the present stage, the devices polled in the fast stage, the position of the slow stage,
whether the cycle has sent anything, the cycles in a row that sent nothing, and the poll classes that a DEVICE LOAD
replaced in this cycle and that stand until the next (08 R145). -/
structure Cycle where
  counter : Nat
  stage : Stage
  imaged : List Nat
  position : Nat
  fastPolled : List Nat
  slowPosition : Nat
  sent : Bool
  empty : Nat
  classes : Table PollClass
  deriving DecidableEq, Repr

/-- The pedestal bus controller. -/
structure BusController where
  devices : Table Device
  exchange : Option Exchange
  cycle : Cycle
  roundPolled : List Nat
  deriving DecidableEq, Repr

/-! ## Chapter 11: the tally unit -/

/-- The live tallies (11 Table 11.1). Fuel tallies are keyed by twice the dispenser plus the grade. -/
structure Tallies where
  energy : Table Nat
  litres : Table Nat
  fuelSold : Table Nat
  totaliser : Table Nat
  salesCompleted : Nat
  cashVolume0 : Nat
  cashVolume1 : Nat
  cashAmount0 : Nat
  cashAmount1 : Nat
  chargedPower : Nat
  chargedWater : Nat
  chargedFuel0 : Nat
  chargedFuel1 : Nat
  deriving DecidableEq, Repr

/-- A frozen account (11 Table 11.2). -/
structure FrozenAccount where
  number : Nat
  balance : Int
  power : Nat
  water : Nat
  fuel : Nat
  deriving DecidableEq, Repr

/-- A freeze in force: the frozen view and the auto-release timer (11 Table 11.2). -/
structure Freeze where
  moment : Option Clock
  tallies : Tallies
  level0 : Nat
  level1 : Nat
  accounts : List FrozenAccount
  releaseEnd : Nat
  deriving DecidableEq, Repr

/-- Why the last freeze ended (11 R186). -/
inductive FreezeEnd where
  | release | autoRelease | close | restart
  deriving DecidableEq, Repr

/-- The tally unit; FROZEN while `freeze` is present. -/
structure TallyUnit where
  live : Tallies
  freeze : Option Freeze
  lastEnd : Option FreezeEnd
  period : Half
  deriving DecidableEq, Repr

/-! ## Chapter 10: configuration -/

/-- Passback modes (07 R130). -/
inductive PassbackMode where
  | off | log | enforce
  deriving DecidableEq, Repr

/-- Upstream priorities (09 R165). -/
inductive UpstreamPriority where
  | thruFirst | localFirst
  deriving DecidableEq, Repr

/-- Initiation modes (09 R168). -/
inductive ReportMode where
  | onChange | periodic | both | polledOnly
  deriving DecidableEq, Repr

/-- One value per report source class (09 Table 9.3). -/
structure ClassMap (α : Type) where
  berth : α
  outlet : α
  tap : α
  account : α
  feeder : α
  journal : α
  query : α
  sale : α
  alarm : α
  status : α
  deriving DecidableEq, Repr

/-- The segment configuration record (10 Table 10.5), in the units of the table. -/
structure SegmentConfig where
  offerTime : Nat
  noShowGrace : Nat
  tideStaleLimit : Nat
  tideFloor : Int
  keelClearance : Nat
  averagingDepth : Nat
  overcurrentRatio : Nat
  autoRecoveryTime : Nat
  autoRecoveryEnable : Bool
  tripLimit : Nat
  tripWindow : Nat
  disagreementTime : Nat
  energyJumpLimit : Nat
  litreJumpLimit : Nat
  dispensePeriod : Nat
  leakThreshold : Nat
  settleTime : Nat
  queryTimeout : Nat
  unlockTime : Nat
  passback : PassbackMode
  cacheLow : Nat
  cacheHigh : Nat
  missLimit : Nat
  nozzleTimeout : Nat
  pumpConcurrency : Nat
  defaultPreset : Nat
  maximumPreset : Nat
  upstreamPriority : UpstreamPriority
  promoteAge : Nat
  silenceLimit : Nat
  freezeRelease : Nat
  outletOverride : Bool
  holdAtStart : Bool
  alarmMask : RawStatus
  modes : ClassMap ReportMode
  periods : ClassMap Nat
  deriving DecidableEq, Repr

/-! ## Replies and reports -/

/-- The reason codes of Table 10.3. -/
inductive ReasonCode where
  | unknownType | badLength | outOfRange | notFound | exists | tableFull | wrongState | inUse | notPermitted
  | conditionPresent | noFit | insufficientCredit | busy | notFrozen
  deriving DecidableEq, Repr

/-- The flags of ACCEPTED replies. -/
inductive ReplyFlag where
  | clamped | tideStale | powerUnavailable | saturated | notStored | displaced | reportQueued | alreadyFrozen
  deriving DecidableEq, Repr

/-- Why a report was built (09 Table 9.4). -/
inductive Cause where
  | change | periodic | read
  deriving DecidableEq, Repr

/-- The session values an outlet or tap report carries (03 R69, 05 R102). -/
structure SessionReport where
  account : Nat
  startTime : Option Clock
  quantity : Nat
  charged : Nat
  remaining : Option Nat
  deriving DecidableEq, Repr

/-- The fields of a berth as BERTH READ returns them (01 R3): `remaining`, the whole seconds left of an offer;
`expiry`, a HELD berth's segment clock time. -/
structure BerthView where
  label : Half
  cls : BerthClass
  maxLength : Nat
  maxBeam : Nat
  depth : Nat
  service : Option SideRef
  state : BerthState
  account : Option Nat
  vessel : Option Vessel
  remaining : Option Nat
  expiry : Option Clock
  reason : BerthReason
  deriving DecidableEq, Repr

/-- A berth report (01 R21). -/
structure BerthReport where
  index : Nat
  label : Half
  cls : BerthClass
  state : BerthState
  reason : BerthReason
  account : Option Nat
  vessel : Option Vessel
  expiry : Option Clock
  remaining : Option Nat
  deriving DecidableEq, Repr

/-- An outlet report (03 R69). -/
structure OutletReport where
  index : Nat
  address : Nat
  side : Side
  rating : Nat
  feeder : Nat
  state : OutletState
  reason : Reason
  lock : Bool
  plug : Plug
  contactorClosed : Bool
  readback : Contact
  current : Nat
  reservation : Option Reservation
  session : Option SessionReport
  latches : KindMap Bool
  lastFault : Option (FaultKind × Nat)
  tripCount : Nat
  ends : List EndRecord
  endsDropped : Bool
  deriving DecidableEq, Repr

/-- A tap report (05 R102). -/
structure TapReport where
  index : Nat
  address : Nat
  side : Side
  state : TapState
  reason : Reason
  valveOpen : Bool
  readback : Contact
  session : Option SessionReport
  latches : KindMap Bool
  outOfService : Bool
  lastFault : Option (FaultKind × Nat)
  tripCount : Nat
  ends : List EndRecord
  endsDropped : Bool
  deriving DecidableEq, Repr

/-- An account notice (02 R45). -/
structure AccountReport where
  number : Nat
  balance : Int
  held : Nat
  standing : Standing
  saturated : Bool
  power : Nat
  water : Nat
  fuel : Nat
  deriving DecidableEq, Repr

/-- A feeder report (03 R70). -/
structure FeederReport where
  index : Nat
  capacity : Nat
  diversity : Nat
  shed : Nat
  restore : Nat
  reserved : Nat
  lastSum : Option Nat
  mean : Option Nat
  ringEntries : Nat
  congested : Bool
  queued : Nat
  lastShed : Option Nat
  deriving DecidableEq, Repr

/-- A credential query (07 R138). -/
structure QueryReport where
  token : Token
  requester : Requester
  side : Option GateSide
  age : Nat
  deriving DecidableEq, Repr

/-- The sale report (06 R123). -/
structure SaleReport where
  listed : Nat
  inProgress : Nat
  newest : Option Half
  oldest : Option Half
  states : List (Nat × SaleState)
  deriving DecidableEq, Repr

/-- The alarm status report (04 R89). -/
structure AlarmReport where
  raw : RawStatus
  mask : RawStatus
  drivenLow : Bool
  deriving DecidableEq, Repr

/-- A device in the segment status report (09 R171). -/
structure DeviceReport where
  address : Nat
  kind : DeviceKind
  state : DeviceState
  misses : Nat
  deriving DecidableEq, Repr

/-- The tide record as the segment status report carries it (09 R171, 01 Table 1.13). -/
structure TideReport where
  current : Int
  low : Int
  lowTime : Clock
  receipt : Option Clock
  age : Nat
  deriving DecidableEq, Repr

/-- The segment status report (09 R171). -/
structure StatusReport where
  segment : Nat
  clock : Clock
  timeValid : Bool
  tide : Option TideReport
  tideStale : Bool
  waterSuspend : Bool
  tank0 : Tank
  tank1 : Tank
  devices : List DeviceReport
  upConnected : Bool
  downConnected : Bool
  pauseSent : Bool
  upstreamHeld : Bool
  upstreamLost : Bool
  upErrors : Half
  downErrors : Half
  thruDiscards : Half
  downDiscards : Half
  localDiscards : Half
  frozen : Bool
  lastEnd : Option FreezeEnd
  period : Half
  deriving DecidableEq, Repr

/-- The body of a report, by class (09 Table 9.3). -/
inductive ReportBody where
  | berth (r : BerthReport)
  | outlet (r : OutletReport)
  | tap (r : TapReport)
  | account (r : AccountReport)
  | feeder (r : FeederReport)
  | journal (entries : List JournalEntry) (gap : Bool)
  | query (r : QueryReport)
  | sale (r : SaleReport)
  | alarm (r : AlarmReport)
  | status (r : StatusReport)
  deriving DecidableEq, Repr

/-- A report: header and body (09 Table 9.4). -/
structure Report where
  source : SourceId
  cause : Cause
  clock : Clock
  timeValid : Bool
  upstreamLost : Bool
  body : ReportBody
  deriving DecidableEq, Repr

/-- Page 0 of READ TALLY (11 R185). -/
structure TallyHead where
  period : Half
  moment : Option Clock
  pages : Nat
  level0 : Nat
  level1 : Nat
  salesCompleted : Nat
  cashVolume0 : Nat
  cashAmount0 : Nat
  chargedFuel0 : Nat
  cashVolume1 : Nat
  cashAmount1 : Nat
  chargedFuel1 : Nat
  chargedPower : Nat
  chargedWater : Nat
  deriving DecidableEq, Repr

/-- The pages of READ TALLY (11 R185). -/
inductive TallyPage where
  | head (h : TallyHead)
  | energy (values : List Nat)
  | litres (values : List Nat)
  | fuel (sold advance : List Nat)
  | accounts (rows : List FrozenAccount)
  deriving DecidableEq, Repr

/-- The result fields of ACCEPTED replies, as each owning chapter names them. -/
inductive ResultFields where
  | none
  | config (c : SegmentConfig)
  | time (clock : Clock) (valid : Bool)
  | report (r : Report)
  | berthState (index : Nat) (label : Half) (state : BerthState)
  | berthLoaded (index : Nat) (state : BerthState)
  | berth (index : Nat) (fields : BerthView)
  | allocated (index : Nat) (label : Half) (waste : Nat) (usableTide : Int)
  | accountLoaded (number : Nat) (standing : Standing) (position : Nat)
  | standing (standing : Standing)
  | toppedUp (balance : Int) (standing : Standing)
  | account (number : Nat) (record : Account) (noticePending : Bool)
  | outletState (index : Nat) (state : OutletState)
  | outletLock (index : Nat) (state : OutletState) (lock : Bool)
  | feeder (index : Nat) (reserved : Nat) (congested : Bool)
  | protection (kind : FaultKind) (entry : ProtectionEntry)
  | outletLatches (state : OutletState) (latches : KindMap Bool)
  | tapLatches (state : TapState) (latches : KindMap Bool)
  | tapState (index : Nat) (state : TapState)
  | waterSuspend (flag : Bool) (closed : Nat)
  | device (address : Nat) (state : DeviceState)
  | credential (index : Nat) (decided : Nat)
  | decided (count : Nat)
  | invalidated (count : Nat)
  | saleStarted (dispenser : Nat) (state : SaleState) (price : Nat) (limit : Nat)
  | saleCancelled
  | stopRequested
  | sale (record : Option Sale)
  | tank (index : Nat) (record : Tank)
  | frozen (period : Half) (moment : Option Clock)
  | closed (period : Half)
  | page (p : TallyPage)
  deriving DecidableEq, Repr

/-- The answer to a local frame (00 section 1.3.2). -/
inductive Answer where
  | accepted (flags : List ReplyFlag) (result : ResultFields)
  | refused (reason : ReasonCode)
  deriving DecidableEq, Repr

/-- A reply: type and tag of the frame it answers, the accepted-frame count, the answer (10 Table 10.2). -/
structure Reply where
  type : Byte
  tag : Byte
  count : Half
  answer : Answer
  deriving DecidableEq, Repr

/-! ## Chapter 9: the trunk unit -/

/-- A frame the part makes itself for UP. -/
inductive LocalFrame where
  | reply (r : Reply)
  | noRoute (tag : Byte) (dest : Byte) (count : Nat)
  | report (r : Report)
  deriving DecidableEq, Repr

/-- The head of a trunk frame: destination, source, type and tag (09 Table 9.4). -/
structure FrameHead where
  dest : Byte
  source : Byte
  type : Byte
  tag : Byte
  deriving DecidableEq, Repr

/-- A frame of the LOCAL queue: its head, its content and its moment of entry. -/
structure LocalEntry where
  head : FrameHead
  frame : LocalFrame
  entered : Nat
  deriving DecidableEq, Repr

/-- A frame of the THRU queue with its moment of entry. -/
structure ThruEntry where
  frame : Frame
  entered : Nat
  deriving DecidableEq, Repr

/-- The frame being transmitted on UP. -/
inductive UpTransmission where
  | thru (f : Frame)
  | ownFrame (head : FrameHead) (f : LocalFrame)
  deriving DecidableEq, Repr

/-- A link frame (09 R164). -/
inductive LinkFrame where
  | pause | resume
  deriving DecidableEq, Repr

/-- A local frame in the intake: its head, and the form its payload spells (none: no form of its type). -/
structure IntakeFrame where
  broadcast : Bool
  type : Byte
  tag : Byte
  form : Option LocalBody
  deriving DecidableEq, Repr

/-- The NO_ROUTE record (09 R162). -/
structure NoRoute where
  tag : Byte
  dest : Byte
  count : Nat
  deriving DecidableEq, Repr

/-- The report-pending machinery of one source (09 R168): the pending mark, the moment the mark was first set since the
last build, the periodic flag with the moment of the expiry that set it, the running period timer, the last-reported
image. A source exists exactly while it has an entry. -/
structure SourceRecord where
  mark : Bool
  first : Option Nat
  periodic : Option Nat
  timerEnd : Option Nat
  image : Option ReportBody
  deriving DecidableEq, Repr

/-- The trunk unit (09 Table 9.1). The report sources are keyed by class code and identity. `pauseEnd` is the 200 ms
timer while pause sent is set; `heldEnd` the hold time while upstream held is set; `silenceFrom` the moment the
silence time counts from. -/
structure TrunkUnit where
  upConnected : Bool
  downConnected : Bool
  thru : List ThruEntry
  down : List Frame
  own : List LocalEntry
  intake : Option IntakeFrame
  noRoute : Option NoRoute
  pauseSent : Bool
  pauseEnd : Option Nat
  links : List LinkFrame
  heldEnd : Option Nat
  lost : Bool
  silenceFrom : Nat
  upErrors : Half
  downErrors : Half
  thruDiscards : Half
  downDiscards : Half
  localDiscards : Half
  transmitting : Option UpTransmission
  lastDown : Option Frame
  sources : Table SourceRecord
  deriving DecidableEq, Repr

/-! ## Chapter 10: the management unit -/

/-- What the management unit is doing (09 R166, 10 R173). -/
inductive Work where
  | idle
  | office (fr : IntakeFrame)
  | hold (fr : IntakeFrame) (dispenser : Nat)
  | reply (r : Reply)
  deriving DecidableEq, Repr

/-- The management unit. `secondStart` is the moment the measured second began (10 R178). -/
structure ManagementUnit where
  config : SegmentConfig
  clock : Clock
  timeValid : Bool
  secondStart : Nat
  accepted : Half
  work : Work
  deriving DecidableEq, Repr

/-- Held at reset, starting up, or running (10 R179). -/
inductive Phase where
  | held | startUp | running
  deriving DecidableEq, Repr

/-! ## The state -/

/-- The state of the part: the queue of commands, the phase, the strap latches, the reference clock, and the blocks. -/
structure State where
  pending : List Instr
  phase : Phase
  straps : Straps
  now : Nat
  mgmt : ManagementUnit
  berth : BerthUnit
  charge : ChargeEngine
  outlet : OutletUnit
  tap : TapUnit
  fuel : FuelUnit
  gate : GateUnit
  bus : BusController
  trunk : TrunkUnit
  tally : TallyUnit
  deriving DecidableEq, Repr

/-! ## Reset -/

/-- The same value for every fault kind. -/
def KindMap.all {α : Type} (a : α) : KindMap α := ⟨a, a, a, a, a, a, a⟩

/-- The same value for every report source class. -/
def ClassMap.all {α : Type} (a : α) : ClassMap α := ⟨a, a, a, a, a, a, a, a, a, a⟩

/-- A raw status with every condition alike. -/
def RawStatus.all (b : Bool) : RawStatus := ⟨b, b, b, b, b, b, b, b, b, b⟩

/-- The defaults of Table 10.5. -/
def SegmentConfig.defaults : SegmentConfig where
  offerTime := 300
  noShowGrace := 1800
  tideStaleLimit := 1800
  tideFloor := 0
  keelClearance := 30
  averagingDepth := 8
  overcurrentRatio := 110
  autoRecoveryTime := 60
  autoRecoveryEnable := false
  tripLimit := 3
  tripWindow := 24
  disagreementTime := 10
  energyJumpLimit := 4000
  litreJumpLimit := 500
  dispensePeriod := 20
  leakThreshold := 2
  settleTime := 30
  queryTimeout := 1500
  unlockTime := 5
  passback := .enforce
  cacheLow := 0
  cacheHigh := 0xFFFFFFFF
  missLimit := 3
  nozzleTimeout := 120
  pumpConcurrency := 2
  defaultPreset := 20000
  maximumPreset := 200000
  upstreamPriority := .thruFirst
  promoteAge := 200
  silenceLimit := 5
  freezeRelease := 600
  outletOverride := false
  holdAtStart := true
  alarmMask := RawStatus.all true
  modes := ClassMap.all .onChange
  periods := ClassMap.all 60

/-- The defaults of the protection action table (04 Table 4.2). -/
def defaultProtection : KindMap ProtectionEntry where
  overcurrent := ⟨true, true, true, true, true, true, false⟩
  earthLeak := ⟨true, true, true, true, false, true, false⟩
  leakDisagree := ⟨true, false, true, false, false, true, false⟩
  contactor := ⟨true, true, true, true, false, true, false⟩
  meter := ⟨true, false, true, false, false, true, false⟩
  leak := ⟨true, true, true, true, false, true, false⟩
  valve := ⟨true, true, true, true, false, true, false⟩

/-- All live tallies 0 (11 R188). -/
def Tallies.zero : Tallies := ⟨[], [], [], [], 0, 0, 0, 0, 0, 0, 0, 0, 0⟩

/-- The start of the poll cycle (08 R159). -/
def Cycle.start : Cycle := ⟨0, .outputs, [], 0, [], 0, false, 0, []⟩

/-- A source with nothing set (09 R172). -/
def SourceRecord.clear : SourceRecord := ⟨false, none, none, none, none⟩

/-- The management unit at power-on (10 R182). -/
def ManagementUnit.start : ManagementUnit := ⟨SegmentConfig.defaults, 0, false, 0, 0, .idle⟩

/-- The berth unit at power-on (01 R22). -/
def BerthUnit.start : BerthUnit := ⟨[], none, true⟩

/-- The charge engine at power-on (02 R46). -/
def ChargeEngine.start : ChargeEngine := ⟨[], [], [], [], [], [], .office⟩

/-- The outlet unit at power-on (03 R71, 04 R91). -/
def OutletUnit.start : OutletUnit := ⟨[], [], [], true, defaultProtection, RawStatus.all false, []⟩

/-- The tap unit at power-on (05 R103). -/
def TapUnit.start : TapUnit := ⟨[], false⟩

/-- The fuel unit at power-on (06 R124). -/
def FuelUnit.start : FuelUnit := ⟨[], [], ⟨0, 0, false⟩, ⟨0, 0, false⟩, [], 0, none⟩

/-- The gate unit at power-on (07 R142). -/
def GateUnit.start : GateUnit := ⟨[], [], [], [], 0, false⟩

/-- The bus controller at power-on (08 R159). -/
def BusController.start : BusController := ⟨[], none, Cycle.start, []⟩

/-- The trunk unit at power-on (09 R172). The sale source exists from power-on (06 R124), and so do the alarm and
segment status sources; the journal source comes at the end of start-up (07 R142). Keys: class code times 2^24. -/
def TrunkUnit.start : TrunkUnit where
  upConnected := false
  downConnected := false
  thru := []
  down := []
  own := []
  intake := none
  noRoute := none
  pauseSent := false
  pauseEnd := none
  links := []
  heldEnd := none
  lost := false
  silenceFrom := 0
  upErrors := 0
  downErrors := 0
  thruDiscards := 0
  downDiscards := 0
  localDiscards := 0
  transmitting := none
  lastDown := none
  sources := [(134217728, SourceRecord.clear), (150994944, SourceRecord.clear), (167772160, SourceRecord.clear)]

/-- The tally unit at power-on (11 R188). -/
def TallyUnit.start : TallyUnit := ⟨Tallies.zero, none, none, 0⟩

/-- The machine right after reset: the RESET pin holds every block at its power-on values (10 R179), the straps are not
read yet (the latches are at 0: DESIGN CHOICE, log 3), and no command waits. -/
def State.reset : State where
  pending := []
  phase := .held
  straps := ⟨0, false, false⟩
  now := 0
  mgmt := ManagementUnit.start
  berth := BerthUnit.start
  charge := ChargeEngine.start
  outlet := OutletUnit.start
  tap := TapUnit.start
  fuel := FuelUnit.start
  gate := GateUnit.start
  bus := BusController.start
  trunk := TrunkUnit.start
  tally := TallyUnit.start

end Sys2Proof.Machine
end

