-- ==== Sys2Proof/Machine/Ops.lean ====
section
/-! DEFINITION. The named operations the blocks share: time, look-ups by side, record updates, report marks, replies, the
gate journal, counts and one-shot slots. The part has no exception entry and no return from one: what raises a condition
does so on the alarm raw status (04 R89), which Flags computes. -/

namespace Sys2Proof

/-- The class codes of Table 9.3. -/
def ReportClass.code : ReportClass → Nat
  | .berth => 1
  | .outlet => 2
  | .tap => 3
  | .account => 4
  | .feeder => 5
  | .journal => 6
  | .query => 7
  | .sale => 8
  | .alarm => 9
  | .status => 10

/-- The class of a code of Table 9.3. -/
def ReportClass.ofCode : Nat → Option ReportClass
  | 1 => some .berth
  | 2 => some .outlet
  | 3 => some .tap
  | 4 => some .account
  | 5 => some .feeder
  | 6 => some .journal
  | 7 => some .query
  | 8 => some .sale
  | 9 => some .alarm
  | 10 => some .status
  | _ => none

end Sys2Proof

namespace Sys2Proof.Machine

open Sys2Proof

/-! ## Time -/

/-- The reference clock has reached a moment: what the expiry of a timer that runs to it tells (log 1). -/
def State.advanceTo (t : Nat) (s : State) : State := { s with now := max s.now t }

/-- One millisecond of the reference clock (log 1). -/
def State.tick (s : State) : State := { s with now := s.now + 1 }

/-- The segment clock as a record of it: absent while TIME_VALID is false (10 R178). -/
def State.clockValue (s : State) : Option Clock := if s.mgmt.timeValid then some s.mgmt.clock else none

/-- Whole seconds remaining to a moment, rounded up (01 R3, 05 R102). -/
def secondsLeft (now deadline : Nat) : Nat := (deadline - now + 999) / 1000

/-! ## The part -/

/-- The segment number held from the straps (10 R177). -/
def State.segment (s : State) : Nat := s.straps.seg.toNat

/-- Whether the straps make the part transparent (10 R177). -/
def State.transparent (s : State) : Bool := s.segment == 0 || s.segment == 63

/-- An active part past its start-up: only then do its units take frames, events and timers (10 R177, R179). -/
def State.active (s : State) : Bool := decide (s.phase = .running) && !s.transparent

/-! ## Kind maps and class maps -/

/-- The value of a fault kind. -/
def KindMap.get {α : Type} (m : KindMap α) : FaultKind → α
  | .overcurrent => m.overcurrent
  | .earthLeak => m.earthLeak
  | .leakDisagree => m.leakDisagree
  | .contactor => m.contactor
  | .meter => m.meter
  | .leak => m.leak
  | .valve => m.valve

/-- Replace the value of a fault kind. -/
def KindMap.set {α : Type} (m : KindMap α) (k : FaultKind) (a : α) : KindMap α :=
  match k with
  | .overcurrent => { m with overcurrent := a }
  | .earthLeak => { m with earthLeak := a }
  | .leakDisagree => { m with leakDisagree := a }
  | .contactor => { m with contactor := a }
  | .meter => { m with meter := a }
  | .leak => { m with leak := a }
  | .valve => { m with valve := a }

/-- A kind map by its values. -/
def KindMap.of {α : Type} (g : FaultKind → α) : KindMap α :=
  ⟨g .overcurrent, g .earthLeak, g .leakDisagree, g .contactor, g .meter, g .leak, g .valve⟩

/-- The fault kinds in the order of Table 4.1. -/
def faultKinds : List FaultKind := [.overcurrent, .earthLeak, .leakDisagree, .contactor, .meter, .leak, .valve]

/-- Whether any latch is set. -/
def KindMap.any (m : KindMap Bool) : Bool := faultKinds.any m.get

/-- The value of a report source class. -/
def ClassMap.get {α : Type} (m : ClassMap α) : ReportClass → α
  | .berth => m.berth
  | .outlet => m.outlet
  | .tap => m.tap
  | .account => m.account
  | .feeder => m.feeder
  | .journal => m.journal
  | .query => m.query
  | .sale => m.sale
  | .alarm => m.alarm
  | .status => m.status

/-- Replace the value of a report source class. -/
def ClassMap.set {α : Type} (m : ClassMap α) (c : ReportClass) (a : α) : ClassMap α :=
  match c with
  | .berth => { m with berth := a }
  | .outlet => { m with outlet := a }
  | .tap => { m with tap := a }
  | .account => { m with account := a }
  | .feeder => { m with feeder := a }
  | .journal => { m with journal := a }
  | .query => { m with query := a }
  | .sale => { m with sale := a }
  | .alarm => { m with alarm := a }
  | .status => { m with status := a }

/-- The key of a source: sources of equal due moment are taken in ascending order of it (09 R167). -/
def sourceKey (x : SourceId) : Nat := x.cls.code * 16777216 + x.ident

/-- The source of a key. -/
def sourceOfKey (k : Nat) : SourceId := ⟨(ReportClass.ofCode (k / 16777216)).getD .status, k % 16777216⟩

/-- The identity of a credential query source (09 Table 9.3). -/
def queryIdent : Requester → Nat
  | .gate n => n
  | .dispenser n => n + 4

/-! ## Record updates -/

/-- Store a berth. -/
def State.setBerth (i : Nat) (b : Berth) (s : State) : State :=
  { s with berth := { s.berth with berths := s.berth.berths.set i b } }

/-- Store an account record. -/
def State.setAccount (n : Nat) (a : Account) (s : State) : State :=
  { s with charge := { s.charge with accounts := s.charge.accounts.set n a } }

/-- Store an outlet. -/
def State.setOutlet (i : Nat) (o : Outlet) (s : State) : State :=
  { s with outlet := { s.outlet with outlets := s.outlet.outlets.set i o } }

/-- Change an outlet, where it is loaded. -/
def State.modOutlet (i : Nat) (f : Outlet → Outlet) (s : State) : State :=
  { s with outlet := { s.outlet with outlets := s.outlet.outlets.modify i f } }

/-- Store a feeder. -/
def State.setFeeder (i : Nat) (f : Feeder) (s : State) : State :=
  { s with outlet := { s.outlet with feeders := s.outlet.feeders.set i f } }

/-- Store a tap. -/
def State.setTap (i : Nat) (t : Tap) (s : State) : State :=
  { s with tap := { s.tap with taps := s.tap.taps.set i t } }

/-- Change a tap, where it is loaded. -/
def State.modTap (i : Nat) (f : Tap → Tap) (s : State) : State :=
  { s with tap := { s.tap with taps := s.tap.taps.modify i f } }

/-- Store a dispenser record. -/
def State.setDispenser (i : Nat) (d : Dispenser) (s : State) : State :=
  { s with fuel := { s.fuel with dispensers := s.fuel.dispensers.set i d } }

/-- Change a dispenser record, where there is one. -/
def State.modDispenser (i : Nat) (f : Dispenser → Dispenser) (s : State) : State :=
  { s with fuel := { s.fuel with dispensers := s.fuel.dispensers.modify i f } }

/-- Store a gate reader record. -/
def State.setReader (i : Nat) (r : Reader) (s : State) : State :=
  { s with gate := { s.gate with readers := s.gate.readers.set i r } }

/-- Change a gate reader record, where there is one. -/
def State.modReader (i : Nat) (f : Reader → Reader) (s : State) : State :=
  { s with gate := { s.gate with readers := s.gate.readers.modify i f } }

/-- Store a poll list entry. -/
def State.setDevice (a : Nat) (d : Device) (s : State) : State :=
  { s with bus := { s.bus with devices := s.bus.devices.set a d } }

/-- Change a poll list entry, where there is one. -/
def State.modDevice (a : Nat) (f : Device → Device) (s : State) : State :=
  { s with bus := { s.bus with devices := s.bus.devices.modify a f } }

/-- Change the live tallies. -/
def State.modLive (f : Tallies → Tallies) (s : State) : State :=
  { s with tally := { s.tally with live := f s.tally.live } }

/-- Store what the management unit is doing. -/
def State.setWork (w : Work) (s : State) : State := { s with mgmt := { s.mgmt with work := w } }

/-! ## Look-ups -/

/-- The loaded berth whose service side is a given side (01 R1). -/
def State.berthOfSide (s : State) (r : SideRef) : Option (Nat × Berth) :=
  s.berth.berths.find? fun p => decide (p.2.service = some r)

/-- The loaded outlet of a side (01 R1). -/
def State.outletOfSide (s : State) (r : SideRef) : Option (Nat × Outlet) :=
  s.outlet.outlets.find? fun p => decide (p.2.address = r.address ∧ p.2.side = r.side)

/-- The loaded tap of a side (01 R1). -/
def State.tapOfSide (s : State) (r : SideRef) : Option (Nat × Tap) :=
  s.tap.taps.find? fun p => decide (p.2.address = r.address ∧ p.2.side = r.side)

/-- The side an outlet names. -/
def Outlet.ref (o : Outlet) : SideRef := ⟨o.address, o.side⟩

/-- The side a tap names. -/
def Tap.ref (t : Tap) : SideRef := ⟨t.address, t.side⟩

/-- The account record of a number (02 R24). -/
def State.account (s : State) (n : Nat) : Option Account := s.charge.accounts.get n

/-- The berths an account occupies, in order of index (02 R28). -/
def State.occupiedBy (s : State) (n : Nat) : List (Nat × Berth) :=
  s.berth.berths.filter fun p => decide (p.2.state = .occupied ∧ p.2.account = some n)

/-- The tariff row of a class (02 section 2.4); a row not loaded holds prices of 0 (02 R46). -/
def State.tariffRow (s : State) (cls : Nat) : TariffRow := s.charge.tariff.getD cls ⟨0, 0, 0, 0⟩

/-! ## Report sources -/

/-- Set a source's pending mark; the moment it was first set since the last build is kept (09 R168). -/
def SourceRecord.marked (now : Nat) (r : SourceRecord) : SourceRecord :=
  { r with mark := true, first := r.first.or (some now) }

/-- Clear a source's pending mark where nothing is built: the moment it was first set since the last build stands. -/
def SourceRecord.unmarked (r : SourceRecord) : SourceRecord := { r with mark := false }

/-- Change the record of a source, where the source exists. -/
def State.modSource (x : SourceId) (f : SourceRecord → SourceRecord) (s : State) : State :=
  { s with trunk := { s.trunk with sources := s.trunk.sources.modify (sourceKey x) f } }

/-- Mark a report source pending, where it exists (09 R168). -/
def State.mark (cls : ReportClass) (ident : Nat) (s : State) : State :=
  s.modSource ⟨cls, ident⟩ (SourceRecord.marked s.now)

/-- Mark the segment status report source pending. -/
def State.markStatus (s : State) : State := s.mark .status 0

/-- The initiation mode of a class; credential queries are in ON_CHANGE whatever the configuration (07 R138). -/
def State.mode (s : State) (c : ReportClass) : ReportMode :=
  match c with
  | .query => .onChange
  | c => s.mgmt.config.modes.get c

/-- Whether the period timer runs in a mode (09 R168). -/
def ReportMode.timed : ReportMode → Bool
  | .periodic | .both => true
  | .onChange | .polledOnly => false

/-- The period timer of a source of a class, started now (09 R168). -/
def State.freshTimer (s : State) (c : ReportClass) : Option Nat :=
  if (s.mode c).timed then some (s.now + s.mgmt.config.periods.get c * 1000) else none

/-- A source comes to exist, with nothing set and its period timer started; an existing one is left alone. -/
def State.createSource (cls : ReportClass) (ident : Nat) (s : State) : State :=
  let k := sourceKey ⟨cls, ident⟩
  if s.trunk.sources.has k then s
  else { s with trunk := { s.trunk with
    sources := s.trunk.sources.set k { SourceRecord.clear with timerEnd := s.freshTimer cls } } }

/-- A source ceases. -/
def State.removeSource (cls : ReportClass) (ident : Nat) (s : State) : State :=
  { s with trunk := { s.trunk with sources := s.trunk.sources.erase (sourceKey ⟨cls, ident⟩) } }

/-! ## Replies -/

/-- The type of a frame the part makes for UP (09 Table 9.4, 10 Table 10.1). -/
def LocalFrame.type : LocalFrame → Byte
  | .reply r => r.type
  | .noRoute _ _ _ => 0xF2
  | .report _ => 0xF8

/-- The tag of a frame the part makes for UP: that of the frame it answers, and 0 in a report (09 R167). -/
def LocalFrame.tag : LocalFrame → Byte
  | .reply r => r.tag
  | .noRoute tag _ _ => tag
  | .report _ => 0

/-- A frame of the part's own as it enters the LOCAL queue now: for the office (63), from this segment (09 R167,
10 R177). -/
def State.entryOf (s : State) (f : LocalFrame) : LocalEntry :=
  ⟨⟨63, BitVec.ofNat 8 s.segment, f.type, f.tag⟩, f, s.now⟩

/-- A reply enters the LOCAL queue where a slot is free, and frees the management unit; otherwise it waits there
(09 R166, R167). -/
def State.enterReply (r : Reply) (s : State) : State :=
  if s.trunk.own.length < Config.localCapacity then
    { s with
      trunk := { s.trunk with own := s.trunk.own ++ [s.entryOf (.reply r)] }
      mgmt := { s.mgmt with work := .idle } }
  else s.setWork (.reply r)

/-- Answer a local frame: a reply of its type plus 0x80, its tag and the accepted-frame count (10 Table 10.1, R174); a
broadcast is not answered (10 R173). -/
def State.answer (fr : IntakeFrame) (a : Answer) (s : State) : State :=
  if fr.broadcast then s.setWork .idle
  else s.enterReply ⟨fr.type + 0x80, fr.tag, s.mgmt.accepted, a⟩

/-- Refuse a local frame with one reason code; nothing else changes (10 R173). -/
def State.refuse (fr : IntakeFrame) (c : ReasonCode) (s : State) : State := s.answer fr (.refused c)

/-- Accept a local frame. -/
def State.accept (fr : IntakeFrame) (flags : List ReplyFlag) (r : ResultFields) (s : State) : State :=
  s.answer fr (.accepted flags r)

/-- A flag where it applies. -/
def flagIf (b : Bool) (f : ReplyFlag) : List ReplyFlag := if b then [f] else []

/-! ## Counts -/

/-- One more in the UP error count (09 R161). -/
def State.countUpError (s : State) : State :=
  { s with trunk := { s.trunk with upErrors := s.trunk.upErrors + 1 } }.markStatus

/-- One more in the DOWN error count (09 R161, R163). -/
def State.countDownError (s : State) : State :=
  { s with trunk := { s.trunk with downErrors := s.trunk.downErrors + 1 } }.markStatus

/-- One more in the THRU discard count (09 R163). -/
def State.countThruDiscard (s : State) : State :=
  { s with trunk := { s.trunk with thruDiscards := s.trunk.thruDiscards + 1 } }.markStatus

/-- One more in the DOWN discard count (09 R162). -/
def State.countDownDiscard (s : State) : State :=
  { s with trunk := { s.trunk with downDiscards := s.trunk.downDiscards + 1 } }.markStatus

/-- One more in the local discard count (09 R162, 10 R173). -/
def State.countLocalDiscard (s : State) : State :=
  { s with trunk := { s.trunk with localDiscards := s.trunk.localDiscards + 1 } }.markStatus

/-! ## The gate journal -/

/-- Journal a decision or event (07 R140): it joins the end; at 32 entries it is not made and GAP is set. The journal
source is marked pending (07 R141). -/
def State.journalAdd (r : Requester) (t : Option Token) (d : Decision) (passback queried notStored clockFlag : Bool)
    (s : State) : State :=
  let g := s.gate
  let g' := if g.journal.length < Config.journalCapacity then
      { g with journal := g.journal ++ [⟨s.clockValue, r, t, d, clockFlag && !s.mgmt.timeValid, passback, queried,
        notStored⟩] }
    else { g with gap := true }
  { s with gate := g' }.mark .journal 0

/-! ## One-shot slots -/

/-- Whether a slot that holds a command takes a new one (08 R153): AUTHORISE and STOP are not displaced by REFUSE. -/
def OneShot.takes : OneShot → OneShot → Bool
  | .authorise _ _ _, .refuse _ | .stop, .refuse _ => false
  | _, _ => true

/-- Write a one-shot to the slot of a device (08 R153): stored with count 0 and the bit opposite to the entry's
sequence bit, or discarded. -/
def Device.writeSlot (c : OneShot) (d : Device) : Device :=
  match d.slot with
  | some old => if old.command.takes c then { d with slot := some ⟨c, 0, !d.sequence⟩ } else d
  | none => { d with slot := some ⟨c, 0, !d.sequence⟩ }

/-- A unit writes a one-shot for the device at an address. -/
def State.writeOneShot (a : Nat) (c : OneShot) (s : State) : State := s.modDevice a (Device.writeSlot c)

/-! ## Lists of postings -/

/-- Replace the entry of a source. -/
def replacePosting (src : Nat) (p : Posting) (l : List Posting) : List Posting :=
  l.map fun e => if e.source = src then p else e

/-- The entry of a source. -/
def findPosting (src : Nat) (l : List Posting) : Option Posting := l.find? fun e => decide (e.source = src)

/-- Remove the entry of a source. -/
def dropPosting (src : Nat) (l : List Posting) : List Posting := l.filter fun e => decide (e.source ≠ src)

/-- A delta of an open session goes to the source's slot (02 R37): a new entry, or added to the session's entry; none
where the slot holds a closing entry, and the delta stays with the session. -/
def postDelta (src acct q : Nat) (l : List Posting) : Option (List Posting) :=
  match findPosting src l with
  | none => some (l ++ [⟨src, acct, q, none⟩])
  | some e =>
    match e.closing with
    | none => some (replacePosting src { e with quantity := e.quantity + q } l)
    | some _ => none

/-- The entry of an ended session is made closing (02 R37): its own entry, a new one, or a waiting closing where the
slot holds the closing entry of an earlier session. -/
def closePosting (src acct unposted : Nat) (c : Closing) (l : List Posting) (w : List WaitingClosing) :
    List Posting × List WaitingClosing :=
  match findPosting src l with
  | none => (l ++ [⟨src, acct, unposted, some c⟩], w)
  | some e =>
    match e.closing with
    | none => (replacePosting src { e with closing := some c } l, w)
    | some _ => (l, w ++ [⟨acct, unposted, c⟩])

/-! ## Tallies -/

/-- Add to a lifetime tally, wrapping at 2^32 (11 Table 11.1, R183). -/
def addLifetime (k q : Nat) (t : Table Nat) : Table Nat := t.set k ((t.getD k 0 + q) % 4294967296)

/-- Add to a period tally, which stays at its upper limit (11 R183). -/
def addPeriod (x q : Nat) : Nat := min (x + q) Config.maxPeriodTotal

/-- A completed end record joins a list of at most 4, dropping the oldest (03 R67, 05 R99). -/
def addEnd (e : EndRecord) (ends : List EndRecord) (dropped : Bool) : List EndRecord × Bool :=
  if ends.length < Config.closingCapacity then (ends ++ [e], dropped) else (ends.tail ++ [e], true)

end Sys2Proof.Machine
end

