-- ==== Sys2Proof/Machine/Flags.lean ====
section
/-! DEFINITION. What the part derives from its records: standing, reserved sums and means, eligibility, the conditions of
the fault kinds, lamps and output images, tide staleness, the alarm raw status and the ALARM pin. -/

namespace Sys2Proof.Machine

open Sys2Proof

/-! ## Accounts -/

/-- The standing derived from a record (02 R27, Table 2.2). -/
def Account.derive (a : Account) : Standing :=
  if a.suspend then .suspended
  else if a.balance < -(a.overdraft : Int) then .stopped
  else if a.balance < a.warning then .low
  else .good

/-- Whether a standing is served at outlets and taps (02 Table 2.2). -/
def Standing.serves : Standing → Bool
  | .good | .low => true
  | .stopped | .suspended => false

/-- A balance and its change under the saturation rule, and whether it was brought to a bound (02 R32). -/
def saturate (balance change : Int) : Int × Bool :=
  let x := balance + change
  if x < -Config.maxBalance then (-Config.maxBalance, true)
  else if Config.maxBalance < x then (Config.maxBalance, true)
  else (x, false)

/-! ## Feeders -/

/-- The admission figure of a rating at a diversity (03 section 3.3). -/
def figureOf (rating diversity : Nat) : Nat := (rating * diversity + 99) / 100

/-- The figure a reservation adds to the reserved sum of a feeder. -/
def reservedOn (f : Nat) (r : Option Reservation) : Nat :=
  match r with
  | some x => if x.feeder = f then x.figure else 0
  | none => 0

/-- The reserved sum R of a feeder (03 Table 3.3). -/
def State.reservedSum (s : State) (f : Nat) : Nat := (s.outlet.outlets.map fun p => reservedOn f p.2.reservation).sum

/-- The mean of a feeder: absent while its ring is empty (03 R61). -/
def Feeder.mean (f : Feeder) : Option Nat := if f.ring.isEmpty then none else some (f.ring.sum / f.ring.length)

/-- The working feeder of an outlet (03 Note 1 to Table 3.1). -/
def Outlet.workingFeeder (o : Outlet) : Nat :=
  match o.reservation with
  | some r => r.feeder
  | none => o.feeder

/-! ## Pedestals -/

/-- Whether a state of a device is ONLINE or MISSING. -/
def DeviceState.reachable : DeviceState → Bool
  | .online | .missing => true
  | .unpolled | .lost => false

/-- Whether a side's pedestal is on the poll list as a PEDESTAL in ONLINE or MISSING (03 R52, 05 R94). -/
def State.pedestalServes (s : State) (address : Nat) : Bool :=
  match s.bus.devices.get address with
  | some d => decide (d.kind = .pedestal) && d.state.reachable
  | none => false

/-- Whether a side's berth is OCCUPIED by an account of standing GOOD or LOW (03 R52, 05 R94). -/
def State.sideServed (s : State) (r : SideRef) : Bool :=
  match s.berthOfSide r with
  | some (_, b) =>
    match b.state, b.account with
    | .occupied, some n => ((s.account n).map fun a => a.standing.serves).getD false
    | _, _ => false
  | none => false

/-! ## Eligibility -/

/-- Eligibility of an outlet, but for its latches (03 R52). -/
def State.outletMayServe (s : State) (o : Outlet) : Bool :=
  s.sideServed o.ref && !o.lock && !s.outlet.serviceHold && s.pedestalServes o.address &&
    decide (o.waiting.length < Config.closingCapacity)

/-- Whether an outlet is eligible (03 R52). -/
def State.outletEligible (s : State) (o : Outlet) : Bool := s.outletMayServe o && !o.fault.latches.any

/-- Whether a tap is eligible (05 R94). -/
def State.tapEligible (s : State) (t : Tap) : Bool :=
  s.sideServed t.ref && !t.fault.latches.any && !t.outOfService && !s.outlet.serviceHold && !s.tap.waterSuspend &&
    s.pedestalServes t.address && decide (t.waiting.length < Config.closingCapacity)

/-! ## Output images -/

/-- The outputs of a side (08 R151). -/
def Image.side (m : Image) : Side → SideOutputs
  | .a => m.a
  | .b => m.b

/-- The lamp of an outlet (03 Table 3.10): a LIVE outlet shows the standing of its session's account. -/
def State.lampOf (s : State) (o : Outlet) : Lamp :=
  match o.state with
  | .off => .dark
  | .ready => .greenFlashing
  | .waiting _ => .amber
  | .tripped => .red
  | .outOfService => .redFlashing
  | .live =>
    if decide ((o.session.bind fun x => (s.account x.account).map fun a => a.standing) = some Standing.low)
    then .amberFlashing else .green

/-- The outputs the units give a side (08 R151): contactor OPEN and lamp dark where no outlet is loaded, valve CLOSED
where no tap is. -/
def State.outputsOf (s : State) (r : SideRef) : SideOutputs :=
  let o := s.outletOfSide r
  let t := s.tapOfSide r
  { contactorClosed := (o.map fun p => decide (p.2.state = .live)).getD false
    valveOpen := (t.map fun p => decide (p.2.state = .opened)).getD false
    lamp := (o.map fun p => s.lampOf p.2).getD .dark }

/-- The image the units give a pedestal. -/
def State.imageOf (s : State) (address : Nat) : Image := ⟨s.outputsOf ⟨address, .a⟩, s.outputsOf ⟨address, .b⟩⟩

/-- Give an entry a desired image: the difference moment is set when a difference begins and goes when it ends
(08 R151). -/
def Device.desire (now : Nat) (m : Image) (d : Device) : Device :=
  { d with desired := m, differSince := if d.lastSent = some m then none else d.differSince.or (some now) }

/-- The units write the image of a pedestal. -/
def State.writeImage (address : Nat) (s : State) : State := s.modDevice address (Device.desire s.now (s.imageOf address))

/-! ## The conditions of the fault kinds (04 Table 4.1) -/

/-- Whether a pedestal is UNPOLLED, LOST or not on the poll list, so that every condition but METER's counts as present
(04 R73). -/
def State.silent (s : State) (address : Nat) : Bool := !s.pedestalServes address

/-- The outputs of a side in the last acknowledged image (04 Note 1 to Table 4.1). -/
def State.ackedSide (s : State) (r : SideRef) : Option SideOutputs :=
  ((s.bus.devices.get r.address).bind (·.acked)).map (·.side r.side)

/-- Whether a readback is known and differs from a commanded state (log 21). -/
def Contact.differs (c : Contact) (closed : Option Bool) : Bool :=
  match c, closed with
  | .closed, some false => true
  | .opened, some true => true
  | _, _ => false

/-- Whether a current is above the overcurrent threshold of a rating (04 R74). -/
def State.overThreshold (s : State) (rating current : Nat) : Bool :=
  decide (rating * s.mgmt.config.overcurrentRatio < current * 100)

/-- Whether a kind's condition is present at an outlet (04 R73): every kind's but METER's while the pedestal is silent,
at RETURN TO SERVICE too (DEDUCED, log 54). -/
def State.outletCondition (s : State) (o : Outlet) (k : FaultKind) : Bool :=
  match k with
  | .meter | .leak | .valve => false
  | k => s.silent o.address ||
    match k with
    | .overcurrent => o.breaker || s.overThreshold o.rating o.current
    | .earthLeak => o.leakA || o.leakB
    | .leakDisagree => o.leakA != o.leakB
    | _ => o.readback.differs ((s.ackedSide o.ref).map (·.contactorClosed))

/-- Whether a kind's condition is present at a tap (04 R73, log 54). -/
def State.tapCondition (s : State) (t : Tap) (k : FaultKind) : Bool :=
  match k with
  | .leak => s.silent t.address || t.fault.litresAdvanced
  | .valve => s.silent t.address || t.readback.differs ((s.ackedSide t.ref).map fun x => !x.valveOpen)
  | _ => false

/-- The entry of a kind as it acts: OVERCURRENT has BY_TIME while the auto-recovery flag is set (04 R81). -/
def State.protectionOf (s : State) (k : FaultKind) : ProtectionEntry :=
  let e := s.outlet.protection.get k
  match k with
  | .overcurrent => { e with byTime := e.byTime || s.mgmt.config.autoRecoveryEnable }
  | _ => e

/-- The recovery timers of a record after its conditions changed: a timer stops while its condition is present, and one
starts when the condition of a set latch of a kind with BY_TIME becomes absent (04 R84, log 26). -/
def FaultRecord.edges (startEnd : Nat) (byTime was present : FaultKind → Bool) (f : FaultRecord) : FaultRecord :=
  { f with recovery := KindMap.of fun k =>
    if present k then none
    else (f.recovery.get k).or (if was k && f.latches.get k && byTime k then some startEnd else none) }

/-- The moment a recovery timer started now runs to (04 R81). -/
def State.recoveryEnd (s : State) : Nat := s.now + s.mgmt.config.autoRecoveryTime * 1000

/-- The fault record of an outlet after its conditions changed; `was` is the state before. -/
def State.outletEdges (was s : State) (i : Nat) (o : Outlet) : FaultRecord :=
  let before (k : FaultKind) : Bool := ((was.outlet.outlets.get i).map fun x => was.outletCondition x k).getD false
  o.fault.edges s.recoveryEnd (fun k => (s.protectionOf k).byTime) before (s.outletCondition o)

/-- The fault record of a tap after its conditions changed; `was` is the state before. -/
def State.tapEdges (was s : State) (i : Nat) (t : Tap) : FaultRecord :=
  let before (k : FaultKind) : Bool := ((was.tap.taps.get i).map fun x => was.tapCondition x k).getD false
  t.fault.edges s.recoveryEnd (fun k => (s.protectionOf k).byTime) before (s.tapCondition t)

/-- The recovery timers follow the conditions that an operation changed; `was` is the state before it. -/
def State.recoveryEdges (was s : State) : State :=
  let outlets := s.outlet.outlets.map fun p => (p.1, { p.2 with fault := was.outletEdges s p.1 p.2 })
  let taps := s.tap.taps.map fun p => (p.1, { p.2 with fault := was.tapEdges s p.1 p.2 })
  { s with outlet := { s.outlet with outlets := outlets }, tap := { s.tap with taps := taps } }

/-- The trip count of a fault record now: the trips within the trip window (04 R86). -/
def State.tripCount (s : State) (f : FaultRecord) : Nat :=
  (f.trips.filter fun t => decide (s.now ≤ t + s.mgmt.config.tripWindow * 3600000)).length

/-! ## Tide -/

/-- The age of the tide record, in whole seconds (01 Table 1.13, log 31). -/
def Tide.age (now : Nat) (t : Tide) : Nat := (now - t.taken) / 1000

/-- Whether the tide record is stale (01 R14). -/
def State.tideIsStale (s : State) : Bool :=
  match s.berth.tide with
  | none => true
  | some t => decide (s.mgmt.config.tideStaleLimit < t.age s.now)

/-- Test staleness and present it; a change marks the segment status source (01 R14). -/
def State.testTide (s : State) : State :=
  if s.berth.tideStale = s.tideIsStale then s
  else { s with berth := { s.berth with tideStale := s.tideIsStale } }.markStatus

/-! ## The alarm raw status and the ALARM pin (04 R89, R90) -/

/-- The sale list count: completed sales and sales in progress together (06 R106). -/
def State.salesInProgress (s : State) : Nat := (s.fuel.dispensers.filter fun p => p.2.sale.isSome).length

/-- The ten conditions as their owning blocks hold them (04 Table 4.5). -/
def State.conditions (s : State) : RawStatus where
  outletLatch := s.outlet.outlets.any fun p => p.2.fault.latches.any
  tapLatch := s.tap.taps.any fun p => p.2.fault.latches.any
  outOfService := (s.outlet.outlets.any fun p => decide (p.2.state = .outOfService)) ||
    s.tap.taps.any fun p => p.2.outOfService
  feederCongested := s.outlet.feeders.any fun p => p.2.congested
  tideStale := s.berth.tideStale
  upstreamLost := s.trunk.lost
  deviceLost := s.bus.devices.any fun p => decide (p.2.state = .lost)
  saleListFull := decide (Config.saleCapacity ≤ s.fuel.sales.length + s.salesInProgress)
  clockInvalid := !s.mgmt.timeValid
  serviceHold := s.outlet.serviceHold

/-- Pass the conditions to the outlet unit: a change of the raw status marks the alarm source (04 R89). -/
def State.refreshAlarm (s : State) : State :=
  if s.outlet.raw = s.conditions then s
  else { s with outlet := { s.outlet with raw := s.conditions } }.mark .alarm 0

/-- Pass the conditions on in an active part; a part held, starting up or transparent keeps its raw status (log 27). -/
def State.refreshActive (s : State) : State := if s.active then s.refreshAlarm else s

/-- The conditions both statuses hold. -/
def RawStatus.meets (a b : RawStatus) : Bool :=
  a.outletLatch && b.outletLatch || a.tapLatch && b.tapLatch || a.outOfService && b.outOfService ||
  a.feederCongested && b.feederCongested || a.tideStale && b.tideStale || a.upstreamLost && b.upstreamLost ||
  a.deviceLost && b.deviceLost || a.saleListFull && b.saleListFull || a.clockInvalid && b.clockInvalid ||
  a.serviceHold && b.serviceHold

/-- Whether the part drives the ALARM pin low (04 R90); otherwise the pin is released. -/
def State.alarmDrivenLow (s : State) : Bool := s.active && !s.outlet.raw.meets s.mgmt.config.alarmMask

end Sys2Proof.Machine
end

