-- ==== Sys2Proof/WellFormed.lean ====
section
/-! DEFINITION. When a command is well formed: its event names a record the part can hold, and its frame holds no more
than a length byte can say. Fields a rule range-checks are NOT checked here: the part refuses them itself. -/

namespace Sys2Proof

/-- A berth, outlet or tap index (00 section 1.3.1). -/
def indexOk (i : Nat) : Bool := decide (1 ≤ i ∧ i ≤ Config.tableSize)

/-- A reader, dispenser or feeder index (00 section 1.3.1). -/
def smallIndexOk (i : Nat) : Bool := decide (i ≤ 3)

/-- A pedestal bus address (00 Table 1.5). -/
def busAddressOk (a : Nat) : Bool := decide (1 ≤ a ∧ a ≤ 126)

/-- An account number (00 Table 1.5). -/
def accountOk (n : Nat) : Bool := decide (1 ≤ n ∧ n ≤ Config.maxAccount)

/-- The fault kinds that apply to an outlet or to a tap (04 Table 4.1). -/
def FaultKind.appliesTo : FaultKind → Target → Bool
  | .overcurrent, .outlet | .earthLeak, .outlet | .leakDisagree, .outlet | .contactor, .outlet | .meter, _ => true
  | .leak, .tap | .valve, .tap => true
  | _, _ => false

/-- The identities of each source class (09 Table 9.3). -/
def SourceId.wf (x : SourceId) : Bool :=
  match x.cls with
  | .berth | .outlet | .tap => indexOk x.ident
  | .account => accountOk x.ident
  | .feeder => smallIndexOk x.ident
  | .query => decide (x.ident ≤ 7)
  | .journal | .sale | .alarm | .status => decide (x.ident = 0)

/-- A requester's index (07 Table 7.5). -/
def Requester.wf : Requester → Bool
  | .gate n | .dispenser n => smallIndexOk n

/-- A class mask names no class twice. -/
def Allocate.wf (f : Allocate) : Bool :=
  match f.classMask with
  | some (.known l) => decide l.Nodup
  | some .unlisted | none => true

/-- A received trunk frame holds no more payload bytes than a length byte can count, and its reading no mask that
names a thing twice. -/
def RxFrame.wf (rx : RxFrame) : Bool :=
  decide (rx.frame.payload.length ≤ 255) &&
  match rx.form with
  | some (.allocate f) => f.wf
  | some (.deviceLoad f) => decide ((f.watch.getD []).Nodup)
  | _ => true

/-- A received bus frame holds no more payload bytes than a length byte can count. -/
def BusReply.wf (r : BusReply) : Bool := decide (r.payload.length ≤ 255)

/-- A form that satisfies a check, or no form at all. -/
def Form.all {α : Type} (p : α → Bool) : Form α → Bool
  | .fields a => p a
  | .badLength => true

/-- When a command is well formed. -/
def Instr.wf : Instr → Bool
  | .upFrameReceived rx | .downFrameReceived rx => rx.wf
  | .periodTimerExpiry src => src.wf
  | .allocate f => f.all Allocate.wf
  | .deviceLoad f => f.all fun a => decide ((a.watch.getD []).Nodup)
  | .offerTimerExpiry b | .noShowExpiry b => indexOk b
  | .poll a | .setOutputs a | .oneShotTransmit a => busAddressOk a
  | .statusReply r | .ackReceived r | .badReply r => r.wf
  | .stuckMeterDetect i | .dispensePeriodExpiry i | .leakDisagreeExpiry i | .leakSettleEnd i => indexOk i
  | .recoveryTimerExpiry t i k => indexOk i && k.appliesTo t
  | .queryTimeout r => r.wf
  | .nozzleTimeout d => smallIndexOk d
  | .powerOn _ | .resetAsserted | .resetReleased _ | .startupComplete | .pauseReceived | .resumeReceived
  | .upstreamHoldExpiry | .pauseRepeat | .portDisconnected _ | .portConnected _ | .upstreamTransmit
  | .upstreamFrameSent | .downTransmit | .localSlotFill | .upstreamSilenceExpiry | .unknownType | .broadcastDiscard
  | .segmentConfig _ | .time _ | .tide _ | .restart _ | .read _ | .berthLoad _ | .berthRead _ | .openBerth _
  | .closeBerth _ | .book _ | .confirm _ | .decline _ | .depart _ | .secondTick | .tideStaleExpiry | .accountLoad _
  | .accountUpdate _ | .topUp _ | .accountRemove _ | .accountRead _ | .tariffLoad _ | .officeOperation | .powerPosting
  | .waterPosting | .holdServed | .releaseServed | .settleServed | .outletLoad _ | .feederLoad _ | .protectionLoad _
  | .forceOff _ | .releaseForce _ | .serviceHold _ | .serviceRelease _ | .clearFault _ | .returnToService _ | .tapLoad _
  | .waterSuspend _ | .waterResume _ | .deviceRemove _ | .credentialFill _ | .credentialUnknown _ | .invalidate _
  | .authoriseSale _ | .stopSale _ | .takeSale _ | .tankSet _ | .tankAdd _ | .freeze _ | .freezeRelease _ | .closePeriod _
  | .readTally _ | .freezeAutoRelease | .replyTimeout | .cycleWithNothingToSend => true

end Sys2Proof
end

