-- ==== Sys2Proof/Machine/Operands.lean ====
section
/-! DEFINITION. How the part reads what reaches it: the CRC and validity of trunk frames and bus replies, status payloads,
the types and forms of local frames, and the taking of a local frame by the management unit. -/

namespace Sys2Proof

/-! ## Local frame types (10 Table 10.1) -/

/-- The type code of a local frame. -/
def LocalBody.type : LocalBody → Byte
  | .segmentConfig _ => 0x01
  | .time _ => 0x02
  | .tide _ => 0x03
  | .restart => 0x04
  | .read _ => 0x05
  | .berthLoad _ => 0x10
  | .berthRead _ => 0x11
  | .openBerth _ => 0x12
  | .closeBerth _ => 0x13
  | .book _ => 0x14
  | .allocate _ => 0x15
  | .confirm _ => 0x16
  | .decline _ => 0x17
  | .depart _ => 0x18
  | .accountLoad _ => 0x20
  | .accountUpdate _ => 0x21
  | .topUp _ => 0x22
  | .accountRemove _ => 0x23
  | .accountRead _ => 0x24
  | .tariffLoad _ => 0x25
  | .outletLoad _ => 0x30
  | .feederLoad _ => 0x31
  | .protectionLoad _ => 0x32
  | .forceOff _ => 0x33
  | .releaseForce _ => 0x34
  | .serviceHold => 0x35
  | .serviceRelease => 0x36
  | .clearFault _ => 0x37
  | .returnToService _ => 0x38
  | .tapLoad _ => 0x39
  | .waterSuspend => 0x3A
  | .waterResume => 0x3B
  | .deviceLoad _ => 0x40
  | .deviceRemove _ => 0x41
  | .credentialFill _ => 0x42
  | .credentialUnknown _ => 0x43
  | .invalidate _ => 0x44
  | .authoriseSale _ => 0x48
  | .stopSale _ => 0x49
  | .takeSale => 0x4A
  | .tankSet _ => 0x4B
  | .tankAdd _ => 0x4C
  | .freeze => 0x50
  | .freezeRelease => 0x51
  | .closePeriod => 0x52
  | .readTally _ => 0x53

/-- The types of Table 10.1. -/
def catalogue : List Byte :=
  [0x01, 0x02, 0x03, 0x04, 0x05] ++ [0x10, 0x11, 0x12, 0x13, 0x14, 0x15, 0x16, 0x17, 0x18] ++
  [0x20, 0x21, 0x22, 0x23, 0x24, 0x25] ++ [0x30, 0x31, 0x32, 0x33, 0x34, 0x35, 0x36, 0x37, 0x38, 0x39, 0x3A, 0x3B] ++
  [0x40, 0x41, 0x42, 0x43, 0x44] ++ [0x48, 0x49, 0x4A, 0x4B, 0x4C] ++ [0x50, 0x51, 0x52, 0x53]

/-- The types acted on when broadcast. -/
def broadcastTypes : List Byte := [0x01, 0x02, 0x03, 0x25, 0x35, 0x36, 0x3A, 0x3B, 0x44, 0x50, 0x51, 0x52]

/-- The one form of a type that carries no field. -/
def bareForm (type : Byte) : Option LocalBody :=
  [LocalBody.restart, .serviceHold, .serviceRelease, .waterSuspend, .waterResume, .takeSale, .freeze, .freezeRelease,
    .closePeriod].find? fun b => b.type == type

/-- The body a command's form stands for: none for a length that matches no form. -/
def Form.body {α : Type} (mk : α → LocalBody) : Form α → Option LocalBody
  | .fields a => some (mk a)
  | .badLength => none

end Sys2Proof

namespace Sys2Proof.Machine

open Sys2Proof

/-! ## CRC-16 -/

/-- One bit of a CRC-16, high bit first (log 5). -/
def crcBit (poly c : Half) : Half := if c.msb then (c <<< 1) ^^^ poly else c <<< 1

/-- One byte of a CRC-16. -/
def crcByte (poly c : Half) (b : Byte) : Half :=
  let f := crcBit poly
  f (f (f (f (f (f (f (f (c ^^^ (b.setWidth 16 <<< 8)))))))))

/-- The CRC-16 of a run of bytes, initial value 0xFFFF. -/
def crc16 (poly : Half) (bytes : List Byte) : Half := bytes.foldl (crcByte poly) 0xFFFF

/-- The CRC of a trunk frame, over offsets 1 to 5 + n (09 Table 9.4). -/
def trunkCrc (f : Frame) (length : Byte) : Half := crc16 0x1021 ([f.dest, f.source, f.type, f.tag, length] ++ f.payload)

/-- The CRC of a bus frame, over offsets 1 to 4 + n (08 Table 8.6). -/
def busCrc (r : BusReply) : Half := crc16 0x8005 ([r.address, r.function, r.flags, r.length] ++ r.payload)

/-- A received trunk frame is valid (09 R161). -/
def validFrame (rx : RxFrame) : Bool :=
  decide (rx.length.toNat ≤ 240 ∧ rx.frame.payload.length = rx.length.toNat ∧ rx.frame.dest.toNat < 64 ∧
    rx.crc = trunkCrc rx.frame rx.length)

/-- The form a received frame has: the one form of a bare type when it has no payload, else the reading that comes with
it, where that is of the frame's type (log 4). -/
def formOf (rx : RxFrame) : Option LocalBody :=
  match bareForm rx.frame.type with
  | some b => if rx.frame.payload.isEmpty then some b else none
  | none => rx.form.filter fun b => b.type == rx.frame.type

/-! ## Bus replies -/

/-- Big-endian bytes as a number. -/
def bytesToNat (l : List Byte) : Nat := l.foldl (fun n b => n * 256 + b.toNat) 0

/-- A field of a payload. -/
def field (p : List Byte) (off len : Nat) : Nat := bytesToNat ((p.drop off).take len)

/-- One byte of a payload. -/
def byteOf (p : List Byte) (off : Nat) : Nat := field p off 1

/-- One side of a pedestal payload (08 Table 8.8); a current above 4000 dA is clamped. -/
def parseSide (p : List Byte) (off : Nat) : SideStatus :=
  let f := byteOf p off
  { plug := f.testBit 0, leakA := f.testBit 1, leakB := f.testBit 2, breaker := f.testBit 3
    contactorClosed := f.testBit 4, valveOpen := f.testBit 5
    current := min (field p (off + 1) 2) 4000, energy := field p (off + 3) 2, litres := field p (off + 5) 2
    button := byteOf p (off + 7) }

/-- The status a payload spells for a kind of device, where its length is that kind's (08 Tables 8.8, 8.10, 8.11; a
STATUS of another length is a length fault, log 35). -/
def parseStatus (kind : DeviceKind) (p : List Byte) : Option Status :=
  match kind with
  | .pedestal => if p.length = 16 then some (.pedestal (parseSide p 0) (parseSide p 8)) else none
  | .gate =>
    if p.length = 7 then
      some (.gate (byteOf p 0) (BitVec.ofNat 32 (field p 1 4)) (byteOf p 5) (byteOf p 6 != 0))
    else none
  | .dispenser =>
    if p.length = 23 then
      some (.dispenser (byteOf p 0) (BitVec.ofNat 32 (field p 1 4)) (byteOf p 5) (field p 6 4) (byteOf p 10 != 0)
        (field p 11 4) (field p 15 4) (field p 19 4))
    else none

/-- What a reply is to the exchange in progress (08 section 8.2). -/
inductive ReplyReading where
  | status (r : Status)
  | ack (bit : Bool)
  | bad
  deriving DecidableEq, Repr

/-- Whether the frame of a reply is whole: its address, length and CRC (08 section 8.2). -/
def wholeReply (address : Nat) (r : BusReply) : Bool :=
  decide (r.address.toNat = address ∧ r.payload.length = r.length.toNat ∧ r.crc = busCrc r)

/-- Read a reply to an exchange with a device of a kind: a STATUS answers a POLL, an ACK an output frame or one-shot,
and anything else is a miss. -/
def readReply (kind : DeviceKind) (x : Exchange) (r : BusReply) : ReplyReading :=
  if wholeReply x.address r then
    match x.request with
    | .poll _ =>
      if r.function = 0x81 then
        match parseStatus kind r.payload with
        | some st => .status st
        | none => .bad
      else .bad
    | _ => if r.function = 0x82 ∧ r.payload = [] then .ack (r.flags.getLsbD 0) else .bad
  else .bad

/-! ## Taking a local frame (10 R173, R174) -/

/-- The local frame a command takes: the management unit is free, and the intake holds a frame of the command's type
that carries its fields (log 2, log 4). -/
def State.localFrame (s : State) (type : Byte) (body : Option LocalBody) : Option IntakeFrame :=
  if s.active && decide (s.mgmt.work = .idle) then
    s.trunk.intake.filter fun fr => decide (fr.type = type ∧ fr.form = body)
  else none

/-- The frame leaves the intake; an addressed one raises the accepted-frame count (10 R174). -/
def State.taken (fr : IntakeFrame) (s : State) : State :=
  { s with
    trunk := { s.trunk with intake := none }
    mgmt := if fr.broadcast then s.mgmt else { s.mgmt with accepted := s.mgmt.accepted + 1 } }

/-- What is done with a frame taken: a broadcast of a type not acted on when broadcast is discarded and counted; a
length of no form is refused; else the owning block acts. -/
def handleLocal {α : Type} (fr : IntakeFrame) (f : Form α) (act : IntakeFrame → α → State → State) (s : State) : State :=
  if fr.broadcast && !broadcastTypes.contains fr.type then s.countLocalDiscard
  else
    match f with
    | .badLength => s.refuse fr .badLength
    | .fields a => act fr a s

/-- A command of a local frame. The conditions that changed reach the alarm raw status in the same operation. -/
def localCommand {α : Type} (type : Byte) (mk : α → LocalBody) (f : Form α) (act : IntakeFrame → α → State → State)
    (s : State) : Host.Outcome State Fault Refusal :=
  match s.localFrame type (f.body mk) with
  | some fr => .next (handleLocal fr f act (s.taken fr)).refreshAlarm
  | none => .next s

/-- A command that no local frame brings: it acts on an active part, and does nothing where its occasion is absent
(log 2). -/
def unitEvent (act : State → State) (s : State) : Host.Outcome State Fault Refusal :=
  if s.active then .next (act s).refreshAlarm else .next s

end Sys2Proof.Machine
end

