-- ==== Sys2Proof/Machine/Outlet.lean ====
section
/-! DEFINITION. The outlet unit (chapter 3): sessions, the admission queue and attempts, eligibility, plug events, rounds
and shedding, office locks, and the loads of outlets and feeders. -/

namespace Sys2Proof.Machine

open Sys2Proof

/-! ## Sessions -/

/-- The account of the berth a side belongs to (03 R48). -/
def State.berthAccount (s : State) (r : SideRef) : Option Nat := (s.berthOfSide r).bind (·.2.account)

/-- The pending end record of a session (03 R66, 05 R98). -/
def State.endRecordOf (s : State) (x : Session) (reason : Reason) : EndRecord :=
  ⟨x.account, x.quantity, x.charged, reason, x.startTime, s.clockValue⟩

/-- End the session of an outlet, if one is open: its closing entry and pending end record are made (03 R66, 02 R37). -/
def State.endOutletSession (i : Nat) (reason : Reason) (s : State) : State :=
  match s.outlet.outlets.get i with
  | none => s
  | some o =>
    match o.session with
    | none => s
    | some x =>
      let pw := closePosting i x.account x.unposted ⟨x.residual, s.endRecordOf x reason⟩ s.charge.power o.waiting
      ({ s with charge := { s.charge with power := pw.1 } }.setOutlet i
        { o with session := none, waiting := pw.2 }).mark .outlet i

/-- An energy delta of an outlet in session goes to the session and its posting slot (03 R65, 02 R37). -/
def State.outletDelta (i q : Nat) (s : State) : State :=
  match s.outlet.outlets.get i with
  | none => s
  | some o =>
    match o.session with
    | none => s
    | some x =>
      let x := { x with quantity := (x.quantity + q) % 4294967296 }
      if q = 0 then s
      else
        match postDelta i x.account q s.charge.power with
        | some l => { s with charge := { s.charge with power := l } }.setOutlet i { o with session := some x }
        | none => s.setOutlet i { o with session := some { x with unposted := x.unposted + q } }

/-! ## The admission queue -/

/-- The order of the admission queue (03 R58). -/
def QueueEntry.before (a b : QueueEntry) : Bool :=
  if a.priority ≠ b.priority then decide (b.priority < a.priority)
  else if a.shed ≠ b.shed then a.shed
  else if a.moment ≠ b.moment then decide (a.moment < b.moment)
  else decide (a.outlet < b.outlet)

/-- Put an entry at its place in the order. -/
def insertEntry (e : QueueEntry) : List QueueEntry → List QueueEntry
  | [] => [e]
  | x :: l => if e.before x then e :: x :: l else x :: insertEntry e l

/-- The queue of a feeder: the entries whose outlet's record names it (03 R58). -/
def State.feederQueue (s : State) (f : Nat) : List QueueEntry :=
  s.outlet.queue.filter fun e => ((s.outlet.outlets.get e.outlet).map fun o => decide (o.feeder = f)).getD false

/-- The priority of the account of a side's berth (03 R58). -/
def State.priorityOf (s : State) (r : SideRef) : Nat :=
  (((s.berthAccount r).bind s.account).map (·.priority)).getD 0

/-- A feeder awaits an admission attempt (03 R59, log 18). -/
def State.attempt (f : Nat) (s : State) : State :=
  if s.outlet.attempts.contains f then s
  else { s with outlet := { s.outlet with attempts := s.outlet.attempts ++ [f] } }

/-- Remove the queue entry of an outlet, if it has one. -/
def State.dequeue (i : Nat) (s : State) : State :=
  if s.outlet.queue.any fun e => decide (e.outlet = i) then
    let f := ((s.outlet.outlets.get i).map (·.feeder)).getD 0
    { s with outlet := { s.outlet with
      queue := s.outlet.queue.filter fun e => decide (e.outlet ≠ i) } }.mark .feeder f
  else s

/-- An outlet joins the admission queue, and an attempt follows on its feeder (03 R55, R58, R59). -/
def State.enqueue (i : Nat) (o : Outlet) (shed : Bool) (s : State) : State :=
  let e : QueueEntry := ⟨i, shed, s.priorityOf o.ref, s.now⟩
  ({ s with outlet := { s.outlet with queue := insertEntry e s.outlet.queue } }.mark .feeder o.feeder).attempt o.feeder

/-! ## Admission -/

/-- Release the reservation of an outlet, if it holds one; an attempt follows on its feeder (03 R57). -/
def State.releaseReservation (i : Nat) (s : State) : State :=
  match s.outlet.outlets.get i with
  | none => s
  | some o =>
    match o.reservation with
    | none => s
    | some r =>
      (((s.setOutlet i { o with reservation := none }).mark .outlet i).mark .feeder r.feeder).attempt r.feeder

/-- The session of an outlet at its admission: a new one where none is open, else the open one with the new admission
moment (03 R56, R65). -/
def State.sessionAt (s : State) (o : Outlet) (acct : Nat) : Session :=
  match o.session with
  | some x => { x with moment := s.now }
  | none => ⟨acct, s.clockValue, s.now, 0, 0, 0, 0⟩

/-- Admission of an outlet with a figure, one operation (03 R56). -/
def State.grantOutlet (i : Nat) (o : Outlet) (figure acct : Nat) (s : State) : State :=
  let s := match o.reservation with
    | some r => if r.feeder = o.feeder then s else (s.mark .feeder r.feeder).attempt r.feeder
    | none => s
  let s := s.dequeue i
  let o := { o with
    reservation := some ⟨figure, o.feeder⟩, state := .live, reason := .granted,
    session := some (s.sessionAt o acct) }
  (((s.setOutlet i o).mark .outlet i).mark .feeder o.feeder).writeImage o.address

/-- Whether an outlet's figure fits its feeder: R, less its own trailing reservation there, plus the figure is not
greater than C, and the feeder is not congested (03 R55, R59). While R is above a lowered C no outlet fits, whatever its
figure (03 R51). -/
def State.fits (s : State) (f : Feeder) (o : Outlet) : Bool :=
  decide (s.reservedSum o.feeder ≤ f.capacity) &&
    decide (s.reservedSum o.feeder - reservedOn o.feeder o.reservation + figureOf o.rating f.diversity ≤ f.capacity) &&
    !f.congested

/-- The admission check (03 R55): admitted directly, or WAITING(NEW) in the queue. -/
def State.admissionCheck (i : Nat) (s : State) : State :=
  match s.outlet.outlets.get i with
  | none => s
  | some o =>
    match s.outlet.feeders.get o.feeder, s.berthAccount o.ref with
    | some f, some acct =>
      if s.fits f o && (s.feederQueue o.feeder).isEmpty then s.grantOutlet i o (figureOf o.rating f.diversity) acct
      else
        let o := { o with state := .waiting false, reason := .queued }
        (((s.setOutlet i o).mark .outlet i).enqueue i o false).writeImage o.address
    | _, _ => s

/-- Try the head of a feeder's queue: the state after its admission, or none where it does not fit (03 R59). -/
def State.tryHead (f : Nat) (s : State) : Option State :=
  match s.outlet.feeders.get f, (s.feederQueue f).head? with
  | some fd, some e =>
    match s.outlet.outlets.get e.outlet with
    | some o =>
      match s.berthAccount o.ref with
      | some acct =>
        if s.fits fd o then some (s.grantOutlet e.outlet o (figureOf o.rating fd.diversity) acct) else none
      | none => none
    | none => none
  | _, _ => none

/-- Make the attempts that await, feeder by feeder; none is left. -/
def State.runAttempts : Nat → State → State
  | 0, s => { s with outlet := { s.outlet with attempts := [] } }
  | n + 1, s =>
    match s.outlet.attempts with
    | [] => s
    | f :: rest =>
      match s.tryHead f with
      | some t => runAttempts n t
      | none => runAttempts n { s with outlet := { s.outlet with attempts := rest } }

/-- Make the attempts that await. Each admission takes an entry off the queue and adds at most one attempt, so the bound
is never reached. -/
def State.flushAttempts (s : State) : State :=
  s.runAttempts (s.outlet.attempts.length + 2 * s.outlet.queue.length + 1)

/-! ## Leaving service -/

/-- Take an outlet from READY, WAITING or LIVE to a state without a session: the session ends, the queue entry goes, the
contactor is commanded OPEN, the reservation is released at a readback OPEN and trails otherwise (03 R53, R54, R57). -/
def State.vacate (i : Nat) (target : OutletState) (reason : Reason) (s : State) : State :=
  let s := (s.endOutletSession i reason).dequeue i
  match s.outlet.outlets.get i with
  | none => s
  | some o =>
    let s := (s.setOutlet i { o with
      state := target, reason := reason, fault := { o.fault with overCount := 0 } }).mark .outlet i
    let s := if o.readback = .opened then s.releaseReservation i else s
    s.writeImage o.address

/-- A READY outlet whose fourth closing came to wait is no longer eligible (02 R37, 03 R52); Table 3.5 names no reason
(log 20). -/
def State.checkClosings (i : Nat) (s : State) : State :=
  match s.outlet.outlets.get i with
  | none => s
  | some o =>
    if o.state = .ready ∧ Config.closingCapacity ≤ o.waiting.length then
      s.vacate i .off (Config.closingsFullReason i s.now)
    else s

/-- Whether an outlet is READY, WAITING or LIVE. -/
def OutletState.inUse : OutletState → Bool
  | .ready | .waiting _ | .live => true
  | .off | .tripped | .outOfService => false

/-- Evaluate an outlet's eligibility (03 R53). -/
def State.evalOutlet (i : Nat) (reason : Reason) (s : State) : State :=
  match s.outlet.outlets.get i with
  | none => s
  | some o =>
    if s.outletEligible o then
      if o.state = .off then
        let s := ((s.setOutlet i { o with state := .ready, reason := .eligible }).mark .outlet i).writeImage o.address
        if o.plug = .present then s.admissionCheck i else s
      else s
    else if o.state.inUse && !o.fault.latches.any then s.vacate i .off reason
    else s

/-- Evaluate an outlet and make the attempts that follow. -/
def State.evalAndFlush (i : Nat) (reason : Reason) (s : State) : State := (s.evalOutlet i reason).flushAttempts

/-- Evaluate the outlet of a side. -/
def State.evalSide (r : SideRef) (reason : Reason) (s : State) : State :=
  match s.outletOfSide r with
  | some (i, _) => s.evalAndFlush i reason
  | none => s

/-! ## Plug events (03 R54) -/

/-- Store a plug state; a change marks the source (03 R69). -/
def State.storePlug (i : Nat) (p : Plug) (s : State) : State :=
  match s.outlet.outlets.get i with
  | none => s
  | some o => if o.plug = p then s else (s.setOutlet i { o with plug := p }).mark .outlet i

/-- The plug of an outlet becomes PRESENT or ABSENT. -/
def State.plugEvent (i : Nat) (present : Bool) (s : State) : State :=
  let s := s.storePlug i (if present then .present else .absent)
  match s.outlet.outlets.get i with
  | none => s
  | some o =>
    match o.state with
    | .ready => if present then (s.admissionCheck i).flushAttempts else s
    | .waiting _ | .live =>
      if present then s else ((s.vacate i .ready .unplugged).checkClosings i).flushAttempts
    | .off | .tripped | .outOfService => s

/-! ## Rounds and shedding (03 R60 to R62) -/

/-- What an outlet adds to the round sum of its working feeder: its current where it is LIVE or its readback CLOSED, and
its pedestal is ONLINE or MISSING. -/
def State.roundShare (s : State) (f : Nat) (o : Outlet) : Nat :=
  if o.workingFeeder = f ∧ (o.state = .live ∨ o.readback = .closed) ∧ s.pedestalServes o.address then o.current else 0

/-- The round sum of a feeder. -/
def State.roundSum (s : State) (f : Nat) : Nat := (s.outlet.outlets.map fun p => s.roundShare f p.2).sum

/-- The newest n entries of a ring. -/
def newest (n : Nat) (l : List Nat) : List Nat := l.drop (l.length - n)

/-- Whether one LIVE outlet is shed before another: lower priority, then later admission moment, then higher index. -/
def shedsBefore (a b : Nat × Nat × Nat) : Bool :=
  if a.2.1 ≠ b.2.1 then decide (a.2.1 < b.2.1)
  else if a.2.2 ≠ b.2.2 then decide (b.2.2 < a.2.2)
  else decide (b.1 < a.1)

/-- The first to be shed of a list of index, priority and admission moment. -/
def pickShed : List (Nat × Nat × Nat) → Option (Nat × Nat × Nat)
  | [] => none
  | c :: l =>
    match pickShed l with
    | none => some c
    | some d => if shedsBefore c d then some c else some d

/-- The candidates to be shed on a feeder: its LIVE outlets by their reservations. -/
def State.shedCandidates (s : State) (f : Nat) : List (Nat × Nat × Nat) :=
  s.outlet.outlets.filterMap fun p =>
    if p.2.state = .live ∧ (p.2.reservation.map (·.feeder)) = some f then
      some (p.1, s.priorityOf p.2.ref, (p.2.session.map (·.moment)).getD 0)
    else none

/-- Shed a LIVE outlet (03 R62). -/
def State.shedOutlet (i : Nat) (s : State) : State :=
  match s.outlet.outlets.get i with
  | none => s
  | some o =>
    let o := { o with state := .waiting true, reason := .shed, fault := { o.fault with overCount := 0 } }
    let s := (s.setOutlet i o).mark .outlet i
    let s := if o.readback = .opened then s.releaseReservation i else s
    (s.enqueue i o true).writeImage o.address

/-- Change a feeder's congested flag; a change marks its source. -/
def State.setCongested (f : Nat) (b : Bool) (s : State) : State :=
  match s.outlet.feeders.get f with
  | none => s
  | some fd => if fd.congested = b then s else (s.setFeeder f { fd with congested := b }).mark .feeder f

/-- Compare a feeder's mean with its thresholds (03 R62). -/
def State.compareMean (f : Nat) (s : State) : State :=
  match s.outlet.feeders.get f with
  | none => s
  | some fd =>
    match fd.mean with
    | none => s
    | some m =>
      if fd.shed < m then
        let s := s.setCongested f true
        match pickShed (s.shedCandidates f) with
        | none => s
        | some (i, _) =>
          let s := match s.outlet.feeders.get f with
            | some fd => (s.setFeeder f { fd with lastShed := some i }).mark .feeder f
            | none => s
          (s.shedOutlet i).flushAttempts
      else if m ≤ fd.restore then
        ((s.setCongested f false).attempt f).flushAttempts
      else s

/-- A round sum joins a feeder's ring (03 R60, R61). -/
def Feeder.round (depth sum : Nat) (f : Feeder) : Feeder :=
  { f with lastSum := some sum, ring := newest depth (f.ring ++ [sum]) }

/-- The round sums join the rings, and then the means are compared. The spec gives no order of the feeders: all sums are
taken first, the comparisons follow in ascending index, each with the attempts that follow it (DESIGN CHOICE, log 44). -/
def State.feederRounds (s : State) : State :=
  let feeders := s.outlet.feeders.map fun p => (p.1, p.2.round s.mgmt.config.averagingDepth (s.roundSum p.1))
  let t := { s with outlet := { s.outlet with feeders := feeders } }
  t.outlet.feeders.keys.foldl (fun u f => u.compareMean f) t

/-! ## Loads (03 R49 to R51) -/

/-- A fault record with nothing in it (04 R91). -/
def FaultRecord.fresh : FaultRecord :=
  ⟨KindMap.all false, KindMap.all none, [], none, 0, none, 0, false, none, false⟩

/-- An outlet as OUTLET LOAD makes it (03 R49). -/
def Outlet.fresh (f : OutletLoad) (side : Side) : Outlet where
  address := f.address
  side := side
  rating := f.rating
  feeder := f.feeder
  state := .off
  reason := .loaded
  lock := false
  plug := .unknown
  readback := .unknown
  current := 0
  leakA := false
  leakB := false
  breaker := false
  reservation := none
  session := none
  waiting := []
  ends := []
  endsDropped := false
  fault := FaultRecord.fresh

/-- The energy counter of a side is re-based at the next reply (08 R156). -/
def Device.dropEnergy (side : Side) (d : Device) : Device :=
  match side with
  | .a => { d with energyA := none }
  | .b => { d with energyB := none }

/-- The range checks of OUTLET LOAD (03 R49). -/
def outletLoadOk (f : OutletLoad) : Bool :=
  indexOk f.index && busAddressOk f.address && (f.rating == 100 || f.rating == 160 || f.rating == 320) &&
    smallIndexOk f.feeder

/-- The effect of an accepted OUTLET LOAD on a loaded entry (03 R49). What the old side last showed (breaker, leak
channels, current) and the detection state stay with an outlet that moves (DESIGN CHOICE, log 46). -/
def State.reloadOutlet (o : Outlet) (f : OutletLoad) (side : Side) (s : State) : State :=
  let moved := decide (o.address ≠ f.address ∨ o.side ≠ side)
  let o' := { o with
    address := f.address, side := side, rating := f.rating, feeder := f.feeder
    plug := if moved then .unknown else o.plug
    readback := if moved then .unknown else o.readback }
  let s := s.setOutlet f.index o'
  let s := if moved then ((s.modDevice f.address (Device.dropEnergy side)).writeImage o.address).writeImage f.address else s
  match o.state with
  | .waiting _ =>
    if o.feeder ≠ f.feeder then
      (((s.mark .feeder o.feeder).mark .feeder f.feeder).attempt o.feeder).attempt f.feeder
    else s
  | _ => s

/-- OUTLET LOAD (03 R49). -/
def outletLoadAct (fr : IntakeFrame) (f : OutletLoad) (s : State) : State :=
  match f.side with
  | .unlisted => s.refuse fr .outOfRange
  | .known side =>
    if !outletLoadOk f then s.refuse fr .outOfRange
    else if !s.outlet.feeders.has f.feeder then s.refuse fr .notFound
    else if s.outlet.outlets.any fun p => decide (p.1 ≠ f.index ∧ p.2.address = f.address ∧ p.2.side = side) then
      s.refuse fr .exists
    else
      let done (t : State) : State :=
        let t := s.recoveryEdges ((t.mark .outlet f.index).evalOutlet f.index .lock).flushAttempts
        let st := ((t.outlet.outlets.get f.index).map (·.state)).getD .off
        t.accept fr [] (.outletState f.index st)
      match s.outlet.outlets.get f.index with
      | none =>
        done (((s.setOutlet f.index (Outlet.fresh f side)).createSource .outlet f.index).writeImage f.address)
      | some o =>
        if (o.state ≠ .off ∨ o.reservation.isSome) ∧ (o.address ≠ f.address ∨ o.side ≠ side) then s.refuse fr .inUse
        else done (s.reloadOutlet o f side)

/-- FEEDER LOAD (03 R50, R51). -/
def feederLoadAct (fr : IntakeFrame) (f : FeederLoad) (s : State) : State :=
  if smallIndexOk f.index ∧ f.capacity ≤ 4000 ∧ 10 ≤ f.diversity ∧ f.diversity ≤ 100 ∧ 1 ≤ f.shed ∧ f.shed ≤ 4000 ∧
      f.restore ≤ 3999 ∧ f.restore < f.shed then
    let s := match s.outlet.feeders.get f.index with
      | none =>
        (s.setFeeder f.index ⟨f.capacity, f.diversity, f.shed, f.restore, [], none, false, none⟩).createSource .feeder
          f.index
      | some x => s.setFeeder f.index { x with
          capacity := f.capacity, diversity := f.diversity, shed := f.shed, restore := f.restore }
    let s := ((s.mark .feeder f.index).attempt f.index).flushAttempts
    s.accept fr [] (.feeder f.index (s.reservedSum f.index)
      (((s.outlet.feeders.get f.index).map (·.congested)).getD false))
  else s.refuse fr .outOfRange

/-! ## Office locks (03 R63) -/

/-- Set or clear the lock of an outlet; a change marks the source. -/
def State.setLock (i : Nat) (b : Bool) (s : State) : State :=
  match s.outlet.outlets.get i with
  | none => s
  | some o => if o.lock = b then s else (s.setOutlet i { o with lock := b }).mark .outlet i

/-- The checks and the reply FORCE OFF and RELEASE FORCE share. -/
def lockAct (set : Bool) (fr : IntakeFrame) (i : Nat) (s : State) : State :=
  if !s.mgmt.config.outletOverride then s.refuse fr .notPermitted
  else if !indexOk i then s.refuse fr .outOfRange
  else if !s.outlet.outlets.has i then s.refuse fr .notFound
  else
    let s := (s.setLock i set).evalAndFlush i .lock
    match s.outlet.outlets.get i with
    | some o => s.accept fr [] (.outletLock i o.state o.lock)
    | none => s.refuse fr .notFound

/-- The override flag is cleared: every lock is cleared, and every outlet that was locked is evaluated (03 R63). The spec
gives no order: ascending index, each with the attempts that follow it (DESIGN CHOICE, log 45). -/
def State.clearLocks (s : State) : State :=
  let locked := Table.keys (s.outlet.outlets.filter fun p => p.2.lock)
  let s := locked.foldl (fun t i => t.setLock i false) s
  locked.foldl (fun t i => t.evalAndFlush i .lock) s

/-! ## The commands -/

/-- OUTLET_LOAD (03 R49). -/
def execOutletLoad (f : Form OutletLoad) (s : State) : Host.Outcome State Fault Refusal :=
  localCommand 0x30 .outletLoad f outletLoadAct s

/-- FEEDER_LOAD (03 R50, R51). -/
def execFeederLoad (f : Form FeederLoad) (s : State) : Host.Outcome State Fault Refusal :=
  localCommand 0x31 .feederLoad f feederLoadAct s

/-- FORCE_OFF (03 R63). -/
def execForceOff (f : Form Nat) (s : State) : Host.Outcome State Fault Refusal :=
  localCommand 0x33 .forceOff f (lockAct true) s

/-- RELEASE_FORCE (03 R63). -/
def execReleaseForce (f : Form Nat) (s : State) : Host.Outcome State Fault Refusal :=
  localCommand 0x34 .releaseForce f (lockAct false) s

end Sys2Proof.Machine
end

