-- ==== Sys2Proof/Machine/Tap.lean ====
section
/-! DEFINITION. The tap unit (chapter 5): tap sessions, button presses, the dispense period, litre deltas and the settle
time of the leak watch, water suspend, and the service hold that acts on outlets and taps alike (03 R64). -/

namespace Sys2Proof.Machine

open Sys2Proof

/-! ## Sessions -/

/-- End the session of a tap, if one is open: its closing entry and pending end record are made (05 R98, 02 R37). -/
def State.endTapSession (i : Nat) (reason : Reason) (s : State) : State :=
  match s.tap.taps.get i with
  | none => s
  | some t =>
    match t.session with
    | none => s
    | some x =>
      let pw := closePosting i x.account x.unposted ⟨x.residual, s.endRecordOf x reason⟩ s.charge.water t.waiting
      ({ s with charge := { s.charge with water := pw.1 } }.setTap i { t with session := none, waiting := pw.2 }).mark
        .tap i

/-- A litre delta of an OPEN tap goes to the session and its posting slot (05 R100, 02 R37). -/
def State.tapDelta (i q : Nat) (s : State) : State :=
  match s.tap.taps.get i with
  | none => s
  | some t =>
    match t.session with
    | none => s
    | some x =>
      let x := { x with quantity := (x.quantity + q) % 4294967296 }
      if q = 0 then s
      else
        match postDelta i x.account q s.charge.water with
        | some l => { s with charge := { s.charge with water := l } }.setTap i { t with session := some x }
        | none => s.setTap i { t with session := some { x with unposted := x.unposted + q } }

/-- Start the settle time of the leak watch, with its sum at 0 (04 R80). -/
def State.startSettle (s : State) (t : Tap) : Tap :=
  { t with settleEnd := some (s.now + s.mgmt.config.settleTime * 1000), watchSum := 0 }

/-- Whether the settle time runs (04 R80). -/
def Tap.settling (now : Nat) (t : Tap) : Bool :=
  match t.settleEnd with
  | some e => decide (now < e)
  | none => false

/-- Close or lock an OPEN tap: its session ends, its valve is commanded CLOSED and the leak watch begins (05 R98). -/
def State.shutTap (i : Nat) (target : TapState) (reason : Reason) (s : State) : State :=
  let s := s.endTapSession i reason
  match s.tap.taps.get i with
  | none => s
  | some t =>
    ((s.setTap i { s.startSettle t with state := target, reason := reason, lastClose := s.now }).mark .tap i).writeImage
      t.address

/-- Close a tap where it is OPEN. -/
def State.closeIfOpen (i : Nat) (reason : Reason) (s : State) : State :=
  match s.tap.taps.get i with
  | none => s
  | some t => if t.state = .opened then s.shutTap i .closed reason else s

/-- Close the tap of a side where it is OPEN and no longer eligible (05 R94). -/
def State.evalTapSide (r : SideRef) (reason : Reason) (s : State) : State :=
  match s.tapOfSide r with
  | some (i, t) => if t.state = .opened && !s.tapEligible t then s.shutTap i .closed reason else s
  | none => s

/-- Lock a tap: an OPEN one ends its session with reason FAULT, a CLOSED one goes to LOCKED (04 R83, R86). -/
def State.lockTap (i : Nat) (s : State) : State :=
  match s.tap.taps.get i with
  | none => s
  | some t =>
    match t.state with
    | .opened => s.shutTap i .locked .fault
    | .closed => (s.setTap i { t with state := .locked, reason := .fault }).mark .tap i
    | .locked => s

/-- Open a tap (05 R96). -/
def State.openTap (i : Nat) (t : Tap) (acct : Nat) (s : State) : State :=
  let x : Session := ⟨acct, s.clockValue, s.now + s.mgmt.config.dispensePeriod * 60000, 0, 0, 0, 0⟩
  ((s.setTap i { t with
    state := .opened, reason := .opened, session := some x, settleEnd := none, watchSum := 0 }).mark .tap i).writeImage
    t.address

/-- A button press on a side (05 R95). -/
def State.buttonPress (r : SideRef) (s : State) : State :=
  match s.tapOfSide r with
  | none => s
  | some (i, t) =>
    match t.state with
    | .opened => s.shutTap i .closed .button
    | .locked => s
    | .closed =>
      if s.tapEligible t then
        match s.berthAccount r with
        | some acct => s.openTap i t acct
        | none => s
      else s

/-! ## Loads -/

/-- A tap as TAP LOAD makes it, before its settle time starts (05 R93). -/
def Tap.fresh (f : TapLoad) (side : Side) (now : Nat) : Tap where
  address := f.address
  side := side
  state := .closed
  reason := .loaded
  readback := .unknown
  lastClose := now
  settleEnd := none
  watchSum := 0
  outOfService := false
  session := none
  waiting := []
  ends := []
  endsDropped := false
  fault := FaultRecord.fresh

/-- The litre counter of a side is re-based at the next reply (08 R156). -/
def Device.dropLitres (side : Side) (d : Device) : Device :=
  match side with
  | .a => { d with litresA := none }
  | .b => { d with litresB := none }

/-- TAP LOAD (05 R93). A tap that moves keeps its valve check point and what its old side last showed of its litres
(DESIGN CHOICE, log 46). -/
def tapLoadAct (fr : IntakeFrame) (f : TapLoad) (s : State) : State :=
  match f.side with
  | .unlisted => s.refuse fr .outOfRange
  | .known side =>
    if !(indexOk f.index && busAddressOk f.address) then s.refuse fr .outOfRange
    else if s.tap.taps.any fun p => decide (p.1 ≠ f.index ∧ p.2.address = f.address ∧ p.2.side = side) then
      s.refuse fr .exists
    else
      let done (t : State) : State :=
        let st := ((t.tap.taps.get f.index).map (·.state)).getD .closed
        (t.mark .tap f.index).accept fr [] (.tapState f.index st)
      match s.tap.taps.get f.index with
      | none =>
        let t := (s.setTap f.index (s.startSettle (Tap.fresh f side s.now))).createSource .tap f.index
        done ((t.modDevice f.address (Device.dropLitres side)).writeImage f.address)
      | some t =>
        if t.address = f.address ∧ t.side = side then done s
        else if t.state ≠ .closed then s.refuse fr .inUse
        else
          let u := s.setTap f.index (s.startSettle { t with address := f.address, side := side, readback := .unknown })
          done (((u.modDevice f.address (Device.dropLitres side)).writeImage t.address).writeImage f.address)

/-! ## Water suspend (05 R101) -/

/-- The indices of the OPEN taps. -/
def State.openTaps (s : State) : List Nat := Table.keys (s.tap.taps.filter fun p => decide (p.2.state = .opened))

/-- Close every OPEN tap (05 R101). The spec gives no order: ascending tap index, which orders their closing entries
(DESIGN CHOICE, log 51). -/
def State.closeAllTaps (reason : Reason) (s : State) : State := s.openTaps.foldl (fun t i => t.closeIfOpen i reason) s

/-- Set the water suspend flag; a change marks the segment status source. -/
def State.setWaterSuspend (b : Bool) (s : State) : State :=
  if s.tap.waterSuspend = b then s else { s with tap := { s.tap with waterSuspend := b } }.markStatus

/-- WATER SUSPEND. -/
def waterSuspendAct (fr : IntakeFrame) (_ : Unit) (s : State) : State :=
  let n := s.openTaps.length
  ((s.setWaterSuspend true).closeAllTaps .waterSuspend).accept fr [] (.waterSuspend true n)

/-- WATER RESUME. -/
def waterResumeAct (fr : IntakeFrame) (_ : Unit) (s : State) : State :=
  (s.setWaterSuspend false).accept fr [] (.waterSuspend false 0)

/-! ## The service hold (03 R64) -/

/-- Set or clear the service hold. -/
def State.putServiceHold (b : Bool) (s : State) : State := { s with outlet := { s.outlet with serviceHold := b } }

/-- Take every outlet in READY, WAITING or LIVE to OFF, and make the attempts that follow (03 R64). The spec gives no
order: ascending outlet index, which orders their closing entries (DESIGN CHOICE, log 51). -/
def State.holdOutlets (s : State) : State :=
  ((Table.keys (s.outlet.outlets.filter fun p => p.2.state.inUse)).foldl (fun t i => t.vacate i .off .hold)
    s).flushAttempts

/-- SERVICE HOLD. -/
def serviceHoldAct (fr : IntakeFrame) (_ : Unit) (s : State) : State :=
  (((s.putServiceHold true).holdOutlets).closeAllTaps .hold).accept fr [] .none

/-- SERVICE RELEASE: every loaded outlet is evaluated in ascending order of index. -/
def serviceReleaseAct (fr : IntakeFrame) (_ : Unit) (s : State) : State :=
  let t := s.putServiceHold false
  (if s.outlet.serviceHold then t.outlet.outlets.keys.foldl (fun u i => u.evalAndFlush i .hold) t else t).accept fr []
    .none

/-! ## Expiries -/

/-- The dispense timer of an OPEN tap runs out (05 R97). -/
def State.dispenseExpiry (i : Nat) (s : State) : State :=
  match s.tap.taps.get i with
  | some t =>
    match t.session with
    | some x => if t.state = .opened then (s.advanceTo x.moment).shutTap i .closed .period else s
    | none => s
  | none => s

/-- The settle time of a tap's leak watch runs out (04 R80). -/
def State.settleExpiry (i : Nat) (s : State) : State :=
  match s.tap.taps.get i with
  | some t =>
    match t.settleEnd with
    | some e => (s.advanceTo e).setTap i { t with settleEnd := none }
    | none => s
  | none => s

/-! ## The commands -/

/-- TAP_LOAD (05 R93). -/
def execTapLoad (f : Form TapLoad) (s : State) : Host.Outcome State Fault Refusal :=
  localCommand 0x39 .tapLoad f tapLoadAct s

/-- WATER_SUSPEND (05 R101). -/
def execWaterSuspend (f : Form Unit) (s : State) : Host.Outcome State Fault Refusal :=
  localCommand 0x3A (fun _ => .waterSuspend) f waterSuspendAct s

/-- WATER_RESUME (05 R101). -/
def execWaterResume (f : Form Unit) (s : State) : Host.Outcome State Fault Refusal :=
  localCommand 0x3B (fun _ => .waterResume) f waterResumeAct s

/-- SERVICE_HOLD (03 R64). -/
def execServiceHold (f : Form Unit) (s : State) : Host.Outcome State Fault Refusal :=
  localCommand 0x35 (fun _ => .serviceHold) f serviceHoldAct s

/-- SERVICE_RELEASE (03 R64). -/
def execServiceRelease (f : Form Unit) (s : State) : Host.Outcome State Fault Refusal :=
  localCommand 0x36 (fun _ => .serviceRelease) f serviceReleaseAct s

/-- DISPENSE_PERIOD_EXPIRY (05 R97): the dispense timer of an OPEN tap runs out. -/
def execDispensePeriodExpiry (i : Nat) (s : State) : Host.Outcome State Fault Refusal :=
  unitEvent (State.dispenseExpiry i) s

/-- LEAK_SETTLE_END (04 R80): the settle time of a tap's leak watch runs out. -/
def execLeakSettleEnd (i : Nat) (s : State) : Host.Outcome State Fault Refusal := unitEvent (State.settleExpiry i) s

end Sys2Proof.Machine
end

