-- ==== Sys2Proof/Machine/Protection.lean ====
section
/-! DEFINITION. Outlet protection (chapter 4): detections and what they do, trips and out-of-service, latches and their
recovery, and the commands of the protection action table. -/

namespace Sys2Proof.Machine

open Sys2Proof

/-! ## Trips (04 R86) -/

/-- A trip joins the list of trip times, and moments older than the trip window go. -/
def FaultRecord.trip (now window : Nat) (f : FaultRecord) : FaultRecord :=
  { f with trips := newest 15 ((f.trips ++ [now]).filter fun t => decide (now ≤ t + window * 3600000)) }

/-- A trip of an outlet is recorded; at the trip limit the outlet goes to OUT_OF_SERVICE. -/
def State.tripOutlet (i : Nat) (s : State) : State :=
  match s.outlet.outlets.get i with
  | none => s
  | some o =>
    if o.state = .outOfService then s
    else
      let f := o.fault.trip s.now s.mgmt.config.tripWindow
      let s := s.setOutlet i { o with fault := f }
      if s.mgmt.config.tripLimit ≤ f.trips.length then s.vacate i .outOfService .fault else s

/-- A trip of a tap is recorded; at the trip limit the tap receives the out-of-service mark and is LOCKED. -/
def State.tripTap (i : Nat) (s : State) : State :=
  match s.tap.taps.get i with
  | none => s
  | some t =>
    if t.outOfService then s
    else
      let f := t.fault.trip s.now s.mgmt.config.tripWindow
      if s.mgmt.config.tripLimit ≤ f.trips.length then
        ((s.setTap i { t with fault := f, outOfService := true }).mark .tap i).lockTap i
      else s.setTap i { t with fault := f }

/-! ## Detections (04 R82, R83) -/

/-- Set a latch; where it was clear and its condition is absent, the recovery timer of a kind with BY_TIME starts
(04 R84). -/
def FaultRecord.setLatch (k : FaultKind) (byTime condition : Bool) (startEnd : Nat) (f : FaultRecord) : FaultRecord :=
  { f with
    latches := f.latches.set k true
    recovery := if !f.latches.get k && byTime && !condition then f.recovery.set k (some startEnd) else f.recovery }

/-- A detection at an outlet (04 R82). -/
def State.detectOutlet (i : Nat) (k : FaultKind) (s : State) : State :=
  let e := s.protectionOf k
  if !e.enable then s
  else
    match s.outlet.outlets.get i with
    | none => s
    | some o =>
      let f := { o.fault with last := some (k, s.now) }
      if e.latch then
        let f' := f.setLatch k e.byTime (s.outletCondition o k) s.recoveryEnd
        let s := (s.setOutlet i { o with fault := f' }).mark .outlet i
        let s := match o.state with
          | .tripped | .outOfService => s
          | .off | .ready | .waiting _ | .live => s.vacate i .tripped .fault
        if !o.fault.latches.get k && e.count then s.tripOutlet i else s
      else
        let s := (s.setOutlet i { o with fault := f }).mark .outlet i
        if e.cut && o.session.isSome then
          let s := s.vacate i .ready .fault
          (if e.count then s.tripOutlet i else s).checkClosings i
        else s

/-- A detection at a tap (04 R83). -/
def State.detectTap (i : Nat) (k : FaultKind) (s : State) : State :=
  let e := s.protectionOf k
  if !e.enable then s
  else
    match s.tap.taps.get i with
    | none => s
    | some t =>
      let f := { t.fault with last := some (k, s.now) }
      if e.latch then
        let f' := f.setLatch k e.byTime (s.tapCondition t k) s.recoveryEnd
        let s := ((s.setTap i { t with fault := f' }).mark .tap i).lockTap i
        if !t.fault.latches.get k && e.count then s.tripTap i else s
      else
        let s := (s.setTap i { t with fault := f }).mark .tap i
        if e.cut && decide (t.state = .opened) then
          let s := s.shutTap i .closed .fault
          if e.count then s.tripTap i else s
        else s

/-! ## Recovery (04 R84) -/

/-- Clear latches of a fault record, with their recovery timers. -/
def FaultRecord.clear (named : FaultKind → Bool) (f : FaultRecord) : FaultRecord :=
  { f with
    latches := KindMap.of fun k => f.latches.get k && !named k
    recovery := KindMap.of fun k => if named k then none else f.recovery.get k }

/-- Clear named latches of an outlet; a TRIPPED outlet left with none goes to OFF and is evaluated. -/
def State.clearOutlet (i : Nat) (named : FaultKind → Bool) (s : State) : State :=
  match s.outlet.outlets.get i with
  | none => s
  | some o =>
    let f := o.fault.clear named
    if f.latches = o.fault.latches then s
    else
      let s := (s.setOutlet i { o with fault := f }).mark .outlet i
      if o.state = .tripped && !f.latches.any then
        ((s.setOutlet i { o with fault := f, state := .off, reason := .recovered }).writeImage o.address).evalAndFlush i
          .fault
      else s

/-- Clear named latches of a tap; a LOCKED tap left with none and without the mark goes to CLOSED. -/
def State.clearTap (i : Nat) (named : FaultKind → Bool) (s : State) : State :=
  match s.tap.taps.get i with
  | none => s
  | some t =>
    let f := t.fault.clear named
    if f.latches = t.fault.latches then s
    else
      let t' := { t with fault := f }
      let t' := if t.state = .locked && !f.latches.any && !t.outOfService then
        { t' with state := .closed, reason := .recovered } else t'
      (s.setTap i t').mark .tap i

/-- BY_UNPLUG: a reply whose image shows the plug ABSENT clears the latches of kinds with BY_UNPLUG whose condition is
absent in the same reply. A kind detected in this reply is left: a latch it set is cleared in the next one (04 R84), and
the condition of METER is absent only after the reply that detected it (04 Table 4.1). -/
def State.unplugRecovery (i : Nat) (detected : FaultKind → Bool) (s : State) : State :=
  match s.outlet.outlets.get i with
  | none => s
  | some o =>
    if o.state = .outOfService then s
    else s.clearOutlet i fun k => (s.protectionOf k).byUnplug && !s.outletCondition o k && !detected k

/-- BY_TIME at an outlet: the recovery timer of a kind runs out. -/
def State.timeRecoveryOutlet (i : Nat) (k : FaultKind) (s : State) : State :=
  match s.outlet.outlets.get i with
  | none => s
  | some o =>
    match o.fault.recovery.get k with
    | none => s
    | some e =>
      let s := (s.advanceTo e).setOutlet i { o with fault := { o.fault with recovery := o.fault.recovery.set k none } }
      if (s.protectionOf k).byTime && !s.outletCondition o k && decide (o.state ≠ .outOfService) then
        s.clearOutlet i fun x => decide (x = k)
      else s

/-- BY_TIME at a tap. -/
def State.timeRecoveryTap (i : Nat) (k : FaultKind) (s : State) : State :=
  match s.tap.taps.get i with
  | none => s
  | some t =>
    match t.fault.recovery.get k with
    | none => s
    | some e =>
      let s := (s.advanceTo e).setTap i { t with fault := { t.fault with recovery := t.fault.recovery.set k none } }
      if (s.protectionOf k).byTime && !s.tapCondition t k && !t.outOfService then s.clearTap i fun x => decide (x = k)
      else s

/-! ## What a reply shows (04 R73 to R80) -/

/-- Whether a kind is detected at all. -/
def State.enabled (s : State) (k : FaultKind) : Bool := (s.protectionOf k).enable

/-- The detection state of an outlet started afresh (04 R73). -/
def FaultRecord.afresh (f : FaultRecord) : FaultRecord :=
  { f with overCount := 0, disagreeEnd := none, stuck := 0, energySeen := false, check := none, litresAdvanced := false }

/-- A reply at a check point: the next reply is not checked, the second one is, and the check point goes (04 R77). -/
def CheckPoint.reply (c : CheckPoint) : Option CheckPoint := if c.count = 0 then some { c with count := 1 } else none

/-- Whether a reply at a check point shows a readback different from it. -/
def CheckPoint.fails (c : CheckPoint) (energised : Bool) : Bool := decide (c.count ≠ 0) && (c.energised != energised)

/-- What a reply tells of an outlet besides its counters: its fault record after it, and the kinds detected. `o` is the
record before the reply, `fresh` whether the reply is the re-basing one. -/
def State.examineOutlet (s : State) (o : Outlet) (x : SideStatus) (fresh jump : Bool) : FaultRecord × List FaultKind :=
  let f := if fresh then o.fault.afresh else o.fault
  let above := s.overThreshold o.rating x.current && decide (o.state = .live)
  let count := if above && s.enabled .overcurrent then f.overCount + 1 else 0
  let one := x.leakA != x.leakB
  let both := x.leakA && x.leakB
  let disagreeEnd := if one && s.enabled .leakDisagree then
    f.disagreeEnd.or (some (s.now + s.mgmt.config.disagreementTime * 1000)) else none
  let detected (k : FaultKind) : Bool :=
    match k with
    | .overcurrent => decide (2 ≤ count) || x.breaker && (fresh || !o.breaker)
    | .earthLeak => both && (!f.latches.earthLeak || fresh || !(o.leakA && o.leakB))
    | .contactor => (f.check.map (·.fails x.contactorClosed)).getD false
    | .meter => jump
    | .leakDisagree | .leak | .valve => false
  ({ f with
      overCount := if 2 ≤ count then 0 else count
      disagreeEnd := disagreeEnd
      check := if s.enabled .contactor then f.check.bind (·.reply) else none },
    faultKinds.filter detected)

/-- The measured values of a side reach its outlet record; a change of readback marks the source. -/
def State.measureOutlet (i : Nat) (x : SideStatus) (s : State) : State :=
  match s.outlet.outlets.get i with
  | none => s
  | some o =>
    let rb : Contact := if x.contactorClosed then .closed else .opened
    let s := s.setOutlet i { o with
      readback := rb, current := x.current, leakA := x.leakA, leakB := x.leakB, breaker := x.breaker }
    if o.readback = rb then s else s.mark .outlet i

/-- An energy delta reaches an outlet: above the jump limit it is discarded; else it is tallied and charged to an open
session (03 R65, 04 R78). -/
def State.energyDelta (i q : Nat) (jump : Bool) (s : State) : State :=
  let s := s.modOutlet i fun o => { o with fault := { o.fault with energySeen := o.fault.energySeen || decide (0 < q) } }
  if jump then s else (s.modLive fun t => { t with energy := addLifetime i q t.energy }).outletDelta i q

/-- A trailing reservation is released at a reply that shows the readback OPEN (03 R57). -/
def State.trailingRelease (i : Nat) (s : State) : State :=
  match s.outlet.outlets.get i with
  | none => s
  | some o =>
    if o.readback = .opened ∧ o.state ≠ .live then (s.releaseReservation i).flushAttempts else s

/-- A reply of the pedestal reaches an outlet (08 R155, log 10): measured values, energy delta, detections, trailing
release, plug, recovery BY_UNPLUG. -/
def State.outletReply (i : Nat) (x : SideStatus) (fresh plugChanged : Bool) (delta : Option Nat) (s : State) : State :=
  match s.outlet.outlets.get i with
  | none => s
  | some o =>
    let q := delta.getD 0
    let jump := decide (s.mgmt.config.energyJumpLimit < q)
    let r := s.examineOutlet o x fresh jump
    let s := (s.setOutlet i { o with fault := r.1 }).measureOutlet i x
    let s := s.energyDelta i q jump
    let s := (r.2.foldl (fun t k => t.detectOutlet i k) s).flushAttempts
    let s := s.trailingRelease i
    let s := if fresh then s.storePlug i (if x.plug then .present else .absent)
      else if plugChanged then s.plugEvent i x.plug else s
    if x.plug then s else s.unplugRecovery i fun k => r.2.contains k && s.enabled k

/-- What a reply tells of a tap: its fault record and leak watch sum after it, and the kinds detected. A sum already at
a lowered threshold is detected at the next reply after the settle time, with or without litres (DESIGN CHOICE, log
47). LEAK is detected again while its latch is set too (DESIGN CHOICE, log 53). -/
def State.examineTap (s : State) (t : Tap) (x : SideStatus) (fresh jump : Bool) (q : Nat) :
    FaultRecord × Nat × List FaultKind :=
  let f := if fresh then t.fault.afresh else t.fault
  let watching := decide (t.state ≠ .opened) && !jump && !t.settling s.now && s.enabled .leak
  let sum := if watching then t.watchSum + q else if s.enabled .leak then t.watchSum else 0
  let leak := watching && decide (s.mgmt.config.leakThreshold ≤ sum)
  let detected (k : FaultKind) : Bool :=
    match k with
    | .meter => jump
    | .leak => leak
    | .valve => (f.check.map (·.fails x.valveOpen)).getD false
    | .overcurrent | .earthLeak | .leakDisagree | .contactor => false
  ({ f with
      litresAdvanced := decide (t.state ≠ .opened ∧ 0 < q)
      check := if s.enabled .valve then f.check.bind (·.reply) else none },
    (if leak then 0 else sum), faultKinds.filter detected)

/-- A reply of the pedestal reaches a tap (05 R95, R100, log 10): litre delta, valve readback, detections, press. At the
re-basing reply the watch of a closed tap starts afresh before the reply is examined (04 R73, R80). -/
def State.tapReply (i : Nat) (x : SideStatus) (fresh pressed : Bool) (delta : Option Nat) (s : State) : State :=
  match s.tap.taps.get i with
  | none => s
  | some t0 =>
    let t := if fresh && decide (t0.state ≠ .opened) then s.startSettle t0 else t0
    let q := delta.getD 0
    let jump := decide (s.mgmt.config.litreJumpLimit < q)
    let r := s.examineTap t x fresh jump q
    let rb : Contact := if x.valveOpen then .opened else .closed
    let s := s.setTap i { t with fault := r.1, watchSum := r.2.1, readback := rb }
    let s := if t.readback = rb then s else s.mark .tap i
    let s := if jump then s else (s.modLive fun y => { y with litres := addLifetime i q y.litres }).tapDelta i q
    let s := r.2.2.foldl (fun u k => u.detectTap i k) s
    if pressed then s.buttonPress t.ref else s

/-! ## Rounds without energy (04 R79) -/

/-- The stuck-meter round count of an outlet at a round completion. -/
def State.stuckRound (s : State) (o : Outlet) : Outlet :=
  if s.pedestalServes o.address then
    { o with fault := { o.fault with
      energySeen := false
      stuck := if !o.fault.energySeen && decide (20 < o.current) && s.enabled .meter then o.fault.stuck + 1 else 0 } }
  else o

/-- A stuck-meter count that has reached 30 detects METER and returns to 0. -/
def State.stuckDetect (i : Nat) (s : State) : State :=
  match s.outlet.outlets.get i with
  | none => s
  | some o =>
    if Config.stuckRounds ≤ o.fault.stuck then
      ((s.setOutlet i { o with fault := { o.fault with stuck := 0 } }).detectOutlet i .meter).flushAttempts
    else s

/-- A round completes: the rings and means of the feeders, then the stuck-meter counts (03 R60, 04 R79). A count that
reached 30 and whose detection has not been taken is detected first (log 11). -/
def State.completeRound (s : State) : State :=
  let s := s.outlet.outlets.keys.foldl (fun t i => t.stuckDetect i) s
  let s := s.feederRounds
  { s with outlet := { s.outlet with outlets := s.outlet.outlets.map fun p => (p.1, s.stuckRound p.2) } }

/-! ## Check points (04 R77) -/

/-- An acknowledged image sets the check points of a pedestal's outlets and taps. -/
def State.setCheckPoints (address : Nat) (m : Image) (s : State) : State :=
  let outlets := s.outlet.outlets.map fun p =>
    (p.1, if p.2.address = address ∧ s.enabled .contactor then
      { p.2 with fault := { p.2.fault with check := some ⟨(m.side p.2.side).contactorClosed, 0⟩ } } else p.2)
  let taps := s.tap.taps.map fun p =>
    (p.1, if p.2.address = address ∧ s.enabled .valve then
      { p.2 with fault := { p.2.fault with check := some ⟨(m.side p.2.side).valveOpen, 0⟩ } } else p.2)
  { s with outlet := { s.outlet with outlets := outlets }, tap := { s.tap with taps := taps } }

/-! ## The protection action table (04 R81) -/

/-- The entry PROTECTION LOAD stores: that of EARTH_LEAK is forced. -/
def storedEntry (f : ProtectionLoad) (k : FaultKind) : ProtectionEntry :=
  match k with
  | .earthLeak => ⟨true, true, true, f.count, false, true, false⟩
  | _ => ⟨f.enable, f.cut, f.latch, f.count, f.byUnplug, f.byCommand, f.byTime⟩

/-- Whether PROTECTION LOAD is refused OUT_OF_RANGE for its recovery methods. -/
def methodsBad (f : ProtectionLoad) (k : FaultKind) : Bool :=
  !(f.byUnplug || f.byCommand || f.byTime) ||
    match k with
    | .leak | .valve => f.byUnplug
    | .meter => f.byUnplug && !f.byCommand && !f.byTime
    | _ => false

/-- The detection state of a kind at its start value (04 R73). -/
def FaultRecord.idle (k : FaultKind) (f : FaultRecord) : FaultRecord :=
  match k with
  | .overcurrent => { f with overCount := 0 }
  | .leakDisagree => { f with disagreeEnd := none }
  | .contactor | .valve => { f with check := none }
  | .meter => { f with stuck := 0 }
  | .earthLeak | .leak => f

/-- Whether a kind applies to an outlet or tap. -/
def applies (k : FaultKind) (t : Target) : Bool := k.appliesTo t

/-- Return a kind's detection state to its start value everywhere. -/
def State.idleKind (k : FaultKind) (s : State) : State :=
  let outlets := s.outlet.outlets.map fun p =>
    (p.1, if applies k .outlet then { p.2 with fault := p.2.fault.idle k } else p.2)
  let taps := s.tap.taps.map fun p =>
    (p.1, if applies k .tap then
      { p.2 with fault := p.2.fault.idle k, watchSum := if k = .leak then 0 else p.2.watchSum } else p.2)
  { s with outlet := { s.outlet with outlets := outlets }, tap := { s.tap with taps := taps } }

/-- PROTECTION LOAD. -/
def protectionLoadAct (fr : IntakeFrame) (f : ProtectionLoad) (s : State) : State :=
  match f.kind with
  | .unlisted => s.refuse fr .outOfRange
  | .known k =>
    if methodsBad f k then s.refuse fr .outOfRange
    else
      let e := storedEntry f k
      let s := { s with outlet := { s.outlet with protection := s.outlet.protection.set k e } }
      (if e.enable then s else s.idleKind k).accept fr [] (.protection k e)

/-! ## CLEAR FAULT and RETURN TO SERVICE (04 R85, R87) -/

/-- Whether a CLEAR FAULT names a kind: the one it carries, or every kind. -/
def clearNames (f : ClearFault) (k : FaultKind) : Bool :=
  match f.kind with
  | none => true
  | some (.known x) => decide (x = k)
  | some .unlisted => false

/-- Whether the kind a CLEAR FAULT carries applies to its target. -/
def clearKindOk (f : ClearFault) (t : Target) : Bool :=
  match f.kind with
  | none => true
  | some (.known x) => applies x t
  | some .unlisted => false

/-- The last two checks of CLEAR FAULT: the refusal, or none. -/
def State.clearRefusal (s : State) (named : FaultKind → Bool) (latches : KindMap Bool) (condition : FaultKind → Bool) :
    Option ReasonCode :=
  let set := faultKinds.filter fun k => named k && latches.get k
  if set.any fun k => !(s.protectionOf k).byCommand then some .notPermitted
  else if set.any condition then some .conditionPresent
  else none

/-- CLEAR FAULT. -/
def clearFaultAct (fr : IntakeFrame) (f : ClearFault) (s : State) : State :=
  match f.target with
  | .unlisted => s.refuse fr .outOfRange
  | .known t =>
    if !(indexOk f.index && clearKindOk f t) then s.refuse fr .outOfRange
    else
      match t with
      | .outlet =>
        match s.outlet.outlets.get f.index with
        | none => s.refuse fr .notFound
        | some o =>
          if o.state = .outOfService then s.refuse fr .wrongState
          else
            match s.clearRefusal (clearNames f) o.fault.latches (s.outletCondition o) with
            | some c => s.refuse fr c
            | none =>
              let u := s.clearOutlet f.index (clearNames f)
              let o' := u.outlet.outlets.getD f.index o
              u.accept fr [] (.outletLatches o'.state o'.fault.latches)
      | .tap =>
        match s.tap.taps.get f.index with
        | none => s.refuse fr .notFound
        | some p =>
          if p.outOfService then s.refuse fr .wrongState
          else
            match s.clearRefusal (clearNames f) p.fault.latches (s.tapCondition p) with
            | some c => s.refuse fr c
            | none =>
              let u := s.clearTap f.index (clearNames f)
              let p' := u.tap.taps.getD f.index p
              u.accept fr [] (.tapLatches p'.state p'.fault.latches)

/-- A fault record with every latch cleared and no trip. -/
def FaultRecord.returned (f : FaultRecord) : FaultRecord :=
  { f with latches := KindMap.all false, recovery := KindMap.all none, trips := [] }

/-- Whether a set latch has its condition present. -/
def FaultRecord.blocked (f : FaultRecord) (condition : FaultKind → Bool) : Bool :=
  faultKinds.any fun k => f.latches.get k && condition k

/-- RETURN TO SERVICE (04 R87). A METER latch has no condition where the pedestal is silent, so it does not refuse it
(DEDUCED, log 54). -/
def returnToServiceAct (fr : IntakeFrame) (f : ReturnToService) (s : State) : State :=
  match f.target with
  | .unlisted => s.refuse fr .outOfRange
  | .known t =>
    if !indexOk f.index then s.refuse fr .outOfRange
    else
      match t with
      | .outlet =>
        match s.outlet.outlets.get f.index with
        | none => s.refuse fr .notFound
        | some o =>
          if o.state ≠ .outOfService then s.refuse fr .wrongState
          else if o.fault.blocked (s.outletCondition o) then s.refuse fr .conditionPresent
          else
            let u := (((s.setOutlet f.index { o with
              fault := o.fault.returned, state := .off, reason := .recovered }).mark .outlet f.index).writeImage
                o.address).evalAndFlush f.index .fault
            u.accept fr [] (.outletState f.index (u.outlet.outlets.getD f.index o).state)
      | .tap =>
        match s.tap.taps.get f.index with
        | none => s.refuse fr .notFound
        | some p =>
          if !p.outOfService then s.refuse fr .wrongState
          else if p.fault.blocked (s.tapCondition p) then s.refuse fr .conditionPresent
          else
            let q := s.startSettle { p with
              fault := p.fault.returned, outOfService := false, state := .closed, reason := .recovered }
            ((s.setTap f.index q).mark .tap f.index).accept fr [] (.tapState f.index .closed)

/-! ## Expiries -/

/-- The disagreement timer of an outlet runs out (04 R76): LEAK_DISAGREE is detected, with its latch set too (DESIGN
CHOICE, log 53). -/
def State.disagreeExpiry (i : Nat) (s : State) : State :=
  match s.outlet.outlets.get i with
  | some o =>
    match o.fault.disagreeEnd with
    | some e =>
      (((s.advanceTo e).setOutlet i { o with fault := { o.fault with disagreeEnd := none } }).detectOutlet i
        .leakDisagree).flushAttempts
    | none => s
  | none => s

/-- A BY_TIME recovery timer runs out (04 R84). -/
def State.timeRecovery (t : Target) (i : Nat) (k : FaultKind) (s : State) : State :=
  match t with
  | .outlet => s.timeRecoveryOutlet i k
  | .tap => s.timeRecoveryTap i k

/-! ## The commands -/

/-- PROTECTION_LOAD (04 R81). -/
def execProtectionLoad (f : Form ProtectionLoad) (s : State) : Host.Outcome State Fault Refusal :=
  localCommand 0x32 .protectionLoad f protectionLoadAct s

/-- CLEAR_FAULT (04 R85). -/
def execClearFault (f : Form ClearFault) (s : State) : Host.Outcome State Fault Refusal :=
  localCommand 0x37 .clearFault f clearFaultAct s

/-- RETURN_TO_SERVICE (04 R87). -/
def execReturnToService (f : Form ReturnToService) (s : State) : Host.Outcome State Fault Refusal :=
  localCommand 0x38 .returnToService f returnToServiceAct s

/-- STUCK_METER_DETECT (04 R79): the round count of an outlet has reached 30. -/
def execStuckMeterDetect (i : Nat) (s : State) : Host.Outcome State Fault Refusal :=
  unitEvent (State.stuckDetect i) s

/-- LEAK_DISAGREE_EXPIRY (04 R76): the disagreement timer of an outlet runs out. -/
def execLeakDisagreeExpiry (i : Nat) (s : State) : Host.Outcome State Fault Refusal :=
  unitEvent (State.disagreeExpiry i) s

/-- RECOVERY_TIMER_EXPIRY (04 R84): a BY_TIME recovery timer runs out. -/
def execRecoveryTimerExpiry (t : Target) (i : Nat) (k : FaultKind) (s : State) : Host.Outcome State Fault Refusal :=
  unitEvent (State.timeRecovery t i k) s

end Sys2Proof.Machine
end

