-- ==== Sys2Proof/Machine/Charge.lean ====
section
/-! DEFINITION. The charge engine (chapter 2): standing transitions, the arbiter's order, metered postings and close
rounding, and the frames handed to the OFFICE requester. What OFFICE does with them is in Office, the FUEL requests in
Fuel. -/

namespace Sys2Proof.Machine

open Sys2Proof

/-! ## Standing (02 R27 to R29) -/

/-- The reason a standing cuts with (02 R28). -/
def Standing.cutReason : Standing → Reason
  | .suspended => .suspended
  | .stopped | .good | .low => .credit

/-- Write the image of a side's pedestal where its outlet is LIVE (02 R29). -/
def State.relamp (r : SideRef) (s : State) : State :=
  match s.outletOfSide r with
  | some (_, o) => if o.state = .live then s.writeImage o.address else s
  | none => s

/-- Evaluate the outlet of a side, leaving the attempts that follow to the end of the operation. -/
def State.cutSide (r : SideRef) (reason : Reason) (s : State) : State :=
  (match s.outletOfSide r with
    | some (i, _) => s.evalOutlet i reason
    | none => s).evalTapSide r reason

/-- The service sides of the berths an account occupies. -/
def State.sidesOf (s : State) (n : Nat) : List SideRef := (s.occupiedBy n).filterMap (·.2.service)

/-- Pass a standing transition to the outlet and tap units: a cut, an eligibility event, or a change of lamp (02 R28, R29).
The spec gives no order of the berths one account occupies: ascending berth index, on each side its outlet before its tap
(DESIGN CHOICE, log 50). -/
def State.passStanding (n : Nat) (was now : Standing) (s : State) : State :=
  if was.serves && !now.serves then
    ((s.sidesOf n).foldl (fun t r => t.cutSide r now.cutReason) s).flushAttempts
  else if !was.serves && now.serves then (s.sidesOf n).foldl (fun t r => t.evalSide r now.cutReason) s
  else if was.serves then (s.sidesOf n).foldl (fun t r => t.relamp r) s
  else s

/-- Store a changed record with its standing derived afresh; a transition marks the notice and is passed on (02 R27). -/
def State.restand (n : Nat) (a : Account) (s : State) : State :=
  let s' := s.setAccount n { a with standing := a.derive }
  if a.derive = a.standing then s' else (s'.mark .account n).passStanding n a.standing a.derive

/-! ## The arbiter (02 R35) -/

/-- The cyclic order of the requesters. -/
def ArbiterClass.next : ArbiterClass → ArbiterClass
  | .power => .water
  | .water => .fuel
  | .fuel => .office
  | .office => .power

/-- Whether a requester has pending work. -/
def ChargeEngine.hasWork (c : ChargeEngine) : ArbiterClass → Bool
  | .power => !c.power.isEmpty
  | .water => !c.water.isEmpty
  | .fuel => !c.fuel.isEmpty
  | .office => !c.office.isEmpty

/-- The requester the free arbiter grants next. -/
def ChargeEngine.nextGrant (c : ChargeEngine) : Option ArbiterClass :=
  let a := c.lastGranted.next
  [a, a.next, a.next.next, a.next.next.next].find? c.hasWork

/-- A requester is granted. -/
def State.grant (a : ArbiterClass) (s : State) : State := { s with charge := { s.charge with lastGranted := a } }

/-! ## Debits (02 R32, R38, R40) -/

/-- The metered services. -/
inductive Service where
  | power | water
  deriving DecidableEq, Repr

/-- A period total after a debit; past its range it holds a free value, from the total before it up to the upper limit:
a debit never lowers a total (02 R40, 11 R187; log 19). -/
def addTotal (n x c : Nat) : Nat :=
  if x + c ≤ Config.maxPeriodTotal then x + c
  else x + Config.periodTotalBeyond n (x + c) % (Config.maxPeriodTotal - x + 1)

/-- A record debited for a metered service. -/
def Account.charge (v : Service) (n c : Nat) (a : Account) : Account :=
  let b := saturate a.balance (-(c : Int))
  let a := { a with balance := b.1, saturated := a.saturated || b.2 }
  match v with
  | .power => { a with power := addTotal n a.power c }
  | .water => { a with water := addTotal n a.water c }

/-- A debit in the charged tally of its service (11 R183). -/
def Tallies.charge (v : Service) (c : Nat) (t : Tallies) : Tallies :=
  match v with
  | .power => { t with chargedPower := addPeriod t.chargedPower c }
  | .water => { t with chargedWater := addPeriod t.chargedWater c }

/-- Debit an account for a metered service: balance, period total, tally, standing and notice. -/
def State.debit (v : Service) (n c : Nat) (s : State) : State :=
  if c = 0 then s
  else
    match s.account n with
    | none => s
    | some a => ((s.modLive (Tallies.charge v c)).mark .account n).restand n (a.charge v n c)

/-! ## The sources of the two services -/

/-- The posting slots of a service. -/
def State.slots (s : State) : Service → List Posting
  | .power => s.charge.power
  | .water => s.charge.water

/-- Store the posting slots of a service. -/
def State.setSlots (v : Service) (l : List Posting) (s : State) : State :=
  match v with
  | .power => { s with charge := { s.charge with power := l } }
  | .water => { s with charge := { s.charge with water := l } }

/-- The session of a source. -/
def State.sourceSession (s : State) (v : Service) (i : Nat) : Option Session :=
  match v with
  | .power => (s.outlet.outlets.get i).bind (·.session)
  | .water => (s.tap.taps.get i).bind (·.session)

/-- Change the session of a source, where one is open. -/
def State.modSession (v : Service) (i : Nat) (f : Session → Session) (s : State) : State :=
  match v with
  | .power => s.modOutlet i fun o => { o with session := o.session.map f }
  | .water => s.modTap i fun t => { t with session := t.session.map f }

/-- The waiting closings of a source. -/
def State.waitingOf (s : State) (v : Service) (i : Nat) : List WaitingClosing :=
  match v with
  | .power => ((s.outlet.outlets.get i).map (·.waiting)).getD []
  | .water => ((s.tap.taps.get i).map (·.waiting)).getD []

/-- Store the waiting closings of a source. -/
def State.setWaiting (v : Service) (i : Nat) (l : List WaitingClosing) (s : State) : State :=
  match v with
  | .power => s.modOutlet i fun o => { o with waiting := l }
  | .water => s.modTap i fun t => { t with waiting := l }

/-- A completed end record joins the list of its source and marks it (03 R66, R67; 05 R98, R99). -/
def State.completeEnd (v : Service) (i : Nat) (e : EndRecord) (s : State) : State :=
  match v with
  | .power =>
    (s.modOutlet i fun o =>
      { o with ends := (addEnd e o.ends o.endsDropped).1, endsDropped := (addEnd e o.ends o.endsDropped).2 }).mark
      .outlet i
  | .water =>
    (s.modTap i fun t =>
      { t with ends := (addEnd e t.ends t.endsDropped).1, endsDropped := (addEnd e t.ends t.endsDropped).2 }).mark .tap i

/-- The price of a service in a tariff row. -/
def TariffRow.metered (r : TariffRow) : Service → Nat
  | .power => r.power
  | .water => r.water

/-- The price a posting is served at (02 R34). -/
def State.priceOf (s : State) (v : Service) (n : Nat) : Nat :=
  match s.account n with
  | some a => (s.tariffRow a.cls).metered v
  | none => 0

/-! ## Postings (02 R37 to R39) -/

/-- The slot of a source has emptied: the oldest waiting closing moves in as a closing entry, or else the unposted
quantity of its session as a new entry. A list that leaves 4 has its outlet evaluated afresh. -/
def State.refill (v : Service) (i : Nat) (s : State) : State :=
  if (findPosting i (s.slots v)).isSome then s
  else
  match s.waitingOf v i with
  | w :: rest =>
    let s := (s.setSlots v (s.slots v ++ [⟨i, w.account, w.unposted, some w.closing⟩])).setWaiting v i rest
    match v with
    | .power => if rest.length + 1 = Config.closingCapacity then s.evalAndFlush i .credit else s
    | .water => s
  | [] =>
    match s.sourceSession v i with
    | some x =>
      if x.unposted = 0 then s
      else (s.setSlots v (s.slots v ++ [⟨i, x.account, x.unposted, none⟩])).modSession v i fun y => { y with unposted := 0 }
    | none => s

/-- Serve an entry of an open session: whole credit units are debited, the residual stays with the session. -/
def State.serveOpen (v : Service) (e : Posting) (s : State) : State :=
  let r := ((s.sourceSession v e.source).map (·.residual)).getD 0
  let t := r + e.quantity * s.priceOf v e.account
  let s := s.setSlots v (dropPosting e.source (s.slots v))
  let s := s.modSession v e.source fun x => { x with residual := t % 1000, charged := x.charged + t / 1000 }
  (s.debit v e.account (t / 1000)).refill v e.source

/-- Serve a closing entry with its close rounding; the end record is then complete. -/
def State.serveClosing (v : Service) (e : Posting) (c : Closing) (s : State) : State :=
  let t := c.carried + e.quantity * s.priceOf v e.account
  let rounding := if 500 ≤ t % 1000 then 1 else 0
  let s := (s.debit v e.account (t / 1000)).debit v e.account rounding
  let s := s.setSlots v (dropPosting e.source (s.slots v))
  let s := s.completeEnd v e.source { c.record with charged := c.record.charged + t / 1000 + rounding }
  s.refill v e.source

/-- The class of the arbiter that serves a metered service. -/
def Service.requester : Service → ArbiterClass
  | .power => .power
  | .water => .water

/-- The arbiter grants a metered service, and serves the entry that became pending earliest. -/
def State.servePosting (v : Service) (s : State) : State :=
  if s.charge.nextGrant = some v.requester then
    match s.slots v with
    | [] => s
    | e :: _ =>
      match e.closing with
      | none => (s.grant v.requester).serveOpen v e
      | some c => (s.grant v.requester).serveClosing v e c
  else s

/-! ## Frames handed to OFFICE (02 R36) -/

/-- Hand an operation to the OFFICE requester: the management unit waits for it. -/
def State.handOffice (fr : IntakeFrame) (op : OfficeOp) (s : State) : State :=
  { s with charge := { s.charge with office := s.charge.office ++ [op] } }.setWork (.office fr)

/-- A field that is absent, or within its range. -/
def optOk {α : Type} (p : α → Bool) (x : Option α) : Bool := (x.map p).getD true

/-- An account class, priority or overdraft limit, or a warning level, within its range (02 Table 2.1). -/
def classOk (x : Nat) : Bool := decide (x ≤ 3)
/-- The range of an overdraft limit. -/
def overdraftOk (x : Nat) : Bool := decide (x ≤ 9999999)
/-- The range of a warning level. -/
def warningOk (x : Int) : Bool := decide (-9999999 ≤ x ∧ x ≤ 9999999)
/-- The range of a balance, and of a top-up. -/
def balanceOk (x : Int) : Bool := decide (-Config.maxBalance ≤ x ∧ x ≤ Config.maxBalance)
/-- The range of a price. -/
def priceOk (x : Nat) : Bool := decide (x ≤ 65535)

/-- ACCOUNT LOAD as it is taken (02 R25). -/
def accountLoadAct (fr : IntakeFrame) (f : AccountLoad) (s : State) : State :=
  if accountOk f.number && classOk f.cls && classOk f.priority && balanceOk f.opening && overdraftOk f.overdraft &&
      warningOk f.warning then s.handOffice fr (.accountLoad f)
  else s.refuse fr .outOfRange

/-- ACCOUNT UPDATE as it is taken (02 R30). -/
def accountUpdateAct (fr : IntakeFrame) (f : AccountUpdate) (s : State) : State :=
  if accountOk f.number && optOk classOk f.cls && optOk classOk f.priority && optOk overdraftOk f.overdraft &&
      optOk warningOk f.warning then s.handOffice fr (.accountUpdate f)
  else s.refuse fr .outOfRange

/-- TOP UP as it is taken (02 R31). -/
def topUpAct (fr : IntakeFrame) (f : TopUp) (s : State) : State :=
  if accountOk f.number && balanceOk f.amount then s.handOffice fr (.topUp f) else s.refuse fr .outOfRange

/-- ACCOUNT REMOVE as it is taken (02 R33). -/
def accountRemoveAct (fr : IntakeFrame) (n : Nat) (s : State) : State :=
  if accountOk n then s.handOffice fr (.accountRemove n) else s.refuse fr .outOfRange

/-- TARIFF LOAD as it is taken (02 R34). -/
def tariffLoadAct (fr : IntakeFrame) (f : TariffLoad) (s : State) : State :=
  if classOk f.cls && priceOk f.power && priceOk f.water && priceOk f.fuel0 && priceOk f.fuel1 then
    s.handOffice fr (.tariffLoad f)
  else s.refuse fr .outOfRange

/-- Whether an account's notice is marked (02 Table 2.1). -/
def State.noticePending (s : State) (n : Nat) : Bool :=
  ((s.trunk.sources.get (sourceKey ⟨.account, n⟩)).map (·.mark)).getD false

/-- ACCOUNT READ: direct, or walking to the next number (02 R26). -/
def accountReadAct (fr : IntakeFrame) (f : AccountRead) (s : State) : State :=
  if Config.maxAccount < f.number then s.refuse fr .outOfRange
  else
    match s.charge.accounts.find? fun p => if f.walk then decide (f.number < p.1) else decide (p.1 = f.number) with
    | some (n, a) => s.accept fr [] (.account n a (s.noticePending n))
    | none => s.refuse fr .notFound

/-! ## The commands -/

/-- ACCOUNT_LOAD (02 R25, R36). -/
def execAccountLoad (f : Form AccountLoad) (s : State) : Host.Outcome State Fault Refusal :=
  localCommand 0x20 .accountLoad f accountLoadAct s

/-- ACCOUNT_UPDATE (02 R30, R36). -/
def execAccountUpdate (f : Form AccountUpdate) (s : State) : Host.Outcome State Fault Refusal :=
  localCommand 0x21 .accountUpdate f accountUpdateAct s

/-- TOP_UP (02 R31, R36). -/
def execTopUp (f : Form TopUp) (s : State) : Host.Outcome State Fault Refusal :=
  localCommand 0x22 .topUp f topUpAct s

/-- ACCOUNT_REMOVE (02 R33, R36). -/
def execAccountRemove (f : Form Nat) (s : State) : Host.Outcome State Fault Refusal :=
  localCommand 0x23 .accountRemove f accountRemoveAct s

/-- ACCOUNT_READ (02 R26). -/
def execAccountRead (f : Form AccountRead) (s : State) : Host.Outcome State Fault Refusal :=
  localCommand 0x24 .accountRead f accountReadAct s

/-- TARIFF_LOAD (02 R34, R36). -/
def execTariffLoad (f : Form TariffLoad) (s : State) : Host.Outcome State Fault Refusal :=
  localCommand 0x25 .tariffLoad f tariffLoadAct s

/-- POWER_POSTING (02 R35, R38, R39). -/
def execPowerPosting (s : State) : Host.Outcome State Fault Refusal := unitEvent (State.servePosting .power) s

/-- WATER_POSTING (02 R35, R38, R39). -/
def execWaterPosting (s : State) : Host.Outcome State Fault Refusal := unitEvent (State.servePosting .water) s

end Sys2Proof.Machine
end

