-- ==== Sys2Proof/Machine/Berth.lean ====
section
/-! DEFINITION. The berth unit (chapter 1): the berth table and its states, offers and bookings, the tide record, and the
allocation computation. -/

namespace Sys2Proof.Machine

open Sys2Proof

/-! ## Ranges (01 Table 1.9) -/

/-- A vessel record within its ranges. -/
def vesselOk (v : Vessel) : Bool :=
  decide (30 ≤ v.loa ∧ v.loa ≤ 600 ∧ 10 ≤ v.beam ∧ v.beam ≤ 150 ∧ 50 ≤ v.draft ∧ v.draft ≤ 600 ∧
    (v.power = 0 ∨ v.power = 16 ∨ v.power = 32))

/-- The ranges of the loaded fields of a berth. -/
def berthLoadOk (f : BerthLoad) : Bool :=
  indexOk f.index && decide (30 ≤ f.maxLength ∧ f.maxLength ≤ 600 ∧ 10 ≤ f.maxBeam ∧ f.maxBeam ≤ 150 ∧ f.depth ≤ 1500)

/-- The service side a load gives: none where it is out of range. -/
def serviceOf (f : Option SideFields) : Option (Option SideRef) :=
  match f with
  | none => some none
  | some x =>
    match x.side with
    | .known side => if busAddressOk x.address then some (some ⟨x.address, side⟩) else none
    | .unlisted => none

/-! ## Loads and reads -/

/-- Whether a state has an occupant account: OFFERED, HELD or OCCUPIED. -/
def BerthState.engaged : BerthState → Bool
  | .offered | .held | .occupied => true
  | .closed | .free => false

/-- BERTH LOAD (01 R2). -/
def berthLoadAct (fr : IntakeFrame) (f : BerthLoad) (s : State) : State :=
  match f.cls, serviceOf f.service with
  | .known cls, some service =>
    if !berthLoadOk f then s.refuse fr .outOfRange
    else if service.isSome && s.berth.berths.any fun p => decide (p.1 ≠ f.index ∧ p.2.service = service) then
      s.refuse fr .exists
    else
      let store (b : Berth) : State :=
        (((s.setBerth f.index b).createSource .berth f.index).mark .berth f.index).accept fr []
          (.berthLoaded f.index b.state)
      match s.berth.berths.get f.index with
      | none =>
        store ⟨f.label, cls, f.maxLength, f.maxBeam, f.depth, service, .closed, none, none, none, none, .loaded⟩
      | some b =>
        if b.state.engaged && decide (b.cls ≠ cls ∨ b.service ≠ service) then s.refuse fr .wrongState
        else
          store { b with
            label := f.label, cls := cls, maxLength := f.maxLength, maxBeam := f.maxBeam, depth := f.depth,
            service := service, reason := .loaded }
  | _, _ => s.refuse fr .outOfRange

/-- The fields of Table 1.9 as BERTH READ gives them: an offer's expiry as whole seconds remaining, rounded up (01 R3).
-/
def State.berthView (s : State) (b : Berth) : BerthView where
  label := b.label
  cls := b.cls
  maxLength := b.maxLength
  maxBeam := b.maxBeam
  depth := b.depth
  service := b.service
  state := b.state
  account := b.account
  vessel := b.vessel
  remaining := b.offerEnd.map (secondsLeft s.now)
  expiry := b.expiry
  reason := b.reason

/-- BERTH READ (01 R3). -/
def berthReadAct (fr : IntakeFrame) (i : Nat) (s : State) : State :=
  if !indexOk i then s.refuse fr .outOfRange
  else
    match s.berth.berths.get i with
    | none => s.refuse fr .notFound
    | some b => s.accept fr [] (.berth i (s.berthView b))

/-! ## State changes (01 Table 1.11) -/

/-- Store a berth whose state changed: its last reason is set and its source marked (01 R4). -/
def State.changeBerth (i : Nat) (b : Berth) (reason : BerthReason) (s : State) : State :=
  (s.setBerth i { b with reason := reason }).mark .berth i

/-- A berth without account, vessel record, expiry or offer timer, in FREE. -/
def Berth.freed (b : Berth) : Berth :=
  { b with state := .free, account := none, vessel := none, offerEnd := none, expiry := none }

/-- A berth goes to FREE. -/
def State.freeBerth (i : Nat) (b : Berth) (reason : BerthReason) (s : State) : State :=
  s.changeBerth i b.freed reason

/-- The ACCEPTED reply of a command on a berth: index, label code and resulting state (01 R4). -/
def State.acceptBerth (fr : IntakeFrame) (i : Nat) (s : State) : State :=
  match s.berth.berths.get i with
  | some b => s.accept fr [] (.berthState i b.label b.state)
  | none => s.refuse fr .notFound

/-- The first two checks of the commands on a berth (01 R4). -/
def State.withBerth (fr : IntakeFrame) (i : Nat) (act : Berth → State) (s : State) : State :=
  if !indexOk i then s.refuse fr .outOfRange
  else
    match s.berth.berths.get i with
    | none => s.refuse fr .notFound
    | some b => act b

/-- OPEN BERTH (01 R5). -/
def openBerthAct (fr : IntakeFrame) (i : Nat) (s : State) : State :=
  s.withBerth fr i fun b =>
    match b.state with
    | .closed => (s.changeBerth i { b with state := .free } .opened).acceptBerth fr i
    | .free => s.acceptBerth fr i
    | .offered | .held | .occupied => s.refuse fr .wrongState

/-- CLOSE BERTH (01 R6). -/
def closeBerthAct (fr : IntakeFrame) (i : Nat) (s : State) : State :=
  s.withBerth fr i fun b =>
    match b.state with
    | .free => (s.changeBerth i { b with state := .closed } .closed).acceptBerth fr i
    | .closed => s.acceptBerth fr i
    | .offered | .held | .occupied => s.refuse fr .wrongState

/-- The expiry a booking stores: arrive-by plus the no-show grace, not above 0xFFFFFFFF (01 R7). -/
def bookingExpiry (arriveBy : Clock) (grace : Nat) : Clock := BitVec.ofNat 32 (min (arriveBy.toNat + grace) Config.max32)

/-- BOOK (01 R7). -/
def bookAct (fr : IntakeFrame) (f : Book) (s : State) : State :=
  match f.account, f.vessel, f.arriveBy with
  | some n, some v, some t =>
    if !(accountOk n && vesselOk v) then s.refuse fr .outOfRange
    else
      s.withBerth fr f.index fun b =>
        if b.state ≠ .free then s.refuse fr .wrongState
        else if (s.account n).isNone then s.refuse fr .notFound
        else
          (s.changeBerth f.index { b with
            state := .held, account := some n, vessel := some v,
            expiry := some (bookingExpiry t s.mgmt.config.noShowGrace) } .booked).acceptBerth fr f.index
  | _, _, _ => s.refuse fr .outOfRange

/-- The berth a CONFIRM makes OCCUPIED (01 R8). -/
def confirmed (f : Confirm) (b : Berth) : Berth :=
  { b with
    state := .occupied, account := f.account.or b.account, vessel := f.vessel.or b.vessel, offerEnd := none,
    expiry := none }

/-- CONFIRM (01 R8). -/
def confirmAct (fr : IntakeFrame) (f : Confirm) (s : State) : State :=
  if !(optOk accountOk f.account && optOk vesselOk f.vessel) then s.refuse fr .outOfRange
  else
    s.withBerth fr f.index fun b =>
      match b.state with
      | .closed | .occupied => s.refuse fr .wrongState
      | .free | .offered | .held =>
        if decide (b.state = .free) && (f.account.isNone || f.vessel.isNone) then s.refuse fr .outOfRange
        else
          let b' := confirmed f b
          if ((b'.account.bind s.account)).isNone then s.refuse fr .notFound
          else
            let s := s.changeBerth f.index b' .confirmed
            (match b.service with
              | some r => s.evalSide r .depart
              | none => s).acceptBerth fr f.index

/-- DECLINE (01 R9). -/
def declineAct (fr : IntakeFrame) (i : Nat) (s : State) : State :=
  s.withBerth fr i fun b =>
    match b.state with
    | .offered | .held => (s.freeBerth i b .declined).acceptBerth fr i
    | .closed | .free | .occupied => s.refuse fr .wrongState

/-- DEPART (01 R10): one operation with the end of the sessions at the berth's outlet and tap. -/
def departAct (fr : IntakeFrame) (i : Nat) (s : State) : State :=
  s.withBerth fr i fun b =>
    match b.state with
    | .occupied =>
      let s := s.freeBerth i b .departed
      (match b.service with
        | some r => (s.cutSide r .depart).flushAttempts
        | none => s).acceptBerth fr i
    | .closed | .free | .offered | .held => s.refuse fr .wrongState

/-! ## Expiries -/

/-- The no-show test of one berth (01 R12). -/
def State.noShowTest (i : Nat) (s : State) : State :=
  match s.berth.berths.get i with
  | none => s
  | some b =>
    match b.state, b.expiry with
    | .held, some e => if s.mgmt.timeValid && decide (e < s.mgmt.clock) then s.freeBerth i b .noShow else s
    | _, _ => s

/-- The no-show test of every berth, at an advance of the segment clock and at a TIME (01 R12). -/
def State.noShowAll (s : State) : State := s.berth.berths.keys.foldl (fun t i => t.noShowTest i) s

/-- The offer timer of an OFFERED berth runs out (01 R11). -/
def State.offerExpiry (i : Nat) (s : State) : State :=
  match s.berth.berths.get i with
  | none => s
  | some b =>
    match b.state, b.offerEnd with
    | .offered, some t => (s.advanceTo t).freeBerth i b .expired
    | _, _ => s

/-! ## Tide (01 R13, R14) -/

/-- A height brought into −300 to +1200 cm. -/
def clampHeight (x : Int) : Int := max (-300) (min x 1200)

/-- TIDE (01 R13). -/
def tideAct (fr : IntakeFrame) (f : TideFields) (s : State) : State :=
  let c := clampHeight f.current
  let l := clampHeight f.low
  let s := { s with berth := { s.berth with tide := some ⟨c, l, f.lowTime, s.clockValue, s.now⟩ } }
  s.testTide.markStatus.accept fr (flagIf (decide (c ≠ f.current ∨ l ≠ f.low)) .clamped) .none

/-- The age of the tide record crosses the stale limit (01 R14, log 31). -/
def State.tideExpiry (s : State) : State :=
  match s.berth.tide with
  | none => s
  | some t =>
    if s.berth.tideStale then s else (s.advanceTo (t.taken + (s.mgmt.config.tideStaleLimit + 1) * 1000)).testTide

/-! ## Allocation (01 R15 to R20) -/

/-- The usable tide (01 R16). -/
def State.usableTide (s : State) : Int :=
  if s.tideIsStale then s.mgmt.config.tideFloor
  else
    match s.berth.tide with
    | some t => min t.current t.low
    | none => s.mgmt.config.tideFloor

/-- Whether a berth fits a vessel (01 R17). -/
def State.berthFits (s : State) (v : Vessel) (mask : List BerthClass) (b : Berth) : Bool :=
  decide (b.state = .free) && mask.contains b.cls &&
    decide (v.loa ≤ b.maxLength ∧ v.beam ≤ b.maxBeam ∧
      (s.mgmt.config.keelClearance : Int) ≤ (b.depth : Int) + s.usableTide - v.draft)

/-- The waste of a fitting berth (01 R17). -/
def waste (v : Vessel) (b : Berth) : Nat := 4 * (b.maxLength - v.loa) + (b.maxBeam - v.beam)

/-- Whether a fitting berth is power-capable (01 R18). -/
def State.powerCapable (s : State) (v : Vessel) (b : Berth) : Bool :=
  match b.service.bind s.outletOfSide with
  | none => false
  | some (_, o) =>
    match s.outlet.feeders.get o.feeder with
    | none => false
    | some f =>
      decide (v.power * 10 ≤ o.rating ∧ o.state ≠ .outOfService ∧
        s.reservedSum o.feeder + figureOf o.rating f.diversity ≤ f.capacity)

/-- The berth of least waste; of equal waste, the lower index. -/
def leastWaste (v : Vessel) : List (Nat × Berth) → Option (Nat × Berth)
  | [] => none
  | p :: l =>
    match leastWaste v l with
    | none => some p
    | some q => if waste v q.2 < waste v p.2 then some q else some p

/-- The classes an ALLOCATE asks for: VISITOR alone without a class mask; none where its mask names anything but the
four classes (01 R15). -/
def classesAsked (f : Allocate) : Option (List BerthClass) :=
  match f.classMask with
  | none => some [.visitor]
  | some (.known l) => some l
  | some .unlisted => none

/-- The choice of R19 among the berths of the classes asked for: the berth, and whether it is offered without power. -/
def State.chooseBerth (s : State) (f : Allocate) (mask : List BerthClass) : Option ((Nat × Berth) × Bool) :=
  let fitting := s.berth.berths.filter fun p => s.berthFits f.vessel mask p.2
  let capable := fitting.filter fun p => s.powerCapable f.vessel p.2
  if f.vessel.power = 0 then (leastWaste f.vessel fitting).map (·, false)
  else
    match leastWaste f.vessel capable with
    | some p => some (p, false)
    | none => if f.acceptNoPower then (leastWaste f.vessel fitting).map (·, true) else none

/-- ALLOCATE (01 R15, R20). -/
def allocateAct (fr : IntakeFrame) (f : Allocate) (s : State) : State :=
  match classesAsked f with
  | none => s.refuse fr .outOfRange
  | some mask =>
    if !(accountOk f.account && vesselOk f.vessel) then s.refuse fr .outOfRange
    else if (s.account f.account).isNone then s.refuse fr .notFound
    else
      let s := s.testTide
      match s.chooseBerth f mask with
      | none => s.refuse fr .noFit
      | some ((i, b), powerless) =>
        (s.changeBerth i { b with
          state := .offered, account := some f.account, vessel := some f.vessel,
          offerEnd := some (s.now + s.mgmt.config.offerTime * 1000) } .offered).accept fr
          (flagIf s.tideIsStale .tideStale ++ flagIf powerless .powerUnavailable)
          (.allocated i b.label (waste f.vessel b) s.usableTide)

/-! ## The commands -/

/-- BERTH_LOAD (01 R2). -/
def execBerthLoad (f : Form BerthLoad) (s : State) : Host.Outcome State Fault Refusal :=
  localCommand 0x10 .berthLoad f berthLoadAct s

/-- BERTH_READ (01 R3). -/
def execBerthRead (f : Form Nat) (s : State) : Host.Outcome State Fault Refusal :=
  localCommand 0x11 .berthRead f berthReadAct s

/-- OPEN_BERTH (01 R5). -/
def execOpenBerth (f : Form Nat) (s : State) : Host.Outcome State Fault Refusal :=
  localCommand 0x12 .openBerth f openBerthAct s

/-- CLOSE_BERTH (01 R6). -/
def execCloseBerth (f : Form Nat) (s : State) : Host.Outcome State Fault Refusal :=
  localCommand 0x13 .closeBerth f closeBerthAct s

/-- BOOK (01 R7). -/
def execBook (f : Form Book) (s : State) : Host.Outcome State Fault Refusal :=
  localCommand 0x14 .book f bookAct s

/-- ALLOCATE (01 R15 to R20). -/
def execAllocate (f : Form Allocate) (s : State) : Host.Outcome State Fault Refusal :=
  localCommand 0x15 .allocate f allocateAct s

/-- CONFIRM (01 R8). -/
def execConfirm (f : Form Confirm) (s : State) : Host.Outcome State Fault Refusal :=
  localCommand 0x16 .confirm f confirmAct s

/-- DECLINE (01 R9). -/
def execDecline (f : Form Nat) (s : State) : Host.Outcome State Fault Refusal :=
  localCommand 0x17 .decline f declineAct s

/-- DEPART (01 R10). -/
def execDepart (f : Form Nat) (s : State) : Host.Outcome State Fault Refusal :=
  localCommand 0x18 .depart f departAct s

/-- OFFER_TIMER_EXPIRY (01 R11). -/
def execOfferTimerExpiry (b : Nat) (s : State) : Host.Outcome State Fault Refusal := unitEvent (State.offerExpiry b) s

/-- NO_SHOW_EXPIRY (01 R12). -/
def execNoShowExpiry (b : Nat) (s : State) : Host.Outcome State Fault Refusal := unitEvent (State.noShowTest b) s

/-- TIDE (01 R13). -/
def execTide (f : Form TideFields) (s : State) : Host.Outcome State Fault Refusal :=
  localCommand 0x03 .tide f tideAct s

/-- TIDE_STALE_EXPIRY (01 R14). -/
def execTideStaleExpiry (s : State) : Host.Outcome State Fault Refusal := unitEvent State.tideExpiry s

end Sys2Proof.Machine
end

