-- ==== Sys2Proof/Machine/Fuel.lean ====
section
/-! DEFINITION. The fuel unit (chapter 6) and the FUEL requests of the charge engine (02 R41 to R44): sales from their
start to settlement or cancellation, the pump FIFO, tanks and the sale list. -/

namespace Sys2Proof.Machine

open Sys2Proof

/-! ## Records -/

/-- The sale count (06 R106). -/
def State.saleCount (s : State) : Nat := s.fuel.sales.length + s.salesInProgress

/-- The tank of a grade. -/
def State.tankOf (s : State) (grade : Nat) : Tank := if grade = 0 then s.fuel.tank0 else s.fuel.tank1

/-- Store the tank of a grade. -/
def State.setTank (grade : Nat) (t : Tank) (s : State) : State :=
  { s with fuel := if grade = 0 then { s.fuel with tank0 := t } else { s.fuel with tank1 := t } }

/-- Whether a dispenser has a hose of a grade. -/
def Dispenser.hose (d : Dispenser) (grade : Nat) : Bool :=
  match grade with
  | 0 => d.hose0
  | 1 => d.hose1
  | _ => false

/-- A dispenser record as DEVICE LOAD makes it (06 R104). -/
def Dispenser.fresh (address : Nat) (hose0 hose1 : Bool) : Dispenser where
  address := address
  hose0 := hose0
  hose1 := hose1
  state := .idle
  card := none
  sale := none
  nozzle := .unknown
  volume := 0
  total0 := none
  total1 := none
  nozzleEnd := none
  stopRequested := false
  stopAcked := false

/-- A dispenser back in IDLE, without sale, card or timer. -/
def Dispenser.idled (d : Dispenser) : Dispenser :=
  { d with state := .idle, card := none, sale := none, nozzleEnd := none, stopRequested := false, stopAcked := false }

/-- Whether the level of a grade's tank is not greater than its low cutoff (06 R107, R109). -/
def State.tankLow (s : State) (grade : Nat) : Bool := decide ((s.tankOf grade).level ≤ (s.tankOf grade).cutoff)

/-- The fuel price of a grade in a tariff row. -/
def TariffRow.fuel (r : TariffRow) (grade : Nat) : Nat := if grade = 0 then r.fuel0 else r.fuel1

/-- The price latched at entry to HOLDING: the account's row, or row 0 for cash (02 R42). -/
def State.fuelPrice (s : State) (acct : Option Nat) (grade : Nat) : Nat :=
  (s.tariffRow (((acct.bind s.account).map (·.cls)).getD 0)).fuel grade

/-- The volume limit of a preset at a price (02 R42). -/
def volumeLimit (preset price : Nat) : Nat :=
  if price = 0 then Config.maxVolumeLimit else max 1 (preset * 100 / price)

/-- The amount of a volume at a price, rounded half up (02 R43). -/
def fuelAmount (volume price : Nat) : Nat := (volume * price * 10 + 500) / 1000

/-! ## The pump FIFO (06 R112, R113) -/

/-- Whether a sale state counts toward K. -/
def SaleState.running : SaleState → Bool
  | .authorised | .delivering => true
  | .idle | .cardWait | .holding | .waitPump | .settling | .cancelling => false

/-- The number running. -/
def State.running (s : State) : Nat := (s.fuel.dispensers.filter fun p => p.2.state.running).length

/-- A sale granted a pump enters AUTHORISED: an AUTHORISE is written and the delivery volume is 0. -/
def State.authorise (i : Nat) (s : State) : State :=
  match s.fuel.dispensers.get i with
  | none => s
  | some d =>
    match d.sale with
    | none => s
    | some x =>
      (s.setDispenser i { d with
        state := .authorised, volume := 0, nozzleEnd := none, stopRequested := false, stopAcked := false }).writeOneShot
        d.address (.authorise x.grade x.limit x.price)

/-- Take a number of heads of the FIFO into AUTHORISED, while the number running is less than K. -/
def State.grantHeads : Nat → State → State
  | 0, s => s
  | n + 1, s =>
    match s.fuel.fifo with
    | [] => s
    | i :: rest =>
      if s.running < s.mgmt.config.pumpConcurrency then
        grantHeads n ({ s with fuel := { s.fuel with fifo := rest } }.authorise i)
      else s

/-- A grant attempt. -/
def State.grantPumps (s : State) : State := s.grantHeads s.fuel.fifo.length

/-- A sale enters WAIT_PUMP: it joins the FIFO, and a grant attempt follows. -/
def State.enterWaitPump (i : Nat) (s : State) : State :=
  let s := s.modDispenser i fun d => { d with state := .waitPump }
  { s with fuel := { s.fuel with fifo := s.fuel.fifo ++ [i] } }.grantPumps

/-! ## Requests (02 R44) -/

/-- A request of the FUEL requester, or a step handed to OFFICE by RESTART (02 R47). -/
def State.request (toOffice : Bool) (r : FuelRequest) (s : State) : State :=
  { s with charge :=
    if toOffice then { s.charge with office := s.charge.office ++ [.restartStep r] }
    else { s.charge with fuel := s.charge.fuel ++ [r] } }

/-- Whether a request is the pending HOLD of a dispenser. -/
def FuelRequest.isHoldOf (i : Nat) (r : FuelRequest) : Bool :=
  match r.ask with
  | .hold _ => decide (r.dispenser = i)
  | .release _ | .settle _ _ => false

/-- Withdraw the pending HOLD of a dispenser (02 R44). -/
def State.withdrawHold (i : Nat) (s : State) : State :=
  { s with charge := { s.charge with fuel := s.charge.fuel.filter fun r => !r.isHoldOf i } }

/-- The reply of an office sale that waits on its HOLD is built, where one waits for this dispenser (06 R109). -/
def State.answerHold (i : Nat) (a : Answer) (s : State) : State :=
  match s.mgmt.work with
  | .hold fr d => if d = i then s.answer fr a else s
  | .idle | .office _ | .reply _ => s

/-! ## Start, cancellation and completion -/

/-- A sale enters HOLDING (06 R110): a record is made, the price is latched, and a HOLD is handed to FUEL; a cash sale
goes on at once to WAIT_PUMP. -/
def State.startSale (i : Nat) (d : Dispenser) (acct : Option Nat) (token : Option Token) (grade preset : Nat)
    (s : State) : State :=
  let price := s.fuelPrice acct grade
  let x : Sale := ⟨none, i, grade, acct, token, price, preset, 0, volumeLimit preset price, 0, none, acct.isNone, false,
    false, s.clockValue, none⟩
  let s := (s.setDispenser i { d with state := .holding, card := none, sale := some x }).mark .sale 0
  match acct with
  | some n => s.request false ⟨i, n, .hold preset⟩
  | none => s.enterWaitPump i

/-- A sale is cancelled (06 R117): its HOLD is withdrawn or its hold released, it leaves the FIFO, and a grant attempt
follows. -/
def State.cancelSale (toOffice : Bool) (i : Nat) (s : State) : State :=
  match s.fuel.dispensers.get i with
  | none => s
  | some d =>
    match d.sale with
    | none => s
    | some x =>
      let s := (s.withdrawHold i).answerHold i (.refused .wrongState)
      let s := { s with fuel := { s.fuel with fifo := s.fuel.fifo.filter fun j => decide (j ≠ i) } }
      let s := match x.account, decide (x.hold = 0) with
        | some n, false =>
          (s.setDispenser i { d.idled with state := .cancelling, sale := some x }).request toOffice
            ⟨i, n, .release x.hold⟩
        | _, _ => s.setDispenser i d.idled
      (s.mark .sale 0).grantPumps

/-- A sale completes (06 R120): it is numbered and its record joins the sale list. -/
def State.completeSale (i : Nat) (s : State) : State :=
  match s.fuel.dispensers.get i with
  | none => s
  | some d =>
    match d.sale with
    | none => s
    | some x =>
      let n := s.fuel.counter + 1
      let s := s.setDispenser i d.idled
      let s := { s with fuel := { s.fuel with
        sales := s.fuel.sales ++ [{ x with number := some n, hold := 0 }], counter := n, newest := some n } }
      (s.modLive fun t => { t with salesCompleted := (t.salesCompleted + 1) % 4294967296 }).mark .sale 0

/-- A tank lowered by a volume; where the volume exceeds the level, SHORTFALL is set (06 R120). -/
def Tank.lower (v : Nat) (t : Tank) : Tank :=
  if t.level < v then { t with level := 0, shortfall := true } else { t with level := t.level - v }

/-- The tallies of a sale entering SETTLING (11 R183). -/
def Tallies.sold (i grade volume amount : Nat) (cash : Bool) (t : Tallies) : Tallies :=
  let t := { t with fuelSold := addLifetime (2 * i + grade) volume t.fuelSold }
  if !cash then t
  else if grade = 0 then
    { t with cashVolume0 := addPeriod t.cashVolume0 volume, cashAmount0 := addPeriod t.cashAmount0 amount }
  else { t with cashVolume1 := addPeriod t.cashVolume1 volume, cashAmount1 := addPeriod t.cashAmount1 amount }

/-- A sale enters SETTLING on a volume (06 R120): the amount is computed, the tank is lowered, the tallies are passed,
and a SETTLE is requested; a cash sale completes. A grant attempt follows, as the pump is freed. -/
def State.enterSettling (toOffice : Bool) (i volume : Nat) (incomplete : Bool) (s : State) : State :=
  match s.fuel.dispensers.get i with
  | none => s
  | some d =>
    match d.sale with
    | none => s
    | some x =>
      let full := fuelAmount volume x.price
      let capped := x.account.isSome && decide (x.hold < full)
      let amount := if capped then x.hold else full
      let x := { x with
        volume := volume, amount := some amount, overrun := x.overrun || capped, incomplete := x.incomplete || incomplete,
        endTime := s.clockValue }
      let s := s.setDispenser i { d.idled with state := .settling, sale := some x }
      let tank := (s.tankOf x.grade).lower volume
      let s := if tank = s.tankOf x.grade then s else (s.setTank x.grade tank).markStatus
      let s := s.modLive (Tallies.sold i x.grade volume amount x.account.isNone)
      (match x.account with
        | some n => s.request toOffice ⟨i, n, .settle x.hold amount⟩
        | none => s.completeSale i).grantPumps

/-- End a delivery on a volume (06 R115): with no fuel drawn the sale is cancelled. -/
def State.endDelivery (i volume : Nat) (s : State) : State :=
  if volume = 0 then s.cancelSale false i else s.enterSettling false i volume false

/-! ## Replies, losses and failures of a dispenser (06 R104, R114, R115, R118, R119) -/

/-- The volume of a sale in DELIVERING is the volume reported (06 R114). -/
def Dispenser.deliver (v : Nat) (d : Dispenser) : Dispenser :=
  { d with state := .delivering, nozzleEnd := none, sale := d.sale.map fun x => { x with volume := v } }

/-- The sale's volume limit. -/
def Dispenser.limit (d : Dispenser) : Nat := (d.sale.map (·.limit)).getD 0

/-- Whether a reply ends a delivery (06 R115). -/
def Dispenser.ends (d : Dispenser) (hung : Bool) (v : Nat) : Bool := hung || decide (d.limit ≤ v) || d.stopAcked

/-- What a reply that is not the re-basing one does to a sale: `was` is the nozzle before it. -/
def State.saleReply (i : Nat) (was : Nozzle) (lifted : Bool) (v : Nat) (s : State) : State :=
  match s.fuel.dispensers.get i with
  | none => s
  | some d =>
    let lift := lifted && decide (was ≠ .lifted)
    let hang := !lifted && decide (was = .lifted)
    match d.state with
    | .authorised =>
      if d.stopAcked then s.endDelivery i v
      else if lift || decide (0 < v) then
        let s := s.setDispenser i (d.deliver v)
        if d.ends (!lifted) v then s.endDelivery i v else s
      else s
    | .delivering =>
      let s := s.setDispenser i (d.deliver v)
      if d.ends hang v then s.endDelivery i v else s
    | .idle | .cardWait | .holding | .waitPump | .settling | .cancelling => s

/-- A reply of a dispenser (06 R104): nozzle and delivery volume are stored; but for the re-basing reply, the sale
acts on them. -/
def State.dispenserReply (i : Nat) (lifted : Bool) (v : Nat) (fresh : Bool) (s : State) : State :=
  match s.fuel.dispensers.get i with
  | none => s
  | some d =>
    let s := s.setDispenser i { d with nozzle := if lifted then .lifted else .hung, volume := v }
    if fresh then s else s.saleReply i d.nozzle lifted v

/-- A totaliser of a dispenser: the copy takes the reply's value, and the advance is tallied (06 R104). -/
def State.totaliserReply (i grade value : Nat) (delta : Option Nat) (s : State) : State :=
  let s := s.modDispenser i fun d => if grade = 0 then { d with total0 := some value } else { d with total1 := some value }
  match delta with
  | some q =>
    if s.fuel.dispensers.has i then
      s.modLive fun t => { t with totaliser := addLifetime (2 * i + grade) q t.totaliser }
    else s
  | none => s

/-- The sale of a dispenser whose device enters LOST (06 R118); its CARD_WAIT is ended by the gate unit's part. -/
def State.saleLost (i : Nat) (s : State) : State :=
  match s.fuel.dispensers.get i with
  | none => s
  | some d =>
    match d.state with
    | .cardWait => s.setDispenser i d.idled
    | .holding | .waitPump => s.cancelSale false i
    | .authorised | .delivering => s.enterSettling false i ((d.sale.map (·.volume)).getD 0) true
    | .idle | .settling | .cancelling => s

/-- COMMAND_FAILED for a dispenser's one-shot acts on its sale state (06 R119). -/
def State.saleCommandFailed (i : Nat) (s : State) : State :=
  match s.fuel.dispensers.get i with
  | none => s
  | some d =>
    match d.state with
    | .authorised => s.cancelSale false i
    | .delivering => s.enterSettling false i ((d.sale.map (·.volume)).getD 0) true
    | .idle | .cardWait | .holding | .waitPump | .settling | .cancelling => s

/-- The acknowledgement of a dispenser's one-shot: AUTHORISE starts the nozzle timer, a STOP of STOP SALE is watched for
(06 R113, R115; 08 R154). -/
def State.saleCommandAcked (i : Nat) (c : OneShot) (s : State) : State :=
  match s.fuel.dispensers.get i with
  | none => s
  | some d =>
    match c with
    | .authorise _ _ _ =>
      if d.state = .authorised then
        s.setDispenser i { d with nozzleEnd := some (s.now + s.mgmt.config.nozzleTimeout * 1000) }
      else s
    | .stop => if d.stopRequested then s.setDispenser i { d with stopAcked := true } else s
    | .unlock _ | .refuse _ => s

/-! ## Serving FUEL requests (02 R41, R43) -/

/-- The grade of the sale of a dispenser. -/
def State.saleGrade (s : State) (i : Nat) : Nat :=
  (((s.fuel.dispensers.get i).bind (·.sale)).map (·.grade)).getD 0

/-- Change the sale of a dispenser, where it has one. -/
def State.modSale (i : Nat) (f : Sale → Sale) (s : State) : State :=
  s.modDispenser i fun d => { d with sale := d.sale.map f }

/-- Change an account record for the FUEL requester: the notice is marked and the standing derived. -/
def State.changeHeld (n : Nat) (f : Account → Account) (s : State) : State :=
  match s.account n with
  | none => s
  | some a => (s.mark .account n).restand n (f a)

/-- Whether a HOLD passes: balance + L − held ≥ h (02 R41). -/
def Account.covers (h : Nat) (a : Account) : Bool := decide ((h : Int) ≤ a.balance + a.overdraft - a.held)

/-- The answer of a granted HOLD (06 R111). -/
def State.holdGranted (i h : Nat) (s : State) : State :=
  let s := (s.modSale i fun x => { x with hold := h }).enterWaitPump i
  match s.fuel.dispensers.get i with
  | none => s
  | some d =>
    let x := d.sale
    s.answerHold i (.accepted [] (.saleStarted i d.state ((x.map (·.price)).getD 0) ((x.map (·.limit)).getD 0)))

/-- The answer of a HOLD that failed (06 R111). -/
def State.holdFailed (i : Nat) (s : State) : State :=
  match s.fuel.dispensers.get i with
  | none => s
  | some d =>
    let s := (s.answerHold i (.refused .insufficientCredit)).cancelSale false i
    if (d.sale.bind (·.token)).isSome then s.writeOneShot d.address (.refuse 5) else s

/-- Serve a HOLD. -/
def State.serveHold (r : FuelRequest) (h : Nat) (s : State) : State :=
  match s.account r.account with
  | none => s.holdFailed r.dispenser
  | some a =>
    if a.covers h then
      (s.changeHeld r.account fun a => { a with held := a.held + h }).holdGranted r.dispenser h
    else s.holdFailed r.dispenser

/-- Serve a RELEASE: the held amount falls, and the cancelled sale's record is discarded. -/
def State.serveRelease (r : FuelRequest) (h : Nat) (s : State) : State :=
  ((s.changeHeld r.account fun a => { a with held := a.held - h }).modDispenser r.dispenser Dispenser.idled).mark .sale 0

/-- A record settled for a fuel sale. -/
def Account.settle (n h a : Nat) (x : Account) : Account :=
  let b := saturate x.balance (-(a : Int))
  { x with held := x.held - h, balance := b.1, saturated := x.saturated || b.2, fuel := addTotal n x.fuel a }

/-- A settlement in the charged tally of its grade. -/
def Tallies.chargeFuel (grade a : Nat) (t : Tallies) : Tallies :=
  if grade = 0 then { t with chargedFuel0 := addPeriod t.chargedFuel0 a }
  else { t with chargedFuel1 := addPeriod t.chargedFuel1 a }

/-- Serve a SETTLE: the hold is released, the amount is debited, and the sale completes. -/
def State.serveSettle (r : FuelRequest) (h a : Nat) (s : State) : State :=
  let s := (s.changeHeld r.account (Account.settle r.account h a)).modLive
    (Tallies.chargeFuel (s.saleGrade r.dispenser) a)
  s.completeSale r.dispenser

/-- Serve a request. -/
def State.serveFuel (r : FuelRequest) (s : State) : State :=
  match r.ask with
  | .hold h => s.serveHold r h
  | .release h => s.serveRelease r h
  | .settle h a => s.serveSettle r h a

/-- A request is a HOLD. -/
def FuelAsk.isHold : FuelAsk → Bool
  | .hold _ => true
  | .release _ | .settle _ _ => false

/-- A request is a RELEASE. -/
def FuelAsk.isRelease : FuelAsk → Bool
  | .release _ => true
  | .hold _ | .settle _ _ => false

/-- A request is a SETTLE. -/
def FuelAsk.isSettle : FuelAsk → Bool
  | .settle _ _ => true
  | .hold _ | .release _ => false

/-- The arbiter grants FUEL and serves the oldest request, where it is of the kind the step serves. -/
def State.grantFuel (kind : FuelAsk → Bool) (s : State) : State :=
  if s.charge.nextGrant = some .fuel then
    match s.charge.fuel with
    | [] => s
    | r :: rest =>
      if kind r.ask then
        let s := s.grant .fuel
        { s with charge := { s.charge with fuel := rest } }.serveFuel r
      else s
  else s

/-! ## Frames -/

/-- The range of a preset. -/
def presetOk (x : Nat) : Bool := decide (100 ≤ x ∧ x ≤ 9999999)

/-- Whether a device is ONLINE or MISSING. -/
def State.deviceServes (s : State) (address : Nat) : Bool :=
  ((s.bus.devices.get address).map fun d => d.state.reachable).getD false

/-- Whether an account is STOPPED or SUSPENDED. -/
def State.barred (s : State) (n : Option Nat) : Bool :=
  ((n.bind s.account).map fun a => !a.standing.serves).getD false

/-- AUTHORISE SALE (06 R109). -/
def authoriseSaleAct (fr : IntakeFrame) (f : AuthoriseSale) (s : State) : State :=
  if !(smallIndexOk f.dispenser && decide (f.grade ≤ 1) && optOk presetOk f.preset && optOk accountOk f.account) then
    s.refuse fr .outOfRange
  else
    match s.fuel.dispensers.get f.dispenser with
    | none => s.refuse fr .notFound
    | some d =>
      if f.account.isSome && (f.account.bind s.account).isNone then s.refuse fr .notFound
      else if d.state ≠ .idle then s.refuse fr .busy
      else if !d.hose f.grade then s.refuse fr .outOfRange
      else if !s.deviceServes d.address then s.refuse fr .wrongState
      else if Config.saleCapacity ≤ s.saleCount then s.refuse fr .busy
      else if s.tankLow f.grade then s.refuse fr .wrongState
      else if s.barred f.account then s.refuse fr .notPermitted
      else
        let s := (s.setWork (.hold fr f.dispenser)).startSale f.dispenser d f.account none f.grade
          (f.preset.getD s.mgmt.config.defaultPreset)
        match f.account, s.fuel.dispensers.get f.dispenser with
        | none, some d =>
          s.answerHold f.dispenser (.accepted [] (.saleStarted f.dispenser d.state ((d.sale.map (·.price)).getD 0) d.limit))
        | _, _ => s

/-- STOP SALE (06 R116). -/
def stopSaleAct (fr : IntakeFrame) (i : Nat) (s : State) : State :=
  if !smallIndexOk i then s.refuse fr .outOfRange
  else
    match s.fuel.dispensers.get i with
    | none => s.refuse fr .notFound
    | some d =>
      match d.state with
      | .holding | .waitPump => (s.cancelSale false i).accept fr [] .saleCancelled
      | .authorised | .delivering =>
        let s := if d.stopRequested then s
          else (s.setDispenser i { d with stopRequested := true, stopAcked := false }).writeOneShot d.address .stop
        s.accept fr [] .stopRequested
      | .idle | .cardWait | .settling | .cancelling => s.refuse fr .wrongState

/-- TAKE SALE (06 R122). -/
def takeSaleAct (fr : IntakeFrame) (_ : Unit) (s : State) : State :=
  match s.fuel.sales with
  | [] => s.accept fr [] (.sale none)
  | x :: rest => ({ s with fuel := { s.fuel with sales := rest } }.mark .sale 0).accept fr [] (.sale (some x))

/-- TANK SET and TANK ADD once their level is known (06 R105). -/
def State.storeTank (fr : IntakeFrame) (f : TankFields) (level : Nat) (s : State) : State :=
  if decide (f.tank ≤ 1 ∧ f.amount ≤ Config.max32 ∧ level ≤ Config.max32) &&
      optOk (fun c => decide (c ≤ Config.max32)) f.cutoff then
    let t : Tank := ⟨level, f.cutoff.getD (s.tankOf f.tank).cutoff, false⟩
    (s.setTank f.tank t).markStatus.accept fr [] (.tank f.tank t)
  else s.refuse fr .outOfRange

/-- TANK SET. -/
def tankSetAct (fr : IntakeFrame) (f : TankFields) (s : State) : State := s.storeTank fr f f.amount

/-- TANK ADD. -/
def tankAddAct (fr : IntakeFrame) (f : TankFields) (s : State) : State :=
  s.storeTank fr f ((s.tankOf f.tank).level + f.amount)

/-- The nozzle timer of a sale in AUTHORISED runs out: the sale is cancelled and a STOP is written (06 R113). -/
def State.nozzleExpiry (i : Nat) (s : State) : State :=
  match s.fuel.dispensers.get i with
  | none => s
  | some d =>
    match d.state, d.nozzleEnd with
    | .authorised, some t => ((s.advanceTo t).cancelSale false i).writeOneShot d.address .stop
    | _, _ => s

/-! ## The commands -/

/-- HOLD_SERVED (02 R41). -/
def execHoldServed (s : State) : Host.Outcome State Fault Refusal :=
  unitEvent (State.grantFuel FuelAsk.isHold) s

/-- RELEASE_SERVED (02 R41). -/
def execReleaseServed (s : State) : Host.Outcome State Fault Refusal :=
  unitEvent (State.grantFuel FuelAsk.isRelease) s

/-- SETTLE_SERVED (02 R43). -/
def execSettleServed (s : State) : Host.Outcome State Fault Refusal :=
  unitEvent (State.grantFuel FuelAsk.isSettle) s

/-- AUTHORISE_SALE (06 R109). -/
def execAuthoriseSale (f : Form AuthoriseSale) (s : State) : Host.Outcome State Fault Refusal :=
  localCommand 0x48 .authoriseSale f authoriseSaleAct s

/-- STOP_SALE (06 R116). -/
def execStopSale (f : Form Nat) (s : State) : Host.Outcome State Fault Refusal :=
  localCommand 0x49 .stopSale f stopSaleAct s

/-- TAKE_SALE (06 R122). -/
def execTakeSale (f : Form Unit) (s : State) : Host.Outcome State Fault Refusal :=
  localCommand 0x4A (fun _ => .takeSale) f takeSaleAct s

/-- TANK_SET (06 R105). -/
def execTankSet (f : Form TankFields) (s : State) : Host.Outcome State Fault Refusal :=
  localCommand 0x4B .tankSet f tankSetAct s

/-- TANK_ADD (06 R105). -/
def execTankAdd (f : Form TankFields) (s : State) : Host.Outcome State Fault Refusal :=
  localCommand 0x4C .tankAdd f tankAddAct s

/-- NOZZLE_TIMEOUT (06 R113). -/
def execNozzleTimeout (i : Nat) (s : State) : Host.Outcome State Fault Refusal := unitEvent (State.nozzleExpiry i) s

end Sys2Proof.Machine
end

