-- ==== Sys2Proof/Machine/Gate.lean ====
section
/-! DEFINITION. The gate unit (chapter 7): the credential cache, decisions at gates and dispensers, pending queries, and
what gate readers report; with it the card reads of dispensers (06 R107, R108), which the gate unit decides. -/

namespace Sys2Proof.Machine

open Sys2Proof

/-! ## The cache (07 R127) -/

/-- The index of a token. -/
def tokenIndex (t : Token) : Nat := t.toNat % 256

/-- The tag of a token. -/
def tokenTag (t : Token) : Nat := t.toNat / 256

/-- Whether a token lies within the cacheable range. -/
def State.cacheable (s : State) (t : Nat) : Bool :=
  decide (s.mgmt.config.cacheLow ≤ t ∧ t ≤ s.mgmt.config.cacheHigh)

/-- The valid entry that holds a token. -/
def State.holder (s : State) (t : Token) : Option CacheEntry :=
  (s.gate.cache.get (tokenIndex t)).filter fun e => decide (e.tag = tokenTag t)

/-- The entry a token hits. -/
def State.hit (s : State) (t : Token) : Option CacheEntry := if s.cacheable t.toNat then s.holder t else none

/-- Store the cache. -/
def State.setCache (c : Table CacheEntry) (s : State) : State := { s with gate := { s.gate with cache := c } }

/-- The entries outside the cacheable range are made not valid (07 R127). -/
def State.trimCache (s : State) : State :=
  s.setCache (s.gate.cache.filter fun p => s.cacheable (p.2.tag * 256 + p.1))

/-! ## The decision order (07 Table 7.3, R130) -/

/-- The kinds of requester of Table 7.3. -/
inductive Asker where
  | entry | exit | dispenser
  deriving DecidableEq, Repr

/-- The kind of requester a reader is. -/
def askerOf : GateSide → Asker
  | .entry => .entry
  | .exit => .exit

/-- The berth link of an account (07 R130). -/
def State.linked (s : State) (acct : Option Nat) : Bool :=
  s.berth.berths.any fun p =>
    (decide (p.2.state = .occupied) || decide (p.2.state = .held)) && acct.isSome && decide (p.2.account = acct)

/-- The account test: the refusal, or none. -/
def State.accountTest (s : State) (q : Asker) (acct : Option Nat) : Option Decision :=
  match acct with
  | none => none
  | some n =>
    match s.account n with
    | none => some .unknownAccount
    | some a =>
      match a.standing with
      | .suspended => some .suspended
      | .stopped => if q = .dispenser then some .stopped else none
      | .good | .low => none

/-- The decision of a credential for a requester, and whether a grant is flagged PASSBACK. -/
def State.judge (s : State) (q : Asker) (e : CacheEntry) : Decision × Bool :=
  let expired := s.mgmt.timeValid && (e.validUntil.map fun v => decide (v < s.mgmt.clock)).getD false
  if expired then (.expired, false)
  else if decide (q = .dispenser) && (!e.fuelPermitted || e.account.isNone) then (.notPermitted, false)
  else
    match s.accountTest q e.account with
    | some d => (d, false)
    | none =>
      if decide (q ≠ .exit ∧ e.kind = .visitor) && !s.linked e.account then (.noBerth, false)
      else if q = .entry ∧ e.presence = .inside then
        match s.mgmt.config.passback with
        | .off => (.granted, false)
        | .log => (.granted, true)
        | .enforce => (.passback, false)
      else (.granted, false)

/-! ## Decisions at a gate reader (07 R131) -/

/-- The presence a grant sets. -/
def presenceOf : GateSide → Presence
  | .entry => .inside
  | .exit => .outside

/-- A decision at a gate reader: it is journaled and becomes the reader's last decision; a grant writes UNLOCK and sets
the release window. The presence and the unlock record are set by `gatePresence`. -/
def State.gateDecision (i : Nat) (t : Token) (d : Decision) (passback queried notStored judged : Bool) (s : State) :
    State :=
  match s.gate.readers.get i with
  | none => s
  | some r =>
    let s := s.journalAdd (.gate i) (some t) d passback queried notStored judged
    let r := { r with last := some (t, d) }
    match d with
    | .granted =>
      (s.setReader i { r with windowEnd := some (s.now + s.mgmt.config.unlockTime * 1000) }).writeOneShot r.address
        (.unlock s.mgmt.config.unlockTime)
    | _ => s.setReader i r

/-- The presence a grant sets where the cache holds the token, and the reader's unlock record. -/
def State.gatePresence (i : Nat) (t : Token) (s : State) : State :=
  match s.gate.readers.get i with
  | none => s
  | some r =>
    let p := presenceOf r.side
    let s' := match s.holder t with
      | some e => s.setCache (s.gate.cache.set (tokenIndex t) { e with presence := p })
      | none => s
    s'.setReader i { r with unlock := some ⟨t, (s.holder t).map (·.presence), p⟩ }

/-! ## The pending query list (07 R134) -/

/-- The pending query of a requester. -/
def State.queryOf (s : State) (r : Requester) : Option Query := s.gate.queries.find? fun q => decide (q.requester = r)

/-- Remove the pending query of a requester, if it has one; its report source ceases (07 R138). -/
def State.dropQuery (r : Requester) (s : State) : State :=
  match s.queryOf r with
  | none => s
  | some _ =>
    { s with gate := { s.gate with queries := s.gate.queries.filter fun q => decide (q.requester ≠ r) } }.removeSource
      .query (queryIdent r)

/-- Make a pending query, with its report source marked. -/
def State.makeQuery (r : Requester) (t : Token) (s : State) : State :=
  let q : Query := ⟨t, r, s.now, s.now + s.mgmt.config.queryTimeout⟩
  ({ s with gate := { s.gate with queries := s.gate.queries ++ [q] } }.createSource .query (queryIdent r)).mark .query
    (queryIdent r)

/-- The tests a miss meets before an entry is made: the refusal, or none. -/
def State.missRefusal (s : State) : Option Decision :=
  if Config.queryCapacity ≤ s.gate.queries.length then some .queryBusy
  else if s.trunk.lost then some .officeTimeout
  else none

/-! ## Decisions for a dispenser (06 R107, R108) -/

/-- The display code of a refused credential decision (06 Table 6.5). -/
def displayCode : Decision → Nat
  | .expired => 6
  | .unknownAccount => 7
  | .suspended => 8
  | .stopped => 9
  | .noBerth => 10
  | .notPermitted => 11
  | .unknownToken => 12
  | .officeTimeout => 13
  | .queryBusy => 14
  | .granted | .passback | .busy | .exitButton | .doorForced | .commandFailed => 1

/-- The checks of a start at a dispenser: the display code of the first that fails (06 R107). -/
def State.startCode (s : State) (d : Dispenser) (grade : Nat) : Option Nat :=
  if !d.hose grade then some 2
  else if Config.saleCapacity ≤ s.saleCount then some 3
  else if s.tankLow grade then some 4
  else none

/-- A refusal is written, and a dispenser in CARD_WAIT returns to IDLE. -/
def State.refuseCard (i : Nat) (code : Nat) (s : State) : State :=
  match s.fuel.dispensers.get i with
  | none => s
  | some d => (s.setDispenser i d.idled).writeOneShot d.address (.refuse code)

/-- A credential decision reaches a dispenser in IDLE or CARD_WAIT (06 R108). -/
def State.dispenserDecision (i : Nat) (t : Token) (grade preset : Nat) (d : Decision) (acct : Option Nat) (s : State) :
    State :=
  match s.fuel.dispensers.get i with
  | none => s
  | some x =>
    match d, acct with
    | .granted, some n =>
      match s.startCode x grade with
      | some c => s.refuseCard i c
      | none => s.startSale i x (some n) (some t) grade preset
    | d, _ => s.refuseCard i (displayCode d)

/-- The preset of a card read: the keypad's or the default, brought to the maximum and to 100 cu (06 R107). -/
def State.cardPreset (s : State) (keypad : Nat) : Nat :=
  max 100 (min (if keypad = 0 then s.mgmt.config.defaultPreset else keypad) s.mgmt.config.maximumPreset)

/-- A card read at a dispenser in IDLE that passed its checks is decided from the cache, or queried (06 R107). -/
def State.decideCard (i : Nat) (d : Dispenser) (t : Token) (grade preset : Nat) (s : State) : State :=
  match s.hit t with
  | some e =>
    let j := s.judge .dispenser e
    (s.journalAdd (.dispenser i) (some t) j.1 j.2 false false true).dispenserDecision i t grade preset j.1 e.account
  | none =>
    match s.missRefusal with
    | some c =>
      (s.journalAdd (.dispenser i) (some t) c false false false false).dispenserDecision i t grade preset c none
    | none => (s.setDispenser i { d with state := .cardWait, card := some ⟨t, grade, preset⟩ }).makeQuery (.dispenser i) t

/-- A card read at a dispenser (06 R107). -/
def State.dispenserCard (i : Nat) (t : Token) (grade keypad : Nat) (s : State) : State :=
  match s.fuel.dispensers.get i with
  | none => s
  | some d =>
    match d.state with
    | .holding | .waitPump | .authorised | .delivering | .settling | .cancelling => s.writeOneShot d.address (.refuse 1)
    | .cardWait => s.journalAdd (.dispenser i) (some t) .busy false false false false
    | .idle =>
      match s.startCode d grade with
      | some c => s.writeOneShot d.address (.refuse c)
      | none => s.decideCard i d t grade (s.cardPreset keypad)

/-! ## Events of a gate reader (07 R132, R133) -/

/-- A card read at a gate reader: decided from the cache, or handled as a miss. -/
def State.gateCard (i : Nat) (t : Token) (s : State) : State :=
  match s.gate.readers.get i with
  | none => s
  | some r =>
    match s.hit t with
    | some e =>
      let j := s.judge (askerOf r.side) e
      let s := s.gateDecision i t j.1 j.2 false false true
      if j.1 = .granted then s.gatePresence i t else s
    | none =>
      if (s.queryOf (.gate i)).isSome then s.journalAdd (.gate i) (some t) .busy false false false false
      else
        match s.missRefusal with
        | some d => s.gateDecision i t d false false false false
        | none => s.makeQuery (.gate i) t

/-- An exit button press (07 R132). -/
def State.exitButton (i : Nat) (s : State) : State :=
  (s.journalAdd (.gate i) none .exitButton false false false false).modReader i fun r =>
    { r with windowEnd := some (s.now + s.mgmt.config.unlockTime * 1000) }

/-- A door event (07 R133): an opening outside the release window is journaled. -/
def State.doorEvent (i : Nat) (opened : Bool) (s : State) : State :=
  match s.gate.readers.get i with
  | none => s
  | some r =>
    let forced := opened && (r.windowEnd.map fun e => decide (e < s.now)).getD true
    let s := s.setReader i { r with door := if opened then .opened else .closed }
    if forced then s.journalAdd (.gate i) none .doorForced false false false false else s

/-! ## Answers, timeouts and losses (07 R135 to R137, R139) -/

/-- A pending query is decided with a refusal and removed. -/
def State.refuseQuery (q : Query) (d : Decision) (queried : Bool) (s : State) : State :=
  let s := s.dropQuery q.requester
  match q.requester with
  | .gate i => s.gateDecision i q.token d false queried false false
  | .dispenser i =>
    (s.journalAdd (.dispenser i) (some q.token) d false queried false false).dispenserDecision i q.token 0 0 d none

/-- A pending query is decided from the values of a fill and removed (07 R135). -/
def State.answerQuery (q : Query) (e : CacheEntry) (notStored : Bool) (s : State) : State :=
  let s := s.dropQuery q.requester
  match q.requester with
  | .gate i =>
    match s.gate.readers.get i with
    | none => s
    | some r =>
      let j := s.judge (askerOf r.side) e
      s.gateDecision i q.token j.1 j.2 true notStored true
  | .dispenser i =>
    match (s.fuel.dispensers.get i).bind (·.card) with
    | none => s
    | some c =>
      let j := s.judge .dispenser e
      (s.journalAdd (.dispenser i) (some q.token) j.1 j.2 true notStored true).dispenserDecision i q.token c.grade
        c.preset j.1 e.account

/-- The pending queries of a token, oldest first. -/
def State.queriesFor (s : State) (t : Token) : List Query := s.gate.queries.filter fun q => decide (q.token = t)

/-- Every pending query is decided OFFICE_TIMEOUT: the upstream-loss state is entered (07 R137). The spec gives no
order: oldest first (DESIGN CHOICE, log 51). -/
def State.failQueries (s : State) : State := s.gate.queries.foldl (fun t q => t.refuseQuery q .officeTimeout false) s

/-- The query timer of a requester runs out (07 R136). -/
def State.queryExpiry (r : Requester) (s : State) : State :=
  match s.queryOf r with
  | none => s
  | some q => (s.advanceTo q.timerEnd).refuseQuery q .officeTimeout false

/-- COMMAND_FAILED for an UNLOCK (07 R139): it is journaled, and the presence the grant set may be restored. -/
def State.unlockFailed (i : Nat) (s : State) : State :=
  match s.gate.readers.get i with
  | none => s
  | some r =>
    let s := s.journalAdd (.gate i) (r.unlock.map (·.token)) .commandFailed false false false false
    let s := match r.unlock with
      | some u =>
        match u.before, s.holder u.token with
        | some p, some e =>
          if e.presence = u.given then s.setCache (s.gate.cache.set (tokenIndex u.token) { e with presence := p }) else s
        | _, _ => s
      | none => s
    s.setReader i { r with windowEnd := none, unlock := none }

/-- A gate reader's device enters LOST (07 R126, R137). -/
def State.readerLost (i : Nat) (s : State) : State :=
  (s.dropQuery (.gate i)).modReader i fun r => { r with door := .unknown, windowEnd := none }

/-! ## Frames -/

/-- The checks of CREDENTIAL FILL (07 R128). -/
def fillKind (f : CredentialFill) : Option CredKind :=
  match f.kind with
  | .unlisted => none
  | .known k => if optOk accountOk f.account && (decide (k = .staff) || f.account.isSome) then some k else none

/-- Whether a fill is not stored (07 R128): its token is not cacheable, or its entry is pinned for another token. -/
def State.fillNotStored (s : State) (t : Token) : Bool :=
  !s.cacheable t.toNat ||
    ((s.gate.cache.get (tokenIndex t)).map fun e => e.pinned && decide (e.tag ≠ tokenTag t)).getD false

/-- Whether a stored fill displaces another token. -/
def State.fillDisplaces (s : State) (t : Token) : Bool :=
  ((s.gate.cache.get (tokenIndex t)).map fun e => decide (e.tag ≠ tokenTag t)).getD false

/-- The readers whose pending query for a token is granted by a fill. -/
def State.grantedReaders (s : State) (e : CacheEntry) (qs : List Query) : List Nat :=
  qs.filterMap fun q =>
    match q.requester with
    | .gate i =>
      ((s.gate.readers.get i).bind fun r => if (s.judge (askerOf r.side) e).1 = .granted then some i else none)
    | .dispenser _ => none

/-- CREDENTIAL FILL (07 R128, R135): the pending queries of the token are decided, the credential is stored where it
may be, and the grants at gate readers set its presence. -/
def credentialFillAct (fr : IntakeFrame) (f : CredentialFill) (s : State) : State :=
  match fillKind f with
  | none => s.refuse fr .outOfRange
  | some k =>
    let e : CacheEntry := ⟨tokenTag f.token, f.pin, k, f.account, f.validUntil, f.fuelPermitted, .unknown⟩
    let notStored := s.fillNotStored f.token
    let displaced := !notStored && s.fillDisplaces f.token
    let qs := s.queriesFor f.token
    let granted := s.grantedReaders e qs
    let s := qs.foldl (fun t q => t.answerQuery q e notStored) s
    let s := if notStored then s else s.setCache (s.gate.cache.set (tokenIndex f.token) e)
    let s := granted.foldl (fun t i => t.gatePresence i f.token) s
    s.accept fr (flagIf notStored .notStored ++ flagIf displaced .displaced)
      (.credential (tokenIndex f.token) qs.length)

/-- CREDENTIAL UNKNOWN (07 R135). -/
def credentialUnknownAct (fr : IntakeFrame) (t : Token) (s : State) : State :=
  let qs := s.queriesFor t
  (qs.foldl (fun u q => u.refuseQuery q .unknownToken true) s).accept fr [] (.decided qs.length)

/-- The cache entries an INVALIDATE keeps (07 R129). -/
def kept (f : Invalidate) (i : Nat) (e : CacheEntry) : Bool :=
  match f with
  | .token t => !(decide (i = tokenIndex t) && decide (e.tag = tokenTag t))
  | .all unpin => e.pinned && !unpin

/-- INVALIDATE (07 R129). -/
def invalidateAct (fr : IntakeFrame) (f : Invalidate) (s : State) : State :=
  let c := s.gate.cache.filter fun p => kept f p.1 p.2
  (s.setCache c).accept fr [] (.invalidated (s.gate.cache.length - c.length))

/-! ## The commands -/

/-- CREDENTIAL_FILL (07 R128, R135). -/
def execCredentialFill (f : Form CredentialFill) (s : State) : Host.Outcome State Fault Refusal :=
  localCommand 0x42 .credentialFill f credentialFillAct s

/-- CREDENTIAL_UNKNOWN (07 R135). -/
def execCredentialUnknown (f : Form Token) (s : State) : Host.Outcome State Fault Refusal :=
  localCommand 0x43 .credentialUnknown f credentialUnknownAct s

/-- INVALIDATE (07 R129). -/
def execInvalidate (f : Form Invalidate) (s : State) : Host.Outcome State Fault Refusal :=
  localCommand 0x44 .invalidate f invalidateAct s

/-- QUERY_TIMEOUT (07 R136). -/
def execQueryTimeout (r : Requester) (s : State) : Host.Outcome State Fault Refusal := unitEvent (State.queryExpiry r) s

end Sys2Proof.Machine
end

