-- ==== Sys2Proof/Machine/Bus.lean ====
section
/-! DEFINITION. The pedestal bus controller (chapter 8): the poll list, the poll cycle, exchanges and their outcomes,
device states, and the delivery of replies, losses and acknowledgements to the units. -/

namespace Sys2Proof.Machine

open Sys2Proof

/-! ## The poll cycle (08 R150) -/

/-- What the controller may send. -/
inductive BusStep where
  | poll (address : Nat)
  | outputs (address : Nat)
  | oneShot (address : Nat)
  deriving DecidableEq, Repr

/-- The place of a stage in the cycle. -/
def Stage.rank : Stage → Nat
  | .outputs => 0
  | .oneShots => 1
  | .fast => 2
  | .slow => 3
  | .done => 4

/-- The poll class of a device in this cycle: the one a DEVICE LOAD replaced in it, else its own (08 R145). -/
def Cycle.classOf (c : Cycle) (a : Nat) (d : Device) : PollClass := (c.classes.get a).getD d.pollClass

/-- A DEVICE LOAD gives a listed device a poll class: a cycle that has sent a frame goes on with the class it began with
(08 R145, log 48). -/
def Cycle.keepClass (a : Nat) (old : PollClass) (c : Cycle) : Cycle :=
  if c.sent && !c.classes.has a then { c with classes := c.classes.set a old } else c

/-- Go on to a stage, where the cycle has not reached it. -/
def Cycle.enter (st : Stage) (c : Cycle) : Cycle := if c.stage.rank < st.rank then { c with stage := st, position := 0 } else c

/-- The next cycle. -/
def Cycle.roll (c : Cycle) : Cycle :=
  { c with counter := (c.counter + 1) % 8, stage := .outputs, imaged := [], position := 0, fastPolled := [], sent := false,
           classes := [] }

/-- The earlier of two differences: by moment, then by address. -/
def sooner (p q : Nat × Nat) : Bool := if p.2 ≠ q.2 then decide (p.2 < q.2) else decide (p.1 < q.1)

/-- The earliest of a list of addresses with their difference moments. -/
def soonest : List (Nat × Nat) → Option (Nat × Nat)
  | [] => none
  | p :: l =>
    match soonest l with
    | none => some p
    | some q => if sooner q p then some q else some p

/-- The pedestals that await their image, with their difference moments. -/
def State.differing (s : State) (imaged : List Nat) : List (Nat × Nat) :=
  s.bus.devices.filterMap fun p =>
    if decide (p.2.kind = .pedestal) && p.2.state.reachable && !imaged.contains p.1 then
      p.2.differSince.map fun m => (p.1, m)
    else none

/-- The first address after a position whose device satisfies a test. -/
def State.nextDevice (s : State) (after : Nat) (test : Nat → Device → Bool) : Option Nat :=
  (s.bus.devices.find? fun p => decide (after < p.1) && test p.1 p.2).map (·.1)

/-- Whether a device is polled in the fast stage of a cycle. -/
def State.fastPoll (s : State) (c : Cycle) (a : Nat) (d : Device) : Bool :=
  match d.state with
  | .lost => decide (c.counter = 0)
  | .unpolled | .online | .missing =>
    decide (c.classOf a d = .fast) ||
      decide (d.kind = .pedestal) && (d.lastAddressed.map fun t => decide (t + 1000 < s.now)).getD false

/-- Whether a device is polled in the slow stage of a cycle. -/
def slowPoll (c : Cycle) (a : Nat) (d : Device) : Bool :=
  decide (c.classOf a d = .slow ∧ d.state ≠ .lost) && !c.fastPolled.contains a

/-- The output stage, first part: up to 4 pedestals that await their image, each at most once in a cycle (DESIGN
CHOICE, log 55). -/
def State.tryOutputs (s : State) (c : Cycle) : Option (BusStep × Cycle) :=
  if c.stage = .outputs ∧ c.imaged.length < 4 then
    (soonest (s.differing c.imaged)).map fun p => (.outputs p.1, { c with imaged := c.imaged ++ [p.1] })
  else none

/-- The output stage, second part: the one-shots. -/
def State.tryOneShots (s : State) (c : Cycle) : Option (BusStep × Cycle) :=
  if c.stage = .oneShots then
    (s.nextDevice c.position fun _ d => decide (d.state = .online) && d.slot.isSome).map fun a =>
      (.oneShot a, { c with position := a })
  else none

/-- The fast stage. -/
def State.tryFast (s : State) (c : Cycle) : Option (BusStep × Cycle) :=
  if c.stage = .fast then
    (s.nextDevice c.position (s.fastPoll c)).map fun a =>
      (.poll a, { c with position := a, fastPolled := c.fastPolled ++ [a] })
  else none

/-- The slow stage: the next SLOW device after the last one, wrapping. -/
def State.trySlow (s : State) (c : Cycle) : Option (BusStep × Cycle) :=
  if c.stage = .slow then
    ((s.nextDevice c.slowPosition (slowPoll c)).or (s.nextDevice 0 (slowPoll c))).map fun a =>
      (.poll a, { c with slowPosition := a, stage := .done })
  else none

/-- What a cycle sends next, from the stage it has reached. -/
def State.scan (s : State) (c : Cycle) : Option (BusStep × Cycle) :=
  (s.tryOutputs c).or ((s.tryOneShots (c.enter .oneShots)).or
    ((s.tryFast (c.enter .fast)).or (s.trySlow (c.enter .slow))))

/-- What the controller sends next: in the present cycle, or, where that one has sent something and has nothing left, in
the next. None while an exchange is in progress. -/
def State.nextBus (s : State) : Option (BusStep × Cycle) :=
  if s.bus.exchange.isSome then none
  else
    match s.scan s.bus.cycle with
    | some x => some x
    | none => if s.bus.cycle.sent then s.scan s.bus.cycle.roll else none

/-- Send a request: the exchange begins and the device's last addressed moment is set (08 R149). -/
def State.send (a : Nat) (r : Request) (bit : Bool) (c : Cycle) (s : State) : State :=
  let s := s.modDevice a fun d => { d with lastAddressed := some s.now }
  { s with bus := { s.bus with exchange := some ⟨a, r, bit, s.now⟩, cycle := { c with sent := true, empty := 0 } } }

/-- POLL: it carries the resync flag to a gate reader or dispenser in UNPOLLED or LOST (08 R153). -/
def State.sendPoll (a : Nat) (c : Cycle) (s : State) : State :=
  match s.bus.devices.get a with
  | none => s
  | some d => s.send a (.poll (decide (d.kind ≠ .pedestal) && !d.state.reachable)) d.sequence c

/-- SET OUTPUTS: the whole desired image, with the sequence bit toggled for a new image (08 R152). -/
def State.sendOutputs (a : Nat) (c : Cycle) (s : State) : State :=
  match s.bus.devices.get a with
  | none => s
  | some d =>
    let bit := if d.lastTransmitted = some d.desired then d.sequence else !d.sequence
    (s.setDevice a { d with sequence := bit, lastTransmitted := some d.desired }).send a (.setOutputs d.desired) bit c

/-- A one-shot: each transmission adds 1 to its count (08 R154). -/
def State.sendOneShot (a : Nat) (c : Cycle) (s : State) : State :=
  match s.bus.devices.get a with
  | none => s
  | some d =>
    match d.slot with
    | none => s
    | some x =>
      (s.setDevice a { d with sequence := x.bit, slot := some { x with count := x.count + 1 } }).send a
        (.oneShot x.command) x.bit c

/-! ## Device states (08 R147, R148) -/

/-- Change a device; a change of its state or miss count marks the segment status source (09 R171). -/
def State.changeDevice (a : Nat) (d d' : Device) (s : State) : State :=
  let s := s.setDevice a d'
  if d.state = d'.state ∧ d.misses = d'.misses then s else s.markStatus

/-- A device after a miss (08 R147). -/
def Device.missed (limit : Nat) (d : Device) : Device :=
  match d.state with
  | .lost => d
  | .online => { d with misses := 1, state := if limit ≤ 1 then .lost else .missing }
  | .missing => { d with misses := d.misses + 1, state := if limit ≤ d.misses + 1 then .lost else .missing }
  | .unpolled => { d with misses := d.misses + 1, state := if limit ≤ d.misses + 1 then .lost else .unpolled }

/-- A fault record whose disagreement and recovery timers are stopped (04 R76, R84). -/
def FaultRecord.timersStopped (f : FaultRecord) : FaultRecord :=
  { f with disagreeEnd := none, recovery := KindMap.all none }

/-- A pedestal is no longer served: the disagreement and recovery timers of its outlets and taps stop, and they are
evaluated (08 R146, R148; 04 R76, R84). The spec gives no order of the sides: A before B (DESIGN CHOICE, log 51). -/
def State.pedestalGone (a : Nat) (s : State) : State :=
  let outlets := s.outlet.outlets.map fun p =>
    (p.1, if p.2.address = a then { p.2 with fault := p.2.fault.timersStopped } else p.2)
  let taps := s.tap.taps.map fun p =>
    (p.1, if p.2.address = a then { p.2 with fault := p.2.fault.timersStopped } else p.2)
  let s := { s with outlet := { s.outlet with outlets := outlets }, tap := { s.tap with taps := taps } }
  ((s.cutSide ⟨a, .a⟩ .linkLost).cutSide ⟨a, .b⟩ .linkLost).flushAttempts

/-- COMMAND_FAILED reaches the owning unit (08 R154). -/
def State.commandFailed (d : Device) (s : State) : State :=
  match d.kind with
  | .gate => s.unlockFailed d.index
  | .dispenser => s.saleCommandFailed d.index
  | .pedestal => s

/-- Empty a slot that holds a command, with COMMAND_FAILED. -/
def State.failSlot (a : Nat) (s : State) : State :=
  match s.bus.devices.get a with
  | none => s
  | some d => if d.slot.isSome then (s.setDevice a { d with slot := none }).commandFailed d else s

/-- A device enters LOST: the loss is passed to its units, then its slot is emptied with COMMAND_FAILED (08 R148). -/
def State.deviceLost (a : Nat) (d : Device) (s : State) : State :=
  (match d.kind with
    | .pedestal => s.pedestalGone a
    | .gate => s.readerLost d.index
    | .dispenser => (s.dropQuery (.dispenser d.index)).saleLost d.index).failSlot a

/-- The pedestals a round waits for: those in ONLINE or MISSING (03 R60). -/
def State.roundPedestals (s : State) : List Nat :=
  Table.keys (s.bus.devices.filter fun p => decide (p.2.kind = .pedestal) && p.2.state.reachable)

/-- After the poll of a pedestal: the round completes when every pedestal in ONLINE or MISSING has been polled (08
R150). A poll counts at its reply or miss, so one sent before a change of the poll list and answered after it counts in
the round that the change began (DESIGN CHOICE, log 52). -/
def State.polled (a : Nat) (s : State) : State :=
  let done := a :: s.bus.roundPolled
  let wanted := s.roundPedestals
  if !wanted.isEmpty && wanted.all done.contains then
    { s with bus := { s.bus with roundPolled := [] } }.completeRound
  else { s with bus := { s.bus with roundPolled := done } }

/-- Whether a request is a POLL. -/
def Request.isPoll : Request → Bool
  | .poll _ => true
  | .setOutputs _ | .oneShot _ => false

/-- The exchange ends. -/
def State.endExchange (s : State) : State := { s with bus := { s.bus with exchange := none } }

/-- A one-shot whose transmission was not acknowledged fails at its third (08 R154). -/
def State.retryOrFail (a : Nat) (s : State) : State :=
  match (s.bus.devices.get a).bind (·.slot) with
  | some x => if 3 ≤ x.count then s.failSlot a else s
  | none => s

/-- The exchange was a miss (08 R147). -/
def State.miss (x : Exchange) (s : State) : State :=
  let s := s.endExchange
  match s.bus.devices.get x.address with
  | none => s
  | some d =>
    let d' := d.missed s.mgmt.config.missLimit
    let t := s.changeDevice x.address d d'
    let t := if d'.state = .lost ∧ d.state ≠ .lost then t.deviceLost x.address d'
      else
        match x.request with
        | .oneShot _ => t.retryOrFail x.address
        | .poll _ | .setOutputs _ => t
    let t := if x.request.isPoll && decide (d.kind = .pedestal) then t.polled x.address else t
    s.recoveryEdges t

/-! ## Status replies (08 R155 to R157) -/

/-- The advance of a counter whose last value is present. -/
def advance (modulus : Nat) (last : Option Nat) (value : Nat) : Option Nat :=
  last.map fun l => (value + modulus - l) % modulus

/-- A device after a status reply: ONLINE, with the reply as its stored image and its counters. -/
def Device.replied (now : Nat) (fresh : Bool) (st : Status) (d : Device) : Device :=
  let d := { d with state := .online, misses := 0, stored := some st }
  match st with
  | .pedestal a b =>
    { d with
      energyA := some a.energy, energyB := some b.energy, litresA := some a.litres, litresB := some b.litres
      lastSent := if fresh then none else d.lastSent
      differSince := if fresh then d.differSince.or (some now) else d.differSince }
  | .gate _ _ _ _ => d
  | .dispenser _ _ _ _ _ _ t0 t1 => { d with total0 := some t0, total1 := some t1 }

/-- One side of a pedestal reply reaches its outlet and its tap. -/
def State.sideReply (r : SideRef) (x : SideStatus) (fresh plugChanged pressed : Bool) (wh litres : Option Nat)
    (s : State) : State :=
  let s := match s.outletOfSide r with
    | some (i, _) => s.outletReply i x fresh plugChanged wh
    | none => s
  match s.tapOfSide r with
  | some (i, _) => s.tapReply i x fresh pressed litres
  | none => s

/-- Whether a watched field of a stored image differs from the reply's. -/
def Device.sees {α : Type} [DecidableEq α] (d : Device) (w : WatchField) (old : Option α) (new : α) : Bool :=
  d.watch.contains w && (old.map fun x => decide (x ≠ new)).getD false

/-- The side of a stored pedestal image. -/
def storedSide (st : Option Status) (side : Side) : Option SideStatus :=
  match st, side with
  | some (.pedestal a _), .a => some a
  | some (.pedestal _ b), .b => some b
  | _, _ => none

/-- A pedestal's status reply: `d` is the entry before it. -/
def State.pedestalReply (a : Nat) (d : Device) (fresh : Bool) (sa sb : SideStatus) (s : State) : State :=
  let oldA := storedSide d.stored .a
  let oldB := storedSide d.stored .b
  let delta (m : Nat) (last : Option Nat) (v : Nat) : Option Nat := if fresh then none else advance m last v
  let s := s.sideReply ⟨a, .a⟩ sa fresh (!fresh && d.sees .plugA (oldA.map (·.plug)) sa.plug)
    (!fresh && d.sees .buttonA (oldA.map (·.button)) sa.button) (delta 65536 d.energyA sa.energy)
    (delta 65536 d.litresA sa.litres)
  let s := s.sideReply ⟨a, .b⟩ sb fresh (!fresh && d.sees .plugB (oldB.map (·.plug)) sb.plug)
    (!fresh && d.sees .buttonB (oldB.map (·.button)) sb.button) (delta 65536 d.energyB sb.energy)
    (delta 65536 d.litresB sb.litres)
  if fresh then (s.evalSide ⟨a, .a⟩ .linkLost).evalSide ⟨a, .b⟩ .linkLost else s

/-- A gate reader's status reply: the door alone at the re-basing reply, else its events. The spec gives no order of the
events of one reply: the card read first, then the exit button, then the door (DESIGN CHOICE, log 49). -/
def State.gateReply (d : Device) (fresh : Bool) (cards : Nat) (t : Token) (exits : Nat) (opened : Bool) (s : State) :
    State :=
  if fresh then s.modReader d.index fun r => { r with door := if opened then .opened else .closed }
  else
    match d.stored with
    | some (.gate cards' _ exits' opened') =>
      let s := if d.sees .cardRead (some cards') cards then s.gateCard d.index t else s
      let s := if d.sees .exitButton (some exits') exits then s.exitButton d.index else s
      if d.sees .door (some opened') opened then s.doorEvent d.index opened else s
    | _ => s

/-- A dispenser's status reply: totalisers, nozzle and volume, then the card read. -/
def State.dispenserStatus (d : Device) (fresh : Bool) (cards : Nat) (t : Token) (grade keypad : Nat) (lifted : Bool)
    (volume t0 t1 : Nat) (s : State) : State :=
  let delta (last : Option Nat) (v : Nat) : Option Nat := if fresh then none else advance 4294967296 last v
  let s := (s.totaliserReply d.index 0 t0 (delta d.total0 t0)).totaliserReply d.index 1 t1 (delta d.total1 t1)
  let s := s.dispenserReply d.index lifted volume fresh
  match d.stored with
  | some (.dispenser cards' _ _ _ _ _ _ _) =>
    if !fresh && d.sees .cardRead (some cards') cards then s.dispenserCard d.index t grade keypad else s
  | _ => s

/-- A valid status reply (08 R147, R155): the device is ONLINE, the reply is stored, and its values, deltas and events
reach the units; the reply of a device that was UNPOLLED or LOST re-bases it (08 R157). -/
def State.status (x : Exchange) (d : Device) (st : Status) (s : State) : State :=
  let s := s.endExchange
  let fresh := !d.state.reachable
  let t := s.changeDevice x.address d (d.replied s.now fresh st)
  let t := match st with
    | .pedestal a b => (t.pedestalReply x.address d fresh a b).polled x.address
    | .gate cards tok exits opened => t.gateReply d fresh cards tok exits opened
    | .dispenser cards tok grade keypad lifted volume t0 t1 =>
      t.dispenserStatus d fresh cards tok grade keypad lifted volume t0 t1
  s.recoveryEdges t

/-! ## Acknowledgements (08 R152, R154) -/

/-- A device after an answered exchange other than a status reply. -/
def Device.answered (d : Device) : Device :=
  match d.state with
  | .online | .missing => { d with state := .online, misses := 0 }
  | .unpolled | .lost => d

/-- An image acknowledged: it is the last-sent image and the acknowledged one, and the check points are set. -/
def State.imageAcked (a : Nat) (m : Image) (s : State) : State :=
  (s.modDevice a fun d =>
    { d with lastSent := some m, acked := some m, differSince := if d.desired = m then none else some s.now }
    ).setCheckPoints a m

/-- An acknowledgement of a one-shot: with the bit of the frame sent the slot is emptied and the owning unit told, where
the slot still holds the one-shot of that frame. One that replaced it during the exchange has the other bit and stays:
the one-shot sent is not reported (08 R153, R154). -/
def State.oneShotAcked (a : Nat) (sent bit : Bool) (s : State) : State :=
  match s.bus.devices.get a with
  | none => s
  | some d =>
    match d.slot with
    | none => s
    | some x =>
      if bit ≠ sent then s.retryOrFail a
      else if x.bit = sent then
        let s := s.setDevice a { d with slot := none }
        match d.kind with
        | .dispenser => s.saleCommandAcked d.index x.command
        | .gate | .pedestal => s
      else s

/-- A valid ACK. -/
def State.ack (x : Exchange) (d : Device) (bit : Bool) (s : State) : State :=
  let s := s.endExchange
  let t := s.changeDevice x.address d d.answered
  let t := match x.request with
    | .poll _ => t
    | .setOutputs m => if bit = x.bit then t.imageAcked x.address m else t
    | .oneShot _ => t.oneShotAcked x.address x.bit bit
  s.recoveryEdges t

/-! ## The poll list (08 R145, R146) -/

/-- The watchable fields of a kind (08 Table 8.4). -/
def watchable : DeviceKind → List WatchField
  | .pedestal => [.plugA, .buttonA, .plugB, .buttonB]
  | .gate => [.cardRead, .exitButton, .door]
  | .dispenser => [.cardRead]

/-- The default poll class of a kind (08 Table 8.1). -/
def defaultClass : DeviceKind → PollClass
  | .pedestal => .slow
  | .gate | .dispenser => .fast

/-- The fields of a DEVICE LOAD that passed its range checks. -/
structure DeviceFields where
  kind : DeviceKind
  pollClass : PollClass
  watch : List WatchField
  index : Nat
  side : GateSide
  hose0 : Bool
  hose1 : Bool
  deriving DecidableEq, Repr

/-- The range checks of DEVICE LOAD (08 R145): its fields, or none. -/
def deviceFields (f : DeviceLoad) : Option DeviceFields :=
  match f.kind, f.pollClass with
  | .unlisted, _ => none
  | _, some .unlisted => none
  | .known k, c =>
    let cls := match c with
      | some (.known x) => x
      | _ => defaultClass k
    let watch := f.watch.getD (watchable k)
    if !(busAddressOk f.address && watch.all (watchable k).contains) then none
    else
      match k, f.index, f.gateSide with
      | .pedestal, _, _ => some ⟨k, cls, watch, 0, .entry, false, false⟩
      | .gate, some i, some (.known g) => if smallIndexOk i then some ⟨k, cls, watch, i, g, false, false⟩ else none
      | .dispenser, some i, _ =>
        if smallIndexOk i && (f.hose0 || f.hose1) then some ⟨k, cls, watch, i, .entry, f.hose0, f.hose1⟩ else none
      | _, _, _ => none

/-- A new poll list entry (08 R145). -/
def Device.fresh (g : DeviceFields) (m : Image) (now : Nat) : Device where
  kind := g.kind
  pollClass := g.pollClass
  watch := g.watch
  index := g.index
  state := .unpolled
  misses := 0
  stored := none
  energyA := none
  energyB := none
  litresA := none
  litresB := none
  total0 := none
  total1 := none
  desired := m
  lastSent := none
  lastTransmitted := none
  acked := none
  differSince := some now
  sequence := false
  slot := none
  lastAddressed := none

/-- The refusal of EXISTS, TABLE_FULL or IN_USE (08 R145), or none. -/
def State.deviceRefusal (s : State) (a : Nat) (g : DeviceFields) : Option ReasonCode :=
  let old := s.bus.devices.get a
  let held := decide (g.kind ≠ .pedestal) &&
    s.bus.devices.any fun p => decide (p.1 ≠ a ∧ p.2.kind = g.kind ∧ p.2.index = g.index)
  let pedestals := (s.bus.devices.filter fun p => decide (p.2.kind = .pedestal)).length
  if (old.map fun d => decide (d.kind ≠ g.kind)).getD false || held then some .exists
  else
    match old with
    | none =>
      if Config.deviceCapacity ≤ s.bus.devices.length ∨ g.kind = .pedestal ∧ Config.pedestalCapacity ≤ pedestals then
        some .tableFull
      else none
    | some d =>
      match g.kind with
      | .pedestal => none
      | .gate => if d.index ≠ g.index ∧ (s.queryOf (.gate d.index)).isSome then some .inUse else none
      | .dispenser =>
        match s.fuel.dispensers.get d.index with
        | none => none
        | some r =>
          if r.state ≠ .idle ∧ (d.index ≠ g.index ∨ r.hose0 ≠ g.hose0 ∨ r.hose1 ≠ g.hose1) then some .inUse else none

/-- Make or change the record of a gate reader; a change of index moves it. -/
def State.loadReader (a : Nat) (old : Option Nat) (g : DeviceFields) (s : State) : State :=
  let r : Reader := ((old.bind s.gate.readers.get)).getD ⟨a, g.side, none, none, .unknown, none⟩
  let readers := match old with
    | some i => s.gate.readers.erase i
    | none => s.gate.readers
  { s with gate := { s.gate with readers := readers.set g.index { r with address := a, side := g.side } } }

/-- Make or change the record of a dispenser; a change of index moves it. -/
def State.loadDispenser (a : Nat) (old : Option Nat) (g : DeviceFields) (s : State) : State :=
  let r := ((old.bind s.fuel.dispensers.get)).getD (Dispenser.fresh a g.hose0 g.hose1)
  let dispensers := match old with
    | some i => s.fuel.dispensers.erase i
    | none => s.fuel.dispensers
  { s with fuel := { s.fuel with
    dispensers := dispensers.set g.index { r with address := a, hose0 := g.hose0, hose1 := g.hose1 } } }

/-- The present cycle goes on with the poll class a listed device had (08 R145). -/
def State.keepClass (a : Nat) (old : Option Device) (s : State) : State :=
  match old with
  | some d => { s with bus := { s.bus with cycle := s.bus.cycle.keepClass a d.pollClass } }
  | none => s

/-- The counting of the pedestal round starts again (03 R60). -/
def State.restartRound (s : State) : State := { s with bus := { s.bus with roundPolled := [] } }

/-- Make or change the record of the unit that owns a device. -/
def State.loadRecord (a : Nat) (old : Option Nat) (g : DeviceFields) (s : State) : State :=
  match g.kind with
  | .pedestal => s
  | .gate => s.loadReader a old g
  | .dispenser => s.loadDispenser a old g

/-- DEVICE LOAD (08 R145). -/
def deviceLoadAct (fr : IntakeFrame) (f : DeviceLoad) (s : State) : State :=
  match deviceFields f with
  | none => s.refuse fr .outOfRange
  | some g =>
    match s.deviceRefusal f.address g with
    | some c => s.refuse fr c
    | none =>
      let old := s.bus.devices.get f.address
      let d := match old with
        | none => Device.fresh g (s.imageOf f.address) s.now
        | some d => { d with pollClass := g.pollClass, watch := g.watch, index := g.index }
      let s := (((s.setDevice f.address d).keepClass f.address old).loadRecord f.address (old.map (·.index)) g).restartRound.markStatus
      s.accept fr [] (.device f.address d.state)

/-- Whether a device is in use against DEVICE REMOVE (08 R146). -/
def State.deviceInUse (s : State) (a : Nat) (d : Device) : Bool :=
  match d.kind with
  | .pedestal =>
    (s.outlet.outlets.any fun p => decide (p.2.address = a) && (p.2.session.isSome || p.2.reservation.isSome)) ||
      s.tap.taps.any fun p => decide (p.2.address = a ∧ p.2.state = .opened)
  | .gate => false
  | .dispenser => ((s.fuel.dispensers.get d.index).map fun r => decide (r.state ≠ .idle)).getD false

/-- What the removal of a device does to its unit (08 R146). -/
def State.deviceGone (a : Nat) (d : Device) (s : State) : State :=
  match d.kind with
  | .pedestal => s.pedestalGone a
  | .gate =>
    let s := s.dropQuery (.gate d.index)
    { s with gate := { s.gate with readers := s.gate.readers.erase d.index } }
  | .dispenser => { s with fuel := { s.fuel with dispensers := s.fuel.dispensers.erase d.index } }

/-- DEVICE REMOVE (08 R146). -/
def deviceRemoveAct (fr : IntakeFrame) (a : Nat) (s : State) : State :=
  if !busAddressOk a then s.refuse fr .outOfRange
  else
    match s.bus.devices.get a with
    | none => s.refuse fr .notFound
    | some d =>
      if s.deviceInUse a d then s.refuse fr .inUse
      else
        let t := { s with bus := { s.bus with
          devices := s.bus.devices.erase a
          cycle := { s.bus.cycle with classes := s.bus.cycle.classes.erase a }
          exchange := s.bus.exchange.filter fun x => decide (x.address ≠ a) } }
        let t := (t.deviceGone a d).restartRound.markStatus
        (s.recoveryEdges t).accept fr [] .none

/-! ## What the schedule and the replies bring -/

/-- Send what a command names, where the cycle has come to it. -/
def State.sendNext (b : BusStep) (act : Cycle → State → State) (s : State) : State :=
  match s.nextBus with
  | some (x, c) => if x = b then act c s else s
  | none => s

/-- A reply to the exchange in progress, by what it is read as. -/
def State.reading (s : State) (r : BusReply) : Option (Exchange × Device × ReplyReading) :=
  match s.bus.exchange with
  | none => none
  | some x => (s.bus.devices.get x.address).map fun d => (x, d, readReply d.kind x r)

/-- A status reply to a POLL (08 R155). -/
def State.takeStatus (r : BusReply) (s : State) : State :=
  match s.reading r with
  | some (x, d, .status st) => s.status x d st
  | _ => s

/-- An acknowledgement (08 R152, R154). -/
def State.takeAck (r : BusReply) (s : State) : State :=
  match s.reading r with
  | some (x, d, .ack bit) => s.ack x d bit
  | _ => s

/-- A bad reply is a miss (08 R147). -/
def State.takeBad (r : BusReply) (s : State) : State :=
  match s.reading r with
  | some (x, _, .bad) => s.miss x
  | _ => s

/-- The reply timeout in ms, by the BUSRATE strap (08 R149). -/
def State.replyTimeout (s : State) : Nat := if s.straps.busRate then 3 else 8

/-- No reply begins within the reply timeout: the exchange is a miss (08 R149). -/
def State.noReply (s : State) : State :=
  match s.bus.exchange with
  | some x => (s.advanceTo (x.started + s.replyTimeout)).miss x
  | none => s

/-- A cycle with nothing to send ends and the counter advances; after eight in a row the controller waits
(08 R150, log 39). -/
def State.emptyCycle (s : State) : State :=
  let c := if s.bus.cycle.sent then s.bus.cycle.roll else s.bus.cycle
  if s.bus.exchange.isSome || s.nextBus.isSome || decide (8 ≤ c.empty) then s
  else { s with bus := { s.bus with cycle := { c.roll with empty := c.empty + 1 } } }

/-! ## The commands -/

/-- DEVICE_LOAD (08 R145). -/
def execDeviceLoad (f : Form DeviceLoad) (s : State) : Host.Outcome State Fault Refusal :=
  localCommand 0x40 .deviceLoad f deviceLoadAct s

/-- DEVICE_REMOVE (08 R146). -/
def execDeviceRemove (f : Form Nat) (s : State) : Host.Outcome State Fault Refusal :=
  localCommand 0x41 .deviceRemove f deviceRemoveAct s

/-- POLL (08 R149, R150). -/
def execPoll (a : Nat) (s : State) : Host.Outcome State Fault Refusal :=
  unitEvent (State.sendNext (.poll a) (State.sendPoll a)) s

/-- SET_OUTPUTS (08 R150, R152). -/
def execSetOutputs (a : Nat) (s : State) : Host.Outcome State Fault Refusal :=
  unitEvent (State.sendNext (.outputs a) (State.sendOutputs a)) s

/-- ONE_SHOT_TRANSMIT (08 R150, R154). -/
def execOneShotTransmit (a : Nat) (s : State) : Host.Outcome State Fault Refusal :=
  unitEvent (State.sendNext (.oneShot a) (State.sendOneShot a)) s

/-- STATUS_REPLY (08 R155). -/
def execStatusReply (r : BusReply) (s : State) : Host.Outcome State Fault Refusal := unitEvent (State.takeStatus r) s

/-- ACK_RECEIVED (08 R152, R154). -/
def execAckReceived (r : BusReply) (s : State) : Host.Outcome State Fault Refusal := unitEvent (State.takeAck r) s

/-- REPLY_TIMEOUT (08 R149). -/
def execReplyTimeout (s : State) : Host.Outcome State Fault Refusal := unitEvent State.noReply s

/-- BAD_REPLY (08 R147). -/
def execBadReply (r : BusReply) (s : State) : Host.Outcome State Fault Refusal := unitEvent (State.takeBad r) s

/-- CYCLE_WITH_NOTHING_TO_SEND (08 R150). -/
def execCycleWithNothingToSend (s : State) : Host.Outcome State Fault Refusal := unitEvent State.emptyCycle s

end Sys2Proof.Machine
end

