-- ==== Sys2Proof/Machine/Tally.lean ====
section
/-! DEFINITION. The tally unit (chapter 11): the freeze and its ends, the pages of the frozen view, and the close of a
period. What each block adds to a live tally stands with that block (11 R183). -/

namespace Sys2Proof.Machine

open Sys2Proof

/-! ## The freeze (11 R184, R186) -/

/-- The accounts as a freeze copies them, in ascending order of number. -/
def State.frozenAccounts (s : State) : List FrozenAccount :=
  s.charge.accounts.map fun p => ⟨p.1, p.2.balance, p.2.power, p.2.water, p.2.fuel⟩

/-- The copy of a freeze. -/
def State.freezeCopy (s : State) : Freeze where
  moment := s.clockValue
  tallies := s.tally.live
  level0 := s.fuel.tank0.level
  level1 := s.fuel.tank1.level
  accounts := s.frozenAccounts
  releaseEnd := s.now + s.mgmt.config.freezeRelease * 1000

/-- Store the freeze. -/
def State.putFreeze (f : Freeze) (s : State) : State := { s with tally := { s.tally with freeze := some f } }

/-- End a freeze with a cause; in NOT_FROZEN nothing changes. -/
def State.endFreeze (c : FreezeEnd) (s : State) : State :=
  match s.tally.freeze with
  | none => s
  | some _ => { s with tally := { s.tally with freeze := none, lastEnd := some c } }.markStatus

/-! ## Period close (11 R187) -/

/-- An account record lowered by its frozen totals. -/
def Account.lowered (f : FrozenAccount) (a : Account) : Account :=
  { a with power := a.power - f.power, water := a.water - f.water, fuel := a.fuel - f.fuel }

/-- Lower the totals of a frozen account still in the table; a change marks its notice. -/
def State.closeAccount (f : FrozenAccount) (s : State) : State :=
  match s.account f.number with
  | none => s
  | some a => if a.lowered f = a then s else (s.setAccount f.number (a.lowered f)).mark .account f.number

/-- The live tallies with the period tallies lowered by their frozen values. -/
def Tallies.lowered (f t : Tallies) : Tallies :=
  { t with
    cashVolume0 := t.cashVolume0 - f.cashVolume0, cashVolume1 := t.cashVolume1 - f.cashVolume1
    cashAmount0 := t.cashAmount0 - f.cashAmount0, cashAmount1 := t.cashAmount1 - f.cashAmount1
    chargedPower := t.chargedPower - f.chargedPower, chargedWater := t.chargedWater - f.chargedWater
    chargedFuel0 := t.chargedFuel0 - f.chargedFuel0, chargedFuel1 := t.chargedFuel1 - f.chargedFuel1 }

/-- Close the period against a freeze. -/
def State.closeFrozen (f : Freeze) (s : State) : State :=
  let s := f.accounts.foldl (fun t x => t.closeAccount x) s
  let s := s.modLive (Tallies.lowered f.tallies)
  { s with tally := { s.tally with period := s.tally.period + 1 } }.endFreeze .close

/-! ## The pages (11 R185) -/

/-- The number of pages of a frozen view. -/
def Freeze.pages (f : Freeze) : Nat := 4 + (f.accounts.length + 7) / 8

/-- The values of a tally per index, 0 where none is held. -/
def tallyValues (t : Table Nat) (first n : Nat) : List Nat := (List.range n).map fun i => t.getD (first + i) 0

/-- Page 0. -/
def Freeze.head (f : Freeze) (period : Half) : TallyHead where
  period := period
  moment := f.moment
  pages := f.pages
  level0 := f.level0
  level1 := f.level1
  salesCompleted := f.tallies.salesCompleted
  cashVolume0 := f.tallies.cashVolume0
  cashAmount0 := f.tallies.cashAmount0
  chargedFuel0 := f.tallies.chargedFuel0
  cashVolume1 := f.tallies.cashVolume1
  cashAmount1 := f.tallies.cashAmount1
  chargedFuel1 := f.tallies.chargedFuel1
  chargedPower := f.tallies.chargedPower
  chargedWater := f.tallies.chargedWater

/-- A page of the frozen view. -/
def Freeze.page (f : Freeze) (period : Half) (n : Nat) : TallyPage :=
  match n with
  | 0 => .head (f.head period)
  | 1 => .energy (tallyValues f.tallies.energy 1 Config.tableSize)
  | 2 => .litres (tallyValues f.tallies.litres 1 Config.tableSize)
  | 3 => .fuel (tallyValues f.tallies.fuelSold 0 8) (tallyValues f.tallies.totaliser 0 8)
  | n + 4 => .accounts ((f.accounts.drop (8 * n)).take 8)

/-! ## Frames -/

/-- FREEZE as it is taken (11 R184). -/
def freezeAct (fr : IntakeFrame) (_ : Unit) (s : State) : State := s.handOffice fr .freeze

/-- CLOSE PERIOD as it is taken (11 R187). -/
def closePeriodAct (fr : IntakeFrame) (_ : Unit) (s : State) : State := s.handOffice fr .closePeriod

/-- FREEZE RELEASE (11 R186). -/
def freezeReleaseAct (fr : IntakeFrame) (_ : Unit) (s : State) : State :=
  match s.tally.freeze with
  | none => s.refuse fr .notFrozen
  | some _ => (s.endFreeze .release).accept fr [] .none

/-- READ TALLY (11 R185). -/
def readTallyAct (fr : IntakeFrame) (n : Nat) (s : State) : State :=
  match s.tally.freeze with
  | none => s.refuse fr .notFrozen
  | some f =>
    if n < f.pages then s.accept fr [] (.page (f.page s.tally.period n)) else s.refuse fr .outOfRange

/-- The auto-release timer runs out (11 R186). -/
def State.autoRelease (s : State) : State :=
  match s.tally.freeze with
  | some f => (s.advanceTo f.releaseEnd).endFreeze .autoRelease
  | none => s

/-! ## The commands -/

/-- FREEZE (11 R184, 02 R36). -/
def execFreeze (f : Form Unit) (s : State) : Host.Outcome State Fault Refusal :=
  localCommand 0x50 (fun _ => .freeze) f freezeAct s

/-- FREEZE_RELEASE (11 R186). -/
def execFreezeRelease (f : Form Unit) (s : State) : Host.Outcome State Fault Refusal :=
  localCommand 0x51 (fun _ => .freezeRelease) f freezeReleaseAct s

/-- CLOSE_PERIOD (11 R187, 02 R36). -/
def execClosePeriod (f : Form Unit) (s : State) : Host.Outcome State Fault Refusal :=
  localCommand 0x52 (fun _ => .closePeriod) f closePeriodAct s

/-- READ_TALLY (11 R185). -/
def execReadTally (f : Form Nat) (s : State) : Host.Outcome State Fault Refusal :=
  localCommand 0x53 .readTally f readTallyAct s

/-- FREEZE_AUTO_RELEASE (11 R186). -/
def execFreezeAutoRelease (s : State) : Host.Outcome State Fault Refusal :=
  unitEvent State.autoRelease s

end Sys2Proof.Machine
end

