-- ==== Sys2Proof/Machine/Office.lean ====
section
/-! DEFINITION. The OFFICE requester (02 R36): what the charge arbiter does with each account, tariff, freeze and close
operation, and with the steps of RESTART, when it serves them. -/

namespace Sys2Proof.Machine

open Sys2Proof

/-- The reply of the frame whose operation is served (02 R36, 10 R173). -/
def State.answerOffice (a : Answer) (s : State) : State :=
  match s.mgmt.work with
  | .office fr => s.answer fr a
  | .idle | .hold _ _ | .reply _ => s

/-- Refuse the frame whose operation is served. -/
def State.refuseOffice (c : ReasonCode) (s : State) : State := s.answerOffice (.refused c)

/-- Accept the frame whose operation is served. -/
def State.acceptOffice (flags : List ReplyFlag) (r : ResultFields) (s : State) : State :=
  s.answerOffice (.accepted flags r)

/-- The standing of an account; GOOD stands in where there is no record, which no caller meets (log 33). -/
def State.standingOf (s : State) (n : Nat) : Standing := ((s.account n).map (·.standing)).getD .good

/-! ## Account operations -/

/-- A record as ACCOUNT LOAD makes it (02 R25), with its standing derived. -/
def Account.fresh (f : AccountLoad) : Account :=
  let a : Account := ⟨f.cls, f.priority, f.opening, f.overdraft, f.warning, 0, f.suspend.getD false, false, .good,
    f.opening, 0, 0, 0, 0⟩
  { a with standing := a.derive }

/-- The position of a number in the table (02 R25). -/
def State.position (s : State) (n : Nat) : Nat := (s.charge.accounts.filter fun p => decide (p.1 ≤ n)).length

/-- Serve ACCOUNT LOAD (02 R25). -/
def State.serveLoad (f : AccountLoad) (s : State) : State :=
  if (s.account f.number).isSome then s.refuseOffice .exists
  else if Config.accountCapacity ≤ s.charge.accounts.length then s.refuseOffice .tableFull
  else
    let s := ((s.setAccount f.number (Account.fresh f)).createSource .account f.number).mark .account f.number
    s.acceptOffice [] (.accountLoaded f.number (s.standingOf f.number) (s.position f.number))

/-- A record with the fields an update gives (02 R30). -/
def Account.updated (f : AccountUpdate) (a : Account) : Account :=
  { a with
    cls := f.cls.getD a.cls, priority := f.priority.getD a.priority, overdraft := f.overdraft.getD a.overdraft
    warning := f.warning.getD a.warning, suspend := f.suspend.getD a.suspend }

/-- The outlets of the berths an account occupies. -/
def State.outletsOf (s : State) (n : Nat) : List Nat := (s.sidesOf n).filterMap fun r => (s.outletOfSide r).map (·.1)

/-- A priority change reaches the admission queue (03 R58): the entries concerned take their new places, and an attempt
is made on each feeder concerned. -/
def State.reprioritise (n p : Nat) (s : State) : State :=
  let outlets := s.outletsOf n
  let moved := s.outlet.queue.map fun e => if outlets.contains e.outlet then { e with priority := p } else e
  let queue := moved.foldl (fun l e => insertEntry e l) []
  let feeders := (s.outlet.queue.filter fun e => outlets.contains e.outlet).filterMap fun e =>
    (s.outlet.outlets.get e.outlet).map (·.feeder)
  feeders.foldl (fun t f => t.attempt f) { s with outlet := { s.outlet with queue := queue } }

/-- Serve ACCOUNT UPDATE (02 R30). -/
def State.serveUpdate (f : AccountUpdate) (s : State) : State :=
  match s.account f.number with
  | none => s.refuseOffice .notFound
  | some a =>
    let a' := a.updated f
    let s := if a' = a then s else s.mark .account f.number
    let s := if a'.priority = a.priority then s else s.reprioritise f.number a'.priority
    let s := (s.restand f.number a').flushAttempts
    s.acceptOffice [] (.standing (s.standingOf f.number))

/-- Serve TOP UP (02 R31). -/
def State.serveTopUp (f : TopUp) (s : State) : State :=
  match s.account f.number with
  | none => s.refuseOffice .notFound
  | some a =>
    let sum := a.topUps + f.amount
    if sum < -Config.maxTopUpSum ∨ Config.maxTopUpSum < sum then s.refuseOffice .outOfRange
    else
      let b := saturate a.balance f.amount
      let s := if b.1 = a.balance then s else s.mark .account f.number
      let s := s.restand f.number { a with topUps := sum, balance := b.1, saturated := a.saturated || b.2 }
      s.acceptOffice (flagIf b.2 .saturated) (.toppedUp b.1 (s.standingOf f.number))

/-- Whether an account is in a use that keeps it in the table (02 R33). -/
def State.accountInUse (s : State) (n : Nat) (a : Account) : Bool :=
  (s.berth.berths.any fun p => p.2.state.engaged && decide (p.2.account = some n)) ||
  (s.outlet.outlets.any fun p => (p.2.session.map fun x => decide (x.account = n)).getD false) ||
  (s.tap.taps.any fun p => (p.2.session.map fun x => decide (x.account = n)).getD false) ||
  (s.fuel.dispensers.any fun p => (p.2.sale.map fun x => decide (x.account = some n)).getD false) ||
  (s.charge.power.any fun e => decide (e.account = n)) || (s.charge.water.any fun e => decide (e.account = n)) ||
  (s.outlet.outlets.any fun p => p.2.waiting.any fun w => decide (w.account = n)) ||
  (s.tap.taps.any fun p => p.2.waiting.any fun w => decide (w.account = n)) ||
  decide (a.held ≠ 0 ∨ a.power ≠ 0 ∨ a.water ≠ 0 ∨ a.fuel ≠ 0)

/-- Serve ACCOUNT REMOVE (02 R33). -/
def State.serveRemove (n : Nat) (s : State) : State :=
  match s.account n with
  | none => s.refuseOffice .notFound
  | some a =>
    if s.accountInUse n a then s.refuseOffice .inUse
    else
      ({ s with charge := { s.charge with accounts := s.charge.accounts.erase n } }.removeSource .account n).acceptOffice
        [] .none

/-- Serve TARIFF LOAD (02 R34). -/
def State.serveTariff (f : TariffLoad) (s : State) : State :=
  let row : TariffRow := ⟨f.power, f.water, f.fuel0, f.fuel1⟩
  { s with charge := { s.charge with tariff := s.charge.tariff.set f.cls row } }.acceptOffice [] .none

/-! ## Freeze and close -/

/-- Serve FREEZE (11 R184): a freeze in force is left as it is. -/
def State.serveFreeze (s : State) : State :=
  match s.tally.freeze with
  | some f => s.acceptOffice [.alreadyFrozen] (.frozen s.tally.period f.moment)
  | none => (s.putFreeze s.freezeCopy).markStatus.acceptOffice [] (.frozen s.tally.period s.clockValue)

/-- Serve CLOSE PERIOD (11 R187). -/
def State.serveClose (s : State) : State :=
  match s.tally.freeze with
  | none => s.refuseOffice .notFrozen
  | some f => (s.closeFrozen f).acceptOffice [] (.closed (s.tally.period + 1))

/-! ## The grant -/

/-- Serve an operation. -/
def State.serveOffice (op : OfficeOp) (s : State) : State :=
  match op with
  | .accountLoad f => s.serveLoad f
  | .accountUpdate f => s.serveUpdate f
  | .topUp f => s.serveTopUp f
  | .accountRemove n => s.serveRemove n
  | .tariffLoad f => s.serveTariff f
  | .freeze => s.serveFreeze
  | .closePeriod => s.serveClose
  | .restartStep r => s.serveFuel r

/-- The arbiter grants OFFICE and serves the oldest operation handed (02 R35). -/
def State.grantOffice (s : State) : State :=
  if s.charge.nextGrant = some .office then
    match s.charge.office with
    | [] => s
    | op :: rest =>
      let s := s.grant .office
      { s with charge := { s.charge with office := rest } }.serveOffice op
  else s

/-- OFFICE_OPERATION (02 R35, R36). -/
def execOfficeOperation (s : State) : Host.Outcome State Fault Refusal := unitEvent State.grantOffice s

end Sys2Proof.Machine
end

