-- ==== Sys2Proof/Machine/Report.lean ====
section
/-! DEFINITION. Reports (09 R167 to R171): the content each owning unit gives, the image compared, which source is due, the
build of a report, the filling of a LOCAL slot, and READ. -/

namespace Sys2Proof.Machine

open Sys2Proof

/-! ## Contents -/

/-- The session values of an outlet or tap report. -/
def Session.report (remaining : Option Nat) (x : Session) : SessionReport :=
  ⟨x.account, x.startTime, x.quantity, x.charged, remaining⟩

/-- The berth report (01 R21). -/
def State.berthReport (s : State) (i : Nat) (b : Berth) : BerthReport where
  index := i
  label := b.label
  cls := b.cls
  state := b.state
  reason := b.reason
  account := b.account
  vessel := b.vessel
  expiry := b.expiry
  remaining := b.offerEnd.map (secondsLeft s.now)

/-- The outlet report (03 R69). -/
def State.outletReport (s : State) (i : Nat) (o : Outlet) : OutletReport where
  index := i
  address := o.address
  side := o.side
  rating := o.rating
  feeder := o.feeder
  state := o.state
  reason := o.reason
  lock := o.lock
  plug := o.plug
  contactorClosed := decide (o.state = .live)
  readback := o.readback
  current := o.current
  reservation := o.reservation
  session := o.session.map (Session.report none)
  latches := o.fault.latches
  lastFault := o.fault.last
  tripCount := s.tripCount o.fault
  ends := o.ends
  endsDropped := o.endsDropped

/-- The tap report (05 R102). -/
def State.tapReport (s : State) (i : Nat) (t : Tap) : TapReport where
  index := i
  address := t.address
  side := t.side
  state := t.state
  reason := t.reason
  valveOpen := decide (t.state = .opened)
  readback := t.readback
  session := t.session.map fun x => x.report (some (secondsLeft s.now x.moment))
  latches := t.fault.latches
  outOfService := t.outOfService
  lastFault := t.fault.last
  tripCount := s.tripCount t.fault
  ends := t.ends
  endsDropped := t.endsDropped

/-- The account notice (02 R45). -/
def accountReport (n : Nat) (a : Account) : AccountReport :=
  ⟨n, a.balance, a.held, a.standing, a.saturated, a.power, a.water, a.fuel⟩

/-- The feeder report (03 R70). -/
def State.feederReport (s : State) (i : Nat) (f : Feeder) : FeederReport where
  index := i
  capacity := f.capacity
  diversity := f.diversity
  shed := f.shed
  restore := f.restore
  reserved := s.reservedSum i
  lastSum := f.lastSum
  mean := f.mean
  ringEntries := f.ring.length
  congested := f.congested
  queued := (s.feederQueue i).length
  lastShed := f.lastShed

/-- The side of a requester that is a gate reader. -/
def State.requesterSide (s : State) : Requester → Option GateSide
  | .gate i => (s.gate.readers.get i).map (·.side)
  | .dispenser _ => none

/-- The credential query (07 R138). -/
def State.queryReport (s : State) (q : Query) : QueryReport :=
  ⟨q.token, q.requester, s.requesterSide q.requester, s.now - q.start⟩

/-- The sale report (06 R123). -/
def State.saleReport (s : State) : SaleReport where
  listed := s.fuel.sales.length
  inProgress := s.salesInProgress
  newest := s.fuel.newest
  oldest := s.fuel.sales.head?.bind (·.number)
  states := s.fuel.dispensers.map fun p => (p.1, p.2.state)

/-- The alarm status report (04 R89). -/
def State.alarmReport (s : State) : AlarmReport := ⟨s.outlet.raw, s.mgmt.config.alarmMask, s.alarmDrivenLow⟩

/-- The segment status report (09 R171). -/
def State.statusReport (s : State) : StatusReport where
  segment := s.segment
  clock := s.mgmt.clock
  timeValid := s.mgmt.timeValid
  tide := s.berth.tide.map fun t => ⟨t.current, t.low, t.lowTime, t.receipt, t.age s.now⟩
  tideStale := s.berth.tideStale
  waterSuspend := s.tap.waterSuspend
  tank0 := s.fuel.tank0
  tank1 := s.fuel.tank1
  devices := s.bus.devices.map fun p => ⟨p.1, p.2.kind, p.2.state, p.2.misses⟩
  upConnected := s.trunk.upConnected
  downConnected := s.trunk.downConnected
  pauseSent := s.trunk.pauseSent
  upstreamHeld := s.trunk.heldEnd.isSome
  upstreamLost := s.trunk.lost
  upErrors := s.trunk.upErrors
  downErrors := s.trunk.downErrors
  thruDiscards := s.trunk.thruDiscards
  downDiscards := s.trunk.downDiscards
  localDiscards := s.trunk.localDiscards
  frozen := s.tally.freeze.isSome
  lastEnd := s.tally.lastEnd
  period := s.tally.period

/-- The oldest journal entries not yet copied, at most 8 (07 R141). -/
def GateUnit.batch (g : GateUnit) : List JournalEntry := (g.journal.drop g.copied).take 8

/-- The pending query whose source has an identity. -/
def State.queryAt (s : State) (ident : Nat) : Option Query :=
  s.gate.queries.find? fun q => decide (queryIdent q.requester = ident)

/-- The content of a source's report from its present state; none where its record is absent. -/
def State.bodyOf (s : State) (x : SourceId) : Option ReportBody :=
  match x.cls with
  | .berth => (s.berth.berths.get x.ident).map fun b => .berth (s.berthReport x.ident b)
  | .outlet => (s.outlet.outlets.get x.ident).map fun o => .outlet (s.outletReport x.ident o)
  | .tap => (s.tap.taps.get x.ident).map fun t => .tap (s.tapReport x.ident t)
  | .account => (s.account x.ident).map fun a => .account (accountReport x.ident a)
  | .feeder => (s.outlet.feeders.get x.ident).map fun f => .feeder (s.feederReport x.ident f)
  | .journal => some (.journal s.gate.batch s.gate.gap)
  | .query => (s.queryAt x.ident).map fun q => .query (s.queryReport q)
  | .sale => some (.sale s.saleReport)
  | .alarm => some (.alarm s.alarmReport)
  | .status => some (.status s.statusReport)

/-! ## The image compared (09 R168) -/

/-- The session values of an outlet that are compared (03 R69), and those of a tap (05 R102). -/
def SessionReport.image (x : SessionReport) : SessionReport := { x with quantity := 0, charged := 0, remaining := none }

/-- The part of a report compared with the last-reported image: what its chapter leaves out stands at a fixed value. -/
def ReportBody.image : ReportBody → ReportBody
  | .berth r => .berth { r with remaining := none }
  | .outlet r => .outlet { r with current := 0, session := r.session.map SessionReport.image }
  | .tap r => .tap { r with session := r.session.map SessionReport.image }
  | .feeder r => .feeder { r with lastSum := none, mean := none, ringEntries := 0 }
  | .status r => .status { r with clock := 0, tide := r.tide.map fun t => { t with age := 0 } }
  | .account r => .account r
  | .journal entries gap => .journal entries gap
  | .query r => .query r
  | .sale r => .sale r
  | .alarm r => .alarm r

/-! ## Which source is due (09 R167, R168) -/

/-- Whether a reply carries journal entries (09 R169). -/
def Reply.journalEntries (r : Reply) : List JournalEntry :=
  match r.answer with
  | .accepted _ (.report p) =>
    match p.body with
    | .journal entries _ => entries
    | _ => []
  | _ => []

/-- Whether a frame is a source's queued report: its report frame, or a READ reply that carries journal entries. A
source that ceased and was made again under its class and identity is the same one here (log 42). -/
def LocalFrame.reports (x : SourceId) : LocalFrame → Bool
  | .report r => decide (r.source = x)
  | .reply r => decide (x.cls = .journal) && !r.journalEntries.isEmpty
  | .noRoute _ _ _ => false

/-- The reply waiting in the management unit. -/
def Work.reply? : Work → Option Reply
  | .reply r => some r
  | .idle | .office _ | .hold _ _ => none

/-- Whether the frame in transmission on UP is a source's report. -/
def UpTransmission.reports (x : SourceId) : UpTransmission → Bool
  | .ownFrame _ f => f.reports x
  | .thru _ => false

/-- Whether a source has a report queued: in the LOCAL queue, in transmission, or in the reply that waits in the
management unit (09 R167, R169). -/
def State.reportQueued (s : State) (x : SourceId) : Bool :=
  (s.trunk.own.any fun e => e.frame.reports x) || (s.trunk.transmitting.map (·.reports x)).getD false ||
    (s.mgmt.work.reply?.map fun r => (LocalFrame.reply r).reports x).getD false

/-- Whether a class builds on its mark alone. -/
def onMarkAlone : ReportClass → Bool
  | .account | .query | .journal => true
  | .berth | .outlet | .tap | .feeder | .sale | .alarm | .status => false

/-- Whether a mode builds at a mark. -/
def ReportMode.marks : ReportMode → Bool
  | .onChange | .both => true
  | .periodic | .polledOnly => false

/-- Whether a source's image differs from its last-reported one; an absent one differs from any. -/
def State.imageDiffers (s : State) (x : SourceId) (r : SourceRecord) : Bool :=
  decide (r.image = none ∨ (s.bodyOf x).map ReportBody.image ≠ r.image)

/-- Whether a source's mark makes it due, where its image allows it. -/
def State.markDue (s : State) (x : SourceId) (r : SourceRecord) : Bool := (s.mode x.cls).marks && r.mark

/-- Whether a source's periodic flag makes it due. -/
def State.periodicDue (s : State) (x : SourceId) (r : SourceRecord) : Bool := (s.mode x.cls).timed && r.periodic.isSome

/-- The due moment: the earlier of the moment the mark was first set since the last build and the periodic flag's
(09 R168, log 29). -/
def SourceRecord.dueMoment (r : SourceRecord) : Nat :=
  match r.first, r.periodic with
  | some a, some b => min a b
  | some a, none => a
  | none, some b => b
  | none, none => 0

/-- The first of a list of sources by due moment; of equal moments, the first in the list. -/
def firstDue : List (SourceId × Nat) → Option (SourceId × Nat)
  | [] => none
  | p :: l =>
    match firstDue l with
    | none => some p
    | some q => if q.2 < p.2 then some q else some p

/-- The sources that may be chosen, in ascending order of class code and identity, with their due moments. -/
def State.candidates (s : State) : List (SourceId × Nat) :=
  s.trunk.sources.filterMap fun p =>
    let x := sourceOfKey p.1
    if (s.markDue x p.2 || s.periodicDue x p.2) && !s.reportQueued x then some (x, p.2.dueMoment) else none

/-- The record of a source. -/
def State.source (s : State) (x : SourceId) : Option SourceRecord := s.trunk.sources.get (sourceKey x)

/-- Choose the source to build, with the cause; a marked source whose image equals its last-reported one has its mark
cleared and is passed over. -/
def State.chooseReport : Nat → State → State × Option (SourceId × Cause)
  | 0, s => (s, none)
  | n + 1, s =>
    match firstDue s.candidates with
    | none => (s, none)
    | some (x, _) =>
      match s.source x with
      | none => (s, none)
      | some r =>
        if s.markDue x r then
          if onMarkAlone x.cls || s.imageDiffers x r then (s, some (x, .change))
          else chooseReport n (s.modSource x SourceRecord.unmarked)
        else (s, some (x, .periodic))

/-! ## The build (09 R167) -/

/-- What building the report of a source changes in its owning unit: end records are taken (03 R67, 05 R99), journal
entries are copied and the journal is marked again while some are not (07 R141, log 28). -/
def State.afterBuild (x : SourceId) (s : State) : State :=
  match x.cls with
  | .outlet => s.modOutlet x.ident fun o => { o with ends := [], endsDropped := false }
  | .tap => s.modTap x.ident fun t => { t with ends := [], endsDropped := false }
  | .journal =>
    let g := { s.gate with copied := s.gate.copied + s.gate.batch.length }
    let s := { s with gate := g }
    if g.copied < g.journal.length then s.mark .journal 0 else s
  | .berth | .account | .feeder | .query | .sale | .alarm | .status => s

/-- The report of a source with its header. -/
def State.reportWith (s : State) (x : SourceId) (cause : Cause) (body : ReportBody) : Report :=
  ⟨x, cause, s.mgmt.clock, s.mgmt.timeValid, s.trunk.lost, body⟩

/-- The record of a source whose report has been built: nothing is set, the content is the last-reported image. -/
def SourceRecord.built (timer : Option Nat) (image : ReportBody) : SourceRecord := ⟨false, none, none, timer, some image⟩

/-- Build the report of a source: mark and periodic flag are cleared, the period timer restarts, the content becomes the
last-reported image. -/
def State.buildReport (x : SourceId) (cause : Cause) (s : State) : Option (Report × State) :=
  (s.bodyOf x).map fun body =>
    (s.reportWith x cause body,
      (s.modSource x fun _ => SourceRecord.built (s.freshTimer x.cls) body.image).afterBuild x)

/-- A frame of the part's own joins the LOCAL queue. -/
def State.pushOwn (f : LocalFrame) (s : State) : State :=
  { s with trunk := { s.trunk with own := s.trunk.own ++ [s.entryOf f] } }

/-- Fill a slot with a report of the source due first. -/
def State.fillReport (s : State) : State :=
  match s.chooseReport (s.trunk.sources.length + 1) with
  | (t, some (x, cause)) =>
    match t.buildReport x cause with
    | some (r, u) => u.pushOwn (.report r)
    | none => t
  | (t, none) => t

/-- Fill a free slot of the LOCAL queue (09 R167): the waiting reply, then a NO_ROUTE frame, then a report. -/
def State.fillSlot (s : State) : State :=
  if Config.localCapacity ≤ s.trunk.own.length then s
  else
    match s.mgmt.work with
    | .reply r => s.enterReply r
    | .idle | .office _ | .hold _ _ =>
      match s.trunk.noRoute with
      | some n => { s with trunk := { s.trunk with noRoute := none } }.pushOwn (.noRoute n.tag n.dest n.count)
      | none => s.fillReport

/-! ## READ (09 R169) -/

/-- READ. -/
def readAct (fr : IntakeFrame) (f : ReadFields) (s : State) : State :=
  match ReportClass.ofCode f.cls with
  | none => s.refuse fr .outOfRange
  | some c =>
    let x : SourceId := ⟨c, f.ident⟩
    if !x.wf then s.refuse fr .outOfRange
    else if (s.source x).isNone then s.refuse fr .notFound
    else if s.reportQueued x then s.accept fr [.reportQueued] .none
    else
      match s.buildReport x .read with
      | some (r, t) => t.accept fr [] (.report r)
      | none => s.refuse fr .notFound

/-- The period timer of a source runs out and sets its periodic flag (09 R168). -/
def State.periodExpiry (x : SourceId) (s : State) : State :=
  match (s.source x).bind (·.timerEnd) with
  | some t => (s.advanceTo t).modSource x fun r => { r with periodic := r.periodic.or (some t), timerEnd := none }
  | none => s

/-! ## The commands -/

/-- LOCAL_SLOT_FILL (09 R167). -/
def execLocalSlotFill (s : State) : Host.Outcome State Fault Refusal := unitEvent State.fillSlot s

/-- PERIOD_TIMER_EXPIRY (09 R168): the period timer of a source runs out and sets its periodic flag. -/
def execPeriodTimerExpiry (x : SourceId) (s : State) : Host.Outcome State Fault Refusal :=
  unitEvent (State.periodExpiry x) s

/-- READ (09 R169). -/
def execRead (f : Form ReadFields) (s : State) : Host.Outcome State Fault Refusal := localCommand 0x05 .read f readAct s

end Sys2Proof.Machine
end

