-- ==== Sys2Proof/Machine/Trunk.lean ====
section
/-! DEFINITION. The trunk unit (chapter 9): ports, reception and routing, PAUSE and RESUME, the two transmitters and the
upstream-loss state. A transparent part forwards and paces as an active one does (10 R177). -/

namespace Sys2Proof.Machine

open Sys2Proof

/-! ## Ports (09 R161) -/

/-- Whether a port is CONNECTED. -/
def State.connected (s : State) : Port → Bool
  | .up => s.trunk.upConnected
  | .down => s.trunk.downConnected

/-- Store a port state. -/
def State.putPort (p : Port) (b : Bool) (s : State) : State :=
  match p with
  | .up => { s with trunk := { s.trunk with upConnected := b } }
  | .down => { s with trunk := { s.trunk with downConnected := b } }

/-- A port is reported CONNECTED or DISCONNECTED; a change marks the segment status source (09 R161, log 16). -/
def State.setPort (p : Port) (b : Bool) (s : State) : State :=
  if s.phase = .held ∨ s.connected p = b then s else (s.putPort p b).markStatus

/-! ## The upstream-loss state (09 R170) -/

/-- The moment the silence time runs out. -/
def State.silenceEnd (s : State) : Nat := s.trunk.silenceFrom + s.mgmt.config.silenceLimit * 1000

/-- Enter the upstream-loss state: pending queries are failed and the segment status source is marked. -/
def State.enterLoss (s : State) : State :=
  if s.trunk.lost then s else { s with trunk := { s.trunk with lost := true } }.failQueries.markStatus

/-- A valid frame on UP restarts the silence time and ends the upstream-loss state. -/
def State.heardUp (s : State) : State :=
  let t := { s with trunk := { s.trunk with silenceFrom := s.now, lost := false } }
  if s.trunk.lost then t.markStatus else t

/-! ## PAUSE and RESUME (09 R164) -/

/-- A PAUSE or RESUME is to be sent on DOWN. -/
def State.pushLink (l : LinkFrame) (s : State) : State :=
  { s with trunk := { s.trunk with links := s.trunk.links ++ [l] } }

/-- Enter pause where the THRU queue, having grown, holds 6 or more with pause sent clear. -/
def State.pauseCheck (s : State) : State :=
  if s.trunk.pauseSent = false ∧ 6 ≤ s.trunk.thru.length then
    ({ s with trunk := { s.trunk with
      pauseSent := true, pauseEnd := some (s.now + Config.pauseRepeatTime) } }.pushLink .pause).markStatus
  else s

/-- Leave pause where the THRU queue, having shrunk, holds 2 or fewer with pause sent set. -/
def State.resumeCheck (s : State) : State :=
  if s.trunk.pauseSent = true ∧ s.trunk.thru.length ≤ 2 then
    ({ s with trunk := { s.trunk with pauseSent := false, pauseEnd := none } }.pushLink .resume).markStatus
  else s

/-- A PAUSE on UP sets upstream held and restarts its hold time. -/
def State.holdUp (s : State) : State :=
  let t := { s with trunk := { s.trunk with heldEnd := some (s.now + Config.holdTime) } }
  if s.trunk.heldEnd.isSome then t else t.markStatus

/-- Upstream held is cleared. -/
def State.releaseUp (s : State) : State :=
  if s.trunk.heldEnd.isSome then { s with trunk := { s.trunk with heldEnd := none } }.markStatus else s

/-! ## Reception on UP (09 R161, R162) -/

/-- A frame discarded for want of a route passes to the NO_ROUTE record; a transparent part keeps none. -/
def State.noRouteFor (f : Frame) (s : State) : State :=
  if s.transparent then s
  else
    let n := match s.trunk.noRoute with
      | none => 1
      | some r => min 255 (r.count + 1)
    { s with trunk := { s.trunk with noRoute := some ⟨f.tag, f.dest, n⟩ } }

/-- A frame for the DOWN queue. -/
def State.routeDown (f : Frame) (s : State) : State :=
  if s.straps.chainEnd = true ∨ s.trunk.downConnected = false then if f.dest = 0 then s else s.noRouteFor f
  else if Config.thruCapacity ≤ s.trunk.down.length then s.countDownDiscard
  else { s with trunk := { s.trunk with down := s.trunk.down ++ [f] } }

/-- A frame for the local intake: a full intake discards it; a transparent part takes nothing in. -/
def State.takeIn (rx : RxFrame) (s : State) : State :=
  if s.transparent then s
  else if s.trunk.intake.isSome then s.countLocalDiscard
  else
    let fr : IntakeFrame := ⟨decide (rx.frame.dest = 0), rx.frame.type, rx.frame.tag, formOf rx⟩
    { s with trunk := { s.trunk with intake := some fr } }

/-- Route a valid frame received on UP. -/
def State.routeUp (rx : RxFrame) (s : State) : State :=
  if rx.frame.type = 0xF0 then s.holdUp
  else if rx.frame.type = 0xF1 then s.releaseUp
  else if rx.frame.dest = 63 then s.countUpError
  else if rx.frame.dest = 0 then (s.routeDown rx.frame).takeIn rx
  else if rx.frame.dest.toNat = s.segment then s.takeIn rx
  else s.routeDown rx.frame

/-- A frame completes reception on UP; before the end of start-up it is discarded without count. -/
def State.receiveUp (rx : RxFrame) (s : State) : State :=
  let s := s.setPort .up true
  if s.phase ≠ .running then s
  else if validFrame rx then s.heardUp.routeUp rx
  else s.countUpError

/-! ## Reception on DOWN (09 R163) -/

/-- A frame joins the THRU queue. -/
def State.pushThru (f : Frame) (s : State) : State :=
  if Config.thruCapacity ≤ s.trunk.thru.length then s.countThruDiscard
  else
    let e : ThruEntry := ⟨f, s.now⟩
    { s with trunk := { s.trunk with thru := s.trunk.thru ++ [e] } }.pauseCheck

/-- A frame completes reception on DOWN; before the end of start-up it is discarded without count. -/
def State.receiveDown (rx : RxFrame) (s : State) : State :=
  let s := s.setPort .down true
  if s.phase ≠ .running then s
  else if !validFrame rx then s.countDownError
  else if rx.frame.type = 0xF0 ∨ rx.frame.type = 0xF1 then s
  else if rx.frame.dest = 63 then s.pushThru rx.frame
  else s.countDownError

/-! ## The upstream transmitter (09 R165) -/

/-- Whether a head has been in its queue for longer than the promote age. -/
def State.promoted (s : State) (entered : Nat) : Bool := decide (s.mgmt.config.promoteAge < s.now - entered)

/-- The queue whose head is sent: THRU (true) or LOCAL (false), or none where both are empty. -/
def State.chooseUp (s : State) : Option Bool :=
  match s.trunk.thru, s.trunk.own with
  | [], [] => none
  | _ :: _, [] => some true
  | [], _ :: _ => some false
  | t :: _, o :: _ =>
    match s.mgmt.config.upstreamPriority with
    | .thruFirst => some !(s.promoted o.entered)
    | .localFirst => some (s.promoted t.entered)

/-- Whether the upstream transmitter begins a frame: it is free, and upstream held is clear. -/
def State.upFree (s : State) : Bool := s.trunk.transmitting.isNone && s.trunk.heldEnd.isNone

/-- Begin to send a frame. A frame leaves its queue at the start of its transmission; a LOCAL slot so freed is filled
(log 13). -/
def State.startUp (s : State) : State :=
  match s.chooseUp, s.trunk.thru, s.trunk.own with
  | some true, t :: rest, _ =>
    { s with trunk := { s.trunk with thru := rest, transmitting := some (.thru t.frame) } }.resumeCheck
  | some false, _, o :: rest =>
    { s with trunk := { s.trunk with own := rest, transmitting := some (.ownFrame o.head o.frame) } }.fillSlot
  | _, _, _ => s

/-- The journal entries and the GAP flag a frame of the part carries, where it is a journal frame or journal reply. -/
def LocalFrame.journal? : LocalFrame → Option (List JournalEntry × Bool)
  | .report r =>
    match r.body with
    | .journal entries gap => some (entries, gap)
    | _ => none
  | .reply r =>
    match r.answer with
    | .accepted _ (.report p) =>
      match p.body with
      | .journal entries gap => some (entries, gap)
      | _ => none
    | _ => none
  | .noRoute _ _ _ => none

/-- A journal frame has been transmitted: its entries are removed, GAP is cleared if the frame carried it, and the source
is marked again where entries remain uncopied or GAP stands (07 R141). -/
def State.journalSent (n : Nat) (gap : Bool) (s : State) : State :=
  let g := { s.gate with
    journal := s.gate.journal.drop n, copied := s.gate.copied - n, gap := s.gate.gap && !gap }
  let t := { s with gate := g }
  if !g.journal.isEmpty || g.gap then t.mark .journal 0 else t

/-- The transmission of a frame ends. -/
def State.endUp (s : State) : State :=
  match s.trunk.transmitting with
  | none => s
  | some x =>
    let t := { s with trunk := { s.trunk with transmitting := none } }
    match x with
    | .thru _ => t
    | .ownFrame _ f =>
      match f.journal? with
      | some (entries, gap) => t.journalSent entries.length gap
      | none => t

/-! ## The DOWN transmitter (09 R162, R164) -/

/-- The type of a link frame. -/
def LinkFrame.type : LinkFrame → Byte
  | .pause => 0xF0
  | .resume => 0xF1

/-- A link frame as it is sent: destination 0, the part's segment as source (0 from a transparent part), no payload. -/
def State.linkFrame (s : State) (l : LinkFrame) : Frame :=
  ⟨0, if s.transparent then 0 else BitVec.ofNat 8 s.segment, l.type, 0, []⟩

/-- Send the next frame on DOWN: a link frame ahead of the DOWN queue. -/
def State.sendDown (s : State) : State :=
  match s.trunk.links, s.trunk.down with
  | l :: rest, _ => { s with trunk := { s.trunk with links := rest, lastDown := some (s.linkFrame l) } }
  | [], f :: rest => { s with trunk := { s.trunk with down := rest, lastDown := some f } }
  | [], [] => s

/-! ## Link frames and expiries -/

/-- A valid PAUSE on UP (09 R164). -/
def State.pauseUp (s : State) : State := (s.setPort .up true).heardUp.holdUp

/-- A valid RESUME on UP (09 R164). -/
def State.resumeUp (s : State) : State := (s.setPort .up true).heardUp.releaseUp

/-- The hold time runs out (09 R164). -/
def State.holdExpiry (s : State) : State :=
  match s.trunk.heldEnd with
  | some t => (s.advanceTo t).releaseUp
  | none => s

/-- A further PAUSE is sent every 200 ms (09 R164). -/
def State.repeatPause (s : State) : State :=
  match s.trunk.pauseEnd with
  | some t =>
    let s := (s.advanceTo t).pushLink .pause
    { s with trunk := { s.trunk with pauseEnd := some (t + Config.pauseRepeatTime) } }
  | none => s

/-- The upstream transmitter begins a frame where it may (09 R165). -/
def State.transmitUp (s : State) : State := if s.upFree then s.startUp else s

/-- The silence time runs out (09 R170). -/
def State.silenceExpiry (s : State) : State := if s.trunk.lost then s else (s.advanceTo s.silenceEnd).enterLoss

/-! ## The commands -/

/-- What the trunk ports do on a running part, transparent or active. -/
def trunkEvent (act : State → State) (s : State) : Host.Outcome State Fault Refusal :=
  if s.phase = .running then .next (act s).refreshActive else .next s

/-- UP_FRAME_RECEIVED (09 R161, R162). -/
def execUpFrameReceived (rx : RxFrame) (s : State) : Host.Outcome State Fault Refusal :=
  .next (s.receiveUp rx).refreshActive

/-- DOWN_FRAME_RECEIVED (09 R163). -/
def execDownFrameReceived (rx : RxFrame) (s : State) : Host.Outcome State Fault Refusal := .next (s.receiveDown rx)

/-- PAUSE_RECEIVED (09 R164): a valid PAUSE on UP. -/
def execPauseReceived (s : State) : Host.Outcome State Fault Refusal :=
  trunkEvent State.pauseUp s

/-- RESUME_RECEIVED (09 R164): a valid RESUME on UP. -/
def execResumeReceived (s : State) : Host.Outcome State Fault Refusal :=
  trunkEvent State.resumeUp s

/-- UPSTREAM_HOLD_EXPIRY (09 R164). -/
def execUpstreamHoldExpiry (s : State) : Host.Outcome State Fault Refusal :=
  trunkEvent State.holdExpiry s

/-- PAUSE_REPEAT (09 R164). -/
def execPauseRepeat (s : State) : Host.Outcome State Fault Refusal :=
  trunkEvent State.repeatPause s

/-- PORT_DISCONNECTED (09 R161). -/
def execPortDisconnected (p : Port) (s : State) : Host.Outcome State Fault Refusal := .next (s.setPort p false)

/-- PORT_CONNECTED (09 R161). -/
def execPortConnected (p : Port) (s : State) : Host.Outcome State Fault Refusal := .next (s.setPort p true)

/-- UPSTREAM_TRANSMIT (09 R165). -/
def execUpstreamTransmit (s : State) : Host.Outcome State Fault Refusal :=
  trunkEvent State.transmitUp s

/-- UPSTREAM_FRAME_SENT (09 R165, 07 R141). -/
def execUpstreamFrameSent (s : State) : Host.Outcome State Fault Refusal := trunkEvent State.endUp s

/-- DOWN_TRANSMIT (09 R162, R164). -/
def execDownTransmit (s : State) : Host.Outcome State Fault Refusal := trunkEvent State.sendDown s

/-- UPSTREAM_SILENCE_EXPIRY (09 R170). -/
def execUpstreamSilenceExpiry (s : State) : Host.Outcome State Fault Refusal :=
  unitEvent State.silenceExpiry s

end Sys2Proof.Machine
end

