-- ==== Sys2Proof/Machine/Mgmt.lean ====
section
/-! DEFINITION. The management unit (chapter 10): frames of no type, broadcasts not acted on, SEGMENT CONFIG and what each
changed field does, and the segment clock. -/

namespace Sys2Proof.Machine

open Sys2Proof

/-! ## The fields of SEGMENT CONFIG (10 Table 10.5, R176) -/

/-- The range of a clamped field by its identifier; none for an enumerated field, a mask, or no field (log 6). -/
def configRange : Nat → Option (Int × Int)
  | 1 => some (30, 3600)
  | 2 => some (0, 86400)
  | 3 => some (60, 7200)
  | 4 => some (-300, 300)
  | 5 => some (0, 200)
  | 6 => some (2, 64)
  | 7 => some (100, 150)
  | 8 => some (10, 3600)
  | 9 => some (0, 1)
  | 10 => some (1, 15)
  | 11 => some (1, 72)
  | 12 => some (2, 120)
  | 13 => some (100, 65000)
  | 14 => some (100, 65000)
  | 15 => some (1, 120)
  | 16 => some (1, 50)
  | 17 => some (5, 300)
  | 18 => some (200, 5000)
  | 19 => some (1, 30)
  | 21 => some (0, 4294967295)
  | 22 => some (0, 4294967295)
  | 23 => some (1, 10)
  | 24 => some (10, 600)
  | 25 => some (1, 4)
  | 26 => some (100, 9999999)
  | 27 => some (100, 9999999)
  | 29 => some (20, 5000)
  | 30 => some (2, 60)
  | 31 => some (30, 3600)
  | 32 => some (0, 1)
  | 33 => some (0, 1)
  | 36 => some (1, 3600)
  | _ => none

/-- The list of an enumerated field or mask by its identifier: its values are those below the number given (log 6). -/
def configChoices : Nat → Option Int
  | 20 => some 3
  | 28 => some 2
  | 34 => some 1024
  | 35 => some 4
  | _ => none

/-- Whether a field is given per report source class. -/
def perClass (field : Nat) : Bool := field == 35 || field == 36

/-- The first check of R176 for one field of the frame. -/
def configItemOk (x : ConfigItem) : Bool :=
  ((configRange x.field).isSome || (configChoices x.field).any fun n => decide (0 ≤ x.value ∧ x.value < n)) &&
    (!perClass x.field || (ReportClass.ofCode x.cls).isSome)

/-- What tells two fields of a frame apart. -/
def configKey (x : ConfigItem) : Nat × Nat := (x.field, if perClass x.field then x.cls else 0)

/-- A value brought to the nearer limit of a range. -/
def clampTo (r : Int × Int) (x : Int) : Int := max r.1 (min x r.2)

/-- The value a field is written with. -/
def configValue (x : ConfigItem) : Int :=
  match configRange x.field with
  | some r => clampTo r x.value
  | none => x.value

/-- The passback mode of a code. -/
def passbackOf : Nat → PassbackMode
  | 0 => .off
  | 1 => .log
  | _ => .enforce

/-- The upstream priority of a code. -/
def priorityCode : Nat → UpstreamPriority
  | 0 => .thruFirst
  | _ => .localFirst

/-- The report mode of a code. -/
def modeOf : Nat → ReportMode
  | 0 => .onChange
  | 1 => .periodic
  | 2 => .both
  | _ => .polledOnly

/-- The conditions a mask names, bit by bit in the order of 04 Table 4.5. -/
def maskOf (n : Nat) : RawStatus where
  outletLatch := n.testBit 0
  tapLatch := n.testBit 1
  outOfService := n.testBit 2
  feederCongested := n.testBit 3
  tideStale := n.testBit 4
  upstreamLost := n.testBit 5
  deviceLost := n.testBit 6
  saleListFull := n.testBit 7
  clockInvalid := n.testBit 8
  serviceHold := n.testBit 9

/-- Write one field of the record. -/
def SegmentConfig.write (c : SegmentConfig) (x : ConfigItem) : SegmentConfig :=
  let v := (configValue x).toNat
  let cls := (ReportClass.ofCode x.cls).getD .status
  match x.field with
  | 1 => { c with offerTime := v }
  | 2 => { c with noShowGrace := v }
  | 3 => { c with tideStaleLimit := v }
  | 4 => { c with tideFloor := configValue x }
  | 5 => { c with keelClearance := v }
  | 6 => { c with averagingDepth := v }
  | 7 => { c with overcurrentRatio := v }
  | 8 => { c with autoRecoveryTime := v }
  | 9 => { c with autoRecoveryEnable := decide (v = 1) }
  | 10 => { c with tripLimit := v }
  | 11 => { c with tripWindow := v }
  | 12 => { c with disagreementTime := v }
  | 13 => { c with energyJumpLimit := v }
  | 14 => { c with litreJumpLimit := v }
  | 15 => { c with dispensePeriod := v }
  | 16 => { c with leakThreshold := v }
  | 17 => { c with settleTime := v }
  | 18 => { c with queryTimeout := v }
  | 19 => { c with unlockTime := v }
  | 20 => { c with passback := passbackOf v }
  | 21 => { c with cacheLow := v }
  | 22 => { c with cacheHigh := v }
  | 23 => { c with missLimit := v }
  | 24 => { c with nozzleTimeout := v }
  | 25 => { c with pumpConcurrency := v }
  | 26 => { c with defaultPreset := v }
  | 27 => { c with maximumPreset := v }
  | 28 => { c with upstreamPriority := priorityCode v }
  | 29 => { c with promoteAge := v }
  | 30 => { c with silenceLimit := v }
  | 31 => { c with freezeRelease := v }
  | 32 => { c with outletOverride := decide (v = 1) }
  | 33 => { c with holdAtStart := decide (v = 1) }
  | 34 => { c with alarmMask := maskOf v }
  | 35 => { c with modes := c.modes.set cls (modeOf v) }
  | 36 => { c with periods := c.periods.set cls v }
  | _ => c

/-- The record with the fields of a frame. -/
def SegmentConfig.writeAll (c : SegmentConfig) (l : List ConfigItem) : SegmentConfig := l.foldl SegmentConfig.write c

/-- Whether a frame is accepted on a stored record (10 R176 step 1). -/
def configOk (c : SegmentConfig) (l : List ConfigItem) : Bool :=
  l.all configItemOk && decide ((l.map configKey).Nodup) && decide ((c.writeAll l).cacheLow ≤ (c.writeAll l).cacheHigh)

/-- Whether a frame has a field that is clamped (10 R176 step 2). -/
def configClamps (l : List ConfigItem) : Bool := l.any fun x => decide (configValue x ≠ x.value)

/-! ## What a changed field does (10 R176) -/

/-- Store the record. -/
def State.putConfig (c : SegmentConfig) (s : State) : State := { s with mgmt := { s.mgmt with config := c } }

/-- Each ring keeps its newest N sums (03 R61). -/
def State.trimRings (n : Nat) (s : State) : State :=
  let feeders := s.outlet.feeders.map fun p => (p.1, { p.2 with ring := newest n p.2.ring })
  { s with outlet := { s.outlet with feeders := feeders } }

/-- The period timer of a source after a configuration change (09 R168): it stops in a mode without one, starts in a mode
with one, and restarts with a new period. -/
def State.retimer (s : State) (was : SegmentConfig) (c : ReportClass) (r : SourceRecord) : SourceRecord :=
  if !(s.mode c).timed then { r with timerEnd := none }
  else if !(was.modes.get c).timed ∨ r.timerEnd.isSome ∧ was.periods.get c ≠ s.mgmt.config.periods.get c then
    { r with timerEnd := s.freshTimer c }
  else r

/-- The period timers follow a configuration change. -/
def State.retimeSources (was : SegmentConfig) (s : State) : State :=
  let sources := s.trunk.sources.map fun p => (p.1, s.retimer was (sourceOfKey p.1).cls p.2)
  { s with trunk := { s.trunk with sources := sources } }

/-- An act where a field of the record changed. -/
def whenChanged (changed : Bool) (act : State → State) (s : State) : State := if changed then act s else s

/-- What the fields that changed do, the record being stored; `was` is the state before. -/
def State.configured (was s : State) : State :=
  let c := was.mgmt.config
  let d := s.mgmt.config
  let s := whenChanged (decide (c.tideStaleLimit ≠ d.tideStaleLimit)) State.testTide s
  let s := whenChanged (decide (d.averagingDepth < c.averagingDepth)) (State.trimRings d.averagingDepth) s
  let s := whenChanged (c.outletOverride && !d.outletOverride) State.clearLocks s
  let s := whenChanged (decide (c.cacheLow ≠ d.cacheLow ∨ c.cacheHigh ≠ d.cacheHigh)) State.trimCache s
  let s := whenChanged (decide (c.pumpConcurrency < d.pumpConcurrency)) State.grantPumps s
  let s := whenChanged (decide (c.alarmMask ≠ d.alarmMask)) (State.mark .alarm 0) s
  let s := whenChanged (decide (c.overcurrentRatio ≠ d.overcurrentRatio)) (State.recoveryEdges was) s
  let s := s.retimeSources c
  whenChanged (decide (d.silenceLimit < c.silenceLimit ∧ s.silenceEnd ≤ s.now)) State.enterLoss s

/-- SEGMENT CONFIG (10 R176). -/
def segmentConfigAct (fr : IntakeFrame) (l : List ConfigItem) (s : State) : State :=
  let c := s.mgmt.config.writeAll l
  if configOk s.mgmt.config l then
    (s.configured (s.putConfig c)).accept fr (flagIf (configClamps l) .clamped) (.config c)
  else s.refuse fr .outOfRange

/-! ## The segment clock (10 R178) -/

/-- TIME. -/
def timeAct (fr : IntakeFrame) (c : Clock) (s : State) : State :=
  let t := { s with mgmt := { s.mgmt with clock := c, timeValid := true, secondStart := s.now } }
  let t := if s.mgmt.timeValid then t else t.markStatus
  t.noShowAll.accept fr [] (.time s.mgmt.clock s.mgmt.timeValid)

/-- One second measured from the reference clock: the clock advances while it is valid, and the no-show test is made. -/
def State.second (s : State) : State :=
  let t := s.advanceTo (s.mgmt.secondStart + 1000)
  let t := { t with mgmt := { t.mgmt with secondStart := s.mgmt.secondStart + 1000 } }
  if s.mgmt.timeValid then { t with mgmt := { t.mgmt with clock := t.mgmt.clock + 1 } }.noShowAll else t

/-! ## Frames of no use (10 R173) -/

/-- The frame in the intake that satisfies a test, where the management unit is free. -/
def State.intakeFrame (s : State) (test : IntakeFrame → Bool) : Option IntakeFrame :=
  if s.active && decide (s.mgmt.work = .idle) then s.trunk.intake.filter test else none

/-- A frame of a type outside the catalogue: refused, or discarded and counted when broadcast. -/
def State.takeUnknown (s : State) : State :=
  match s.intakeFrame fun fr => !catalogue.contains fr.type with
  | some fr => if fr.broadcast then (s.taken fr).countLocalDiscard else (s.taken fr).refuse fr .unknownType
  | none => s

/-- A broadcast of a type not acted on when broadcast. -/
def State.takeDiscard (s : State) : State :=
  match s.intakeFrame fun fr => fr.broadcast && !broadcastTypes.contains fr.type with
  | some fr => (s.taken fr).countLocalDiscard
  | none => s

/-! ## The commands -/

/-- UNKNOWN_TYPE (10 R173). -/
def execUnknownType (s : State) : Host.Outcome State Fault Refusal := unitEvent State.takeUnknown s

/-- BROADCAST_DISCARD (10 R173). -/
def execBroadcastDiscard (s : State) : Host.Outcome State Fault Refusal := unitEvent State.takeDiscard s

/-- SEGMENT_CONFIG (10 R176). -/
def execSegmentConfig (f : Form (List ConfigItem)) (s : State) : Host.Outcome State Fault Refusal :=
  localCommand 0x01 .segmentConfig f segmentConfigAct s

/-- TIME (10 R178). -/
def execTime (f : Form Clock) (s : State) : Host.Outcome State Fault Refusal := localCommand 0x02 .time f timeAct s

/-- SECOND_TICK (10 R178). -/
def execSecondTick (s : State) : Host.Outcome State Fault Refusal := unitEvent State.second s

end Sys2Proof.Machine
end

