-- ==== Sys2Proof/Machine/Reset.lean ====
section
/-! DEFINITION. Power-on, the RESET pin and start-up (10 R179), and RESTART (10 R180, R181). -/

namespace Sys2Proof.Machine

open Sys2Proof

/-! ## Power-on, RESET and start-up (10 R177, R179) -/

/-- Every block at its power-on values; the queue of commands is the sender's (log 3). -/
def State.powered (s : State) : State := { State.reset with pending := s.pending }

/-- Start-up begins: the straps are read. -/
def State.starting (straps : Straps) (s : State) : State := { s.powered with straps := straps, phase := .startUp }

/-- The period timers of the existing sources start (09 R172). -/
def State.startTimers (s : State) : State :=
  let sources := s.trunk.sources.map fun p => (p.1, { p.2 with timerEnd := s.freshTimer (sourceOfKey p.1).cls })
  { s with trunk := { s.trunk with sources := sources } }

/-- What start-up completes with: the alarm raw status is taken afresh, silence time and period timers start, the journal
source exists, and the segment status and alarm sources are marked (04 R89, 07 R142, 09 R172, 10 R179). -/
def State.begun (s : State) : State :=
  let s := { s with
    outlet := { s.outlet with raw := s.conditions }
    trunk := { s.trunk with silenceFrom := s.now }
    mgmt := { s.mgmt with secondStart := s.now } }
  ((s.createSource .journal 0).startTimers.markStatus).mark .alarm 0

/-- Start-up completes. -/
def State.complete (s : State) : State := { s with phase := .running }.begun

/-! ## RESTART: the trunk unit (09 R172) -/

/-- Whether a frame of the part is a report frame. -/
def LocalFrame.isReport : LocalFrame → Bool
  | .report _ => true
  | .reply _ | .noRoute _ _ _ => false

/-- How many journal entries a frame of the part carries. -/
def LocalFrame.carried (f : LocalFrame) : Nat := (f.journal?.map fun x => x.1.length).getD 0

/-- Report frames are removed from the LOCAL queue; a journal frame so removed leaves its entries to the next build. -/
def State.dropReports (s : State) : State :=
  let gone := (s.trunk.own.filter fun e => e.frame.isReport).map fun e => e.frame.carried
  { s with
    trunk := { s.trunk with own := s.trunk.own.filter fun e => !e.frame.isReport }
    gate := { s.gate with copied := s.gate.copied - gone.sum } }

/-- A source at RESTART: its image is absent, it is marked, and its period timer restarts. -/
def State.sourceRestart (s : State) (x : SourceId) (r : SourceRecord) : SourceRecord :=
  { r.marked s.now with image := none, timerEnd := s.freshTimer x.cls }

/-- The reports of the part at RESTART. -/
def State.restartTrunk (s : State) : State :=
  let s := s.dropReports
  let sources := s.trunk.sources.map fun p => (p.1, s.sourceRestart (sourceOfKey p.1) p.2)
  { s with trunk := { s.trunk with sources := sources } }

/-! ## RESTART: the pedestal bus (08 R160) -/

/-- A poll list entry at RESTART. -/
def Device.restarted (now : Nat) (d : Device) : Device :=
  { d with
    state := .unpolled, misses := 0, stored := none
    energyA := none, energyB := none, litresA := none, litresB := none, total0 := none, total1 := none
    lastSent := none, differSince := d.differSince.or (some now), slot := none }

/-- The pedestal bus controller at RESTART. -/
def State.restartBus (s : State) : State :=
  let devices := s.bus.devices.map fun p => (p.1, p.2.restarted s.now)
  { s with bus := { s.bus with
    devices := devices, exchange := none, cycle := Cycle.start, roundPolled := [] } }.markStatus

/-! ## RESTART: sales (06 R125, 02 R47) -/

/-- The sale of a dispenser at RESTART. -/
def State.restartSale (i : Nat) (s : State) : State :=
  match s.fuel.dispensers.get i with
  | none => s
  | some d =>
    match d.state with
    | .cardWait => s.setDispenser i d.idled
    | .holding | .waitPump => s.cancelSale true i
    | .authorised | .delivering =>
      (s.enterSettling true i ((d.sale.map (·.volume)).getD 0) true).writeOneShot d.address .stop
    | .idle | .settling | .cancelling => s

/-- A dispenser record after RESTART: no nozzle timer, nozzle UNKNOWN, delivery volume 0. -/
def Dispenser.restarted (d : Dispenser) : Dispenser := { d with nozzleEnd := none, nozzle := .unknown, volume := 0 }

/-- The fuel unit at RESTART: the FIFO is emptied, every sale is resolved by its state; of several dispensers the lower
index is resolved first, so its step is handed to OFFICE and its sale is numbered first (DESIGN CHOICE, log 43). -/
def State.restartFuel (s : State) : State :=
  let s := { s with fuel := { s.fuel with fifo := [] } }
  let s := s.fuel.dispensers.keys.foldl (fun t i => t.restartSale i) s
  let dispensers := s.fuel.dispensers.map fun p => (p.1, p.2.restarted)
  { s with fuel := { s.fuel with dispensers := dispensers } }.mark .sale 0

/-! ## RESTART: outlets, feeders and taps (03 R72, 04 R91, 05 R103) -/

/-- A fault record after RESTART: EARTH_LEAK latch, trips and last fault are kept. -/
def FaultRecord.restarted (f : FaultRecord) : FaultRecord :=
  { f.afresh with
    latches := { KindMap.all false with earthLeak := f.latches.earthLeak }, recovery := KindMap.all none }

/-- The state of an outlet after RESTART. -/
def OutletState.restarted (latched : Bool) : OutletState → OutletState
  | .off | .ready | .waiting _ | .live => .off
  | .tripped => if latched then .tripped else .off
  | .outOfService => .outOfService

/-- An outlet after RESTART, its session already ended. -/
def Outlet.restarted (o : Outlet) : Outlet :=
  let f := o.fault.restarted
  let st := o.state.restarted f.latches.any
  { o with
    state := st, reason := if st = o.state then o.reason else .restart
    plug := .unknown, fault := f
    reservation := if o.readback = .closed then o.reservation else none }

/-- A feeder after RESTART. -/
def Feeder.restarted (f : Feeder) : Feeder := { f with ring := [], lastSum := none, congested := false }

/-- The outlet unit at RESTART; no eligibility is evaluated. The sessions end in ascending outlet index (DESIGN CHOICE,
log 51). -/
def State.restartOutlets (s : State) : State :=
  let s := s.outlet.outlets.keys.foldl (fun t i => t.endOutletSession i .restart) s
  let outlets := s.outlet.outlets.map fun p => (p.1, p.2.restarted)
  let feeders := s.outlet.feeders.map fun p => (p.1, p.2.restarted)
  { s with outlet := { s.outlet with
    outlets := outlets, feeders := feeders, queue := [], serviceHold := s.mgmt.config.holdAtStart } }

/-- A tap after RESTART, closed already where it was OPEN. -/
def Tap.restarted (t : Tap) : Tap :=
  let freed := decide (t.state = .locked) && !t.outOfService
  { t with
    state := if freed then .closed else t.state
    reason := if freed then .restart else t.reason
    readback := .unknown, watchSum := 0, fault := t.fault.restarted }

/-- The tap unit at RESTART. -/
def State.restartTaps (s : State) : State :=
  let s := s.closeAllTaps .restart
  let taps := s.tap.taps.map fun p => (p.1, p.2.restarted)
  { s with tap := { s.tap with taps := taps } }

/-! ## RESTART: the gate unit, the berths and the whole (07 R143, 01 R23, 10 R181) -/

/-- A gate reader after RESTART. -/
def Reader.restarted (r : Reader) : Reader := { r with door := .unknown, windowEnd := none, unlock := none }

/-- The gate unit at RESTART: pending queries are removed without a decision. -/
def State.restartGate (s : State) : State :=
  let s := s.gate.queries.foldl (fun t q => t.dropQuery q.requester) s
  let readers := s.gate.readers.map fun p => (p.1, p.2.restarted)
  { s with gate := { s.gate with readers := readers } }

/-- The berth unit at RESTART: every last reason is RESTARTED. -/
def State.restartBerths (s : State) : State :=
  let berths := s.berth.berths.map fun p => (p.1, { p.2 with reason := BerthReason.restarted })
  { s with berth := { s.berth with berths := berths } }

/-- The steps of RESTART, in one operation (10 R181, log 37). -/
def State.restarted (s : State) : State :=
  let s := s.restartBus.restartFuel.restartOutlets.restartTaps.restartGate
  let s := ((s.endFreeze .restart).restartBerths).restartTrunk
  s.bus.devices.keys.foldl (fun t a => t.writeImage a) s

/-- Whether an OFFICE operation is a step of RESTART. -/
def OfficeOp.isRestart : OfficeOp → Bool
  | .restartStep _ => true
  | .accountLoad _ | .accountUpdate _ | .topUp _ | .accountRemove _ | .tariffLoad _ | .freeze | .closePeriod => false

/-- RESTART (10 R180): its reply is built first, and enters a full LOCAL queue after the reports are removed (09 R172). -/
def restartAct (fr : IntakeFrame) (_ : Unit) (s : State) : State :=
  if s.charge.office.any OfficeOp.isRestart then s.refuse fr .busy
  else
    let s := if Config.localCapacity ≤ s.trunk.own.length then s.dropReports else s
    (s.accept fr [] .none).restarted

/-! ## The commands -/

/-- POWER_ON (10 R177, R179). -/
def execPowerOn (straps : Straps) (s : State) : Host.Outcome State Fault Refusal := .next (s.starting straps)

/-- RESET_ASSERTED (10 R179). -/
def execResetAsserted (s : State) : Host.Outcome State Fault Refusal := .next s.powered

/-- RESET_RELEASED (10 R177, R179): the end of an assertion. -/
def execResetReleased (straps : Straps) (s : State) : Host.Outcome State Fault Refusal :=
  if s.phase = .held then .next (s.starting straps) else .next s

/-- STARTUP_COMPLETE (10 R179). -/
def execStartupComplete (s : State) : Host.Outcome State Fault Refusal :=
  if s.phase = .startUp then .next s.complete else .next s

/-- RESTART (10 R180, R181). -/
def execRestart (f : Form Unit) (s : State) : Host.Outcome State Fault Refusal :=
  localCommand 0x04 (fun _ => .restart) f restartAct s

end Sys2Proof.Machine
end

