-- ==== Sys2Proof/Machine/Dispatch.lean ====
section
/-! DEFINITION. What each command does: one arm per constructor. -/

namespace Sys2Proof.Machine

open Sys2Proof

/-- The effect of a command on everything but the queue. -/
def exec (i : Instr) (s : State) : Host.Outcome State Fault Refusal :=
  match i with
  | .powerOn straps => Sys2Proof.Machine.execPowerOn straps s
  | .resetAsserted => Sys2Proof.Machine.execResetAsserted s
  | .resetReleased straps => Sys2Proof.Machine.execResetReleased straps s
  | .startupComplete => Sys2Proof.Machine.execStartupComplete s
  | .upFrameReceived rx => Sys2Proof.Machine.execUpFrameReceived rx s
  | .downFrameReceived rx => Sys2Proof.Machine.execDownFrameReceived rx s
  | .pauseReceived => Sys2Proof.Machine.execPauseReceived s
  | .resumeReceived => Sys2Proof.Machine.execResumeReceived s
  | .upstreamHoldExpiry => Sys2Proof.Machine.execUpstreamHoldExpiry s
  | .pauseRepeat => Sys2Proof.Machine.execPauseRepeat s
  | .portDisconnected port => Sys2Proof.Machine.execPortDisconnected port s
  | .portConnected port => Sys2Proof.Machine.execPortConnected port s
  | .upstreamTransmit => Sys2Proof.Machine.execUpstreamTransmit s
  | .upstreamFrameSent => Sys2Proof.Machine.execUpstreamFrameSent s
  | .downTransmit => Sys2Proof.Machine.execDownTransmit s
  | .localSlotFill => Sys2Proof.Machine.execLocalSlotFill s
  | .periodTimerExpiry source => Sys2Proof.Machine.execPeriodTimerExpiry source s
  | .upstreamSilenceExpiry => Sys2Proof.Machine.execUpstreamSilenceExpiry s
  | .unknownType => Sys2Proof.Machine.execUnknownType s
  | .broadcastDiscard => Sys2Proof.Machine.execBroadcastDiscard s
  | .segmentConfig f => Sys2Proof.Machine.execSegmentConfig f s
  | .time f => Sys2Proof.Machine.execTime f s
  | .tide f => Sys2Proof.Machine.execTide f s
  | .restart f => Sys2Proof.Machine.execRestart f s
  | .read f => Sys2Proof.Machine.execRead f s
  | .berthLoad f => Sys2Proof.Machine.execBerthLoad f s
  | .berthRead f => Sys2Proof.Machine.execBerthRead f s
  | .openBerth f => Sys2Proof.Machine.execOpenBerth f s
  | .closeBerth f => Sys2Proof.Machine.execCloseBerth f s
  | .book f => Sys2Proof.Machine.execBook f s
  | .allocate f => Sys2Proof.Machine.execAllocate f s
  | .confirm f => Sys2Proof.Machine.execConfirm f s
  | .decline f => Sys2Proof.Machine.execDecline f s
  | .depart f => Sys2Proof.Machine.execDepart f s
  | .offerTimerExpiry berth => Sys2Proof.Machine.execOfferTimerExpiry berth s
  | .secondTick => Sys2Proof.Machine.execSecondTick s
  | .noShowExpiry berth => Sys2Proof.Machine.execNoShowExpiry berth s
  | .tideStaleExpiry => Sys2Proof.Machine.execTideStaleExpiry s
  | .accountLoad f => Sys2Proof.Machine.execAccountLoad f s
  | .accountUpdate f => Sys2Proof.Machine.execAccountUpdate f s
  | .topUp f => Sys2Proof.Machine.execTopUp f s
  | .accountRemove f => Sys2Proof.Machine.execAccountRemove f s
  | .accountRead f => Sys2Proof.Machine.execAccountRead f s
  | .tariffLoad f => Sys2Proof.Machine.execTariffLoad f s
  | .officeOperation => Sys2Proof.Machine.execOfficeOperation s
  | .powerPosting => Sys2Proof.Machine.execPowerPosting s
  | .waterPosting => Sys2Proof.Machine.execWaterPosting s
  | .holdServed => Sys2Proof.Machine.execHoldServed s
  | .releaseServed => Sys2Proof.Machine.execReleaseServed s
  | .settleServed => Sys2Proof.Machine.execSettleServed s
  | .outletLoad f => Sys2Proof.Machine.execOutletLoad f s
  | .feederLoad f => Sys2Proof.Machine.execFeederLoad f s
  | .protectionLoad f => Sys2Proof.Machine.execProtectionLoad f s
  | .forceOff f => Sys2Proof.Machine.execForceOff f s
  | .releaseForce f => Sys2Proof.Machine.execReleaseForce f s
  | .serviceHold f => Sys2Proof.Machine.execServiceHold f s
  | .serviceRelease f => Sys2Proof.Machine.execServiceRelease f s
  | .clearFault f => Sys2Proof.Machine.execClearFault f s
  | .returnToService f => Sys2Proof.Machine.execReturnToService f s
  | .tapLoad f => Sys2Proof.Machine.execTapLoad f s
  | .waterSuspend f => Sys2Proof.Machine.execWaterSuspend f s
  | .waterResume f => Sys2Proof.Machine.execWaterResume f s
  | .deviceLoad f => Sys2Proof.Machine.execDeviceLoad f s
  | .deviceRemove f => Sys2Proof.Machine.execDeviceRemove f s
  | .credentialFill f => Sys2Proof.Machine.execCredentialFill f s
  | .credentialUnknown f => Sys2Proof.Machine.execCredentialUnknown f s
  | .invalidate f => Sys2Proof.Machine.execInvalidate f s
  | .authoriseSale f => Sys2Proof.Machine.execAuthoriseSale f s
  | .stopSale f => Sys2Proof.Machine.execStopSale f s
  | .takeSale f => Sys2Proof.Machine.execTakeSale f s
  | .tankSet f => Sys2Proof.Machine.execTankSet f s
  | .tankAdd f => Sys2Proof.Machine.execTankAdd f s
  | .freeze f => Sys2Proof.Machine.execFreeze f s
  | .freezeRelease f => Sys2Proof.Machine.execFreezeRelease f s
  | .closePeriod f => Sys2Proof.Machine.execClosePeriod f s
  | .readTally f => Sys2Proof.Machine.execReadTally f s
  | .freezeAutoRelease => Sys2Proof.Machine.execFreezeAutoRelease s
  | .poll address => Sys2Proof.Machine.execPoll address s
  | .setOutputs address => Sys2Proof.Machine.execSetOutputs address s
  | .oneShotTransmit address => Sys2Proof.Machine.execOneShotTransmit address s
  | .statusReply reply => Sys2Proof.Machine.execStatusReply reply s
  | .ackReceived reply => Sys2Proof.Machine.execAckReceived reply s
  | .replyTimeout => Sys2Proof.Machine.execReplyTimeout s
  | .badReply reply => Sys2Proof.Machine.execBadReply reply s
  | .stuckMeterDetect outlet => Sys2Proof.Machine.execStuckMeterDetect outlet s
  | .dispensePeriodExpiry tap => Sys2Proof.Machine.execDispensePeriodExpiry tap s
  | .leakDisagreeExpiry outlet => Sys2Proof.Machine.execLeakDisagreeExpiry outlet s
  | .recoveryTimerExpiry target index kind => Sys2Proof.Machine.execRecoveryTimerExpiry target index kind s
  | .leakSettleEnd tap => Sys2Proof.Machine.execLeakSettleEnd tap s
  | .queryTimeout requester => Sys2Proof.Machine.execQueryTimeout requester s
  | .nozzleTimeout dispenser => Sys2Proof.Machine.execNozzleTimeout dispenser s
  | .cycleWithNothingToSend => Sys2Proof.Machine.execCycleWithNothingToSend s

end Sys2Proof.Machine
end

