-- ==== Sys2Proof/Machine/Step.lean ====
section
/-! DEFINITION. The step: the command at the front of the queue, or a millisecond of the reference clock. -/

namespace Sys2Proof.Machine

open Sys2Proof

/-- One step: the command at the front acts on the state with the queue's rest; on an empty queue the reference clock
advances by one millisecond (log 1). -/
def step (s : State) : Host.Outcome State Fault Refusal :=
  match s.pending with
  | [] => .next s.tick
  | c :: rest => exec c { s with pending := rest }

/-- The state with the command a word spells put at the front of its queue: no word of the table spells one, so the
state is unchanged where none is read. -/
def State.withFetchWord (s : State) (nbits w : Nat) : State :=
  match decodeTableWord nbits w with
  | some c => { s with pending := c :: s.pending }
  | none => s

end Sys2Proof.Machine
end

