-- ==== Sys2Proof/Safety.lean ====
section
/-! DEFINITION. Runs of the part, what it is for a property to be kept by every step, and the properties of a state that
the statements name. -/

namespace Sys2Proof.Machine

/-- A state reached from another by steps that answer a next state. -/
inductive Reach (s : State) : State → Prop where
  | refl : Reach s s
  | step {t u : State} : Reach s t → step t = .next u → Reach s u

/-- Every step from a state with the property that answers a next state answers one with the property. -/
def KeptByStep (P : State → Prop) : Prop := ∀ s t : State, P s → step s = .next t → P t

/-- Every table is in strictly ascending order of its key, so that no key is held twice (02 R24, 08 R145, 09 R167). -/
structure State.Ordered (s : State) : Prop where
  berths : Table.sorted s.berth.berths = true
  accounts : Table.sorted s.charge.accounts = true
  tariff : Table.sorted s.charge.tariff = true
  outlets : Table.sorted s.outlet.outlets = true
  feeders : Table.sorted s.outlet.feeders = true
  taps : Table.sorted s.tap.taps = true
  dispensers : Table.sorted s.fuel.dispensers = true
  readers : Table.sorted s.gate.readers = true
  cache : Table.sorted s.gate.cache = true
  devices : Table.sorted s.bus.devices = true
  sources : Table.sorted s.trunk.sources = true

/-- The queues of Table 9.1, the gate journal and the pending query list hold no more than the manual gives them
(09 Table 9.1, 07 R134, R140). -/
structure State.Bounded (s : State) : Prop where
  thru : s.trunk.thru.length ≤ 8
  down : s.trunk.down.length ≤ 8
  own : s.trunk.own.length ≤ 16
  journal : s.gate.journal.length ≤ 32
  queries : s.gate.queries.length ≤ 4

/-- The source of a report frame. -/
def LocalFrame.reportSource : LocalFrame → Option SourceId
  | .report r => some r.source
  | .reply _ | .noRoute _ _ _ => none

/-- The sources of the report frames in the LOCAL queue, in its order. -/
def State.queuedReports (s : State) : List SourceId := s.trunk.own.filterMap fun e => e.frame.reportSource

/-- Law L12: the LOCAL queue holds at most one report frame for any one report source (09 R167). -/
def State.OneReport (s : State) : Prop := s.queuedReports.Nodup

/-- Whether a command may write the configuration, the segment clock, the tide record, the tariff table, the protection
action table, the service hold, the water suspend flag or the freeze. -/
def settingCommand : Instr → Bool
  | .powerOn _ | .resetAsserted | .resetReleased _ | .startupComplete | .segmentConfig _ | .time _ | .tide _ | .restart _
  | .secondTick | .officeOperation | .protectionLoad _ | .serviceHold _ | .serviceRelease _ | .waterSuspend _
  | .waterResume _ | .freezeRelease _ | .freezeAutoRelease => true
  | _ => false

end Sys2Proof.Machine
end

