-- ==== Sys2Proof/Certificates/Slice0/Obligations.lean ====
section
/-! DEFINITION. The statements about the model, each from the rules of the manual it names. -/

namespace Sys2Proof.Claim

open Sys2Proof Sys2Proof.Machine

/-! ## Vocabulary -/

/-- A local frame of a type that carries a body stands in the intake of an active part whose management unit is free; a
broadcast one is of a type acted on when broadcast. -/
abbrev ready (type : Byte) (body : Option LocalBody) (fr : IntakeFrame) (s : State) : Prop :=
  s.active = true ∧ s.mgmt.work = .idle ∧ s.trunk.intake = some fr ∧ fr.type = type ∧ fr.form = body ∧
    (fr.broadcast = true → type ∈ broadcastTypes)

/-- A command of a local frame completes with an effect and an answer, and the alarm raw status follows. -/
def done (fr : IntakeFrame) (a : Answer) (effect : State) : Host.Outcome State Fault Refusal :=
  .next (effect.answer fr a).refreshAlarm

/-- A command that no frame brings completes with an effect, and the alarm raw status follows. -/
def acted (effect : State) : Host.Outcome State Fault Refusal := .next effect.refreshAlarm

/-- A frame of the part's own joins the LOCAL queue: for the office (63), from this segment, at the present moment
(09 R167, 10 R177). -/
def joined (s : State) (type tag : Byte) (f : LocalFrame) : LocalEntry :=
  ⟨⟨63, BitVec.ofNat 8 s.straps.seg.toNat, type, tag⟩, f, s.now⟩

/-- A source whose pending mark is set at a moment: the moment it was first set since the last build stands (09 R168). -/
def pended (now : Nat) (r : SourceRecord) : SourceRecord := { r with mark := true, first := r.first.or (some now) }

/-- The type and the body of the frame a local command takes. -/
def frameOf : Instr → Option (Byte × Option LocalBody)
  | .segmentConfig f => some (0x01, f.body .segmentConfig)
  | .time f => some (0x02, f.body .time)
  | .tide f => some (0x03, f.body .tide)
  | .restart f => some (0x04, f.body fun _ => .restart)
  | .read f => some (0x05, f.body .read)
  | .berthLoad f => some (0x10, f.body .berthLoad)
  | .berthRead f => some (0x11, f.body .berthRead)
  | .openBerth f => some (0x12, f.body .openBerth)
  | .closeBerth f => some (0x13, f.body .closeBerth)
  | .book f => some (0x14, f.body .book)
  | .allocate f => some (0x15, f.body .allocate)
  | .confirm f => some (0x16, f.body .confirm)
  | .decline f => some (0x17, f.body .decline)
  | .depart f => some (0x18, f.body .depart)
  | .accountLoad f => some (0x20, f.body .accountLoad)
  | .accountUpdate f => some (0x21, f.body .accountUpdate)
  | .topUp f => some (0x22, f.body .topUp)
  | .accountRemove f => some (0x23, f.body .accountRemove)
  | .accountRead f => some (0x24, f.body .accountRead)
  | .tariffLoad f => some (0x25, f.body .tariffLoad)
  | .outletLoad f => some (0x30, f.body .outletLoad)
  | .feederLoad f => some (0x31, f.body .feederLoad)
  | .protectionLoad f => some (0x32, f.body .protectionLoad)
  | .forceOff f => some (0x33, f.body .forceOff)
  | .releaseForce f => some (0x34, f.body .releaseForce)
  | .serviceHold f => some (0x35, f.body fun _ => .serviceHold)
  | .serviceRelease f => some (0x36, f.body fun _ => .serviceRelease)
  | .clearFault f => some (0x37, f.body .clearFault)
  | .returnToService f => some (0x38, f.body .returnToService)
  | .tapLoad f => some (0x39, f.body .tapLoad)
  | .waterSuspend f => some (0x3A, f.body fun _ => .waterSuspend)
  | .waterResume f => some (0x3B, f.body fun _ => .waterResume)
  | .deviceLoad f => some (0x40, f.body .deviceLoad)
  | .deviceRemove f => some (0x41, f.body .deviceRemove)
  | .credentialFill f => some (0x42, f.body .credentialFill)
  | .credentialUnknown f => some (0x43, f.body .credentialUnknown)
  | .invalidate f => some (0x44, f.body .invalidate)
  | .authoriseSale f => some (0x48, f.body .authoriseSale)
  | .stopSale f => some (0x49, f.body .stopSale)
  | .takeSale f => some (0x4A, f.body fun _ => .takeSale)
  | .tankSet f => some (0x4B, f.body .tankSet)
  | .tankAdd f => some (0x4C, f.body .tankAdd)
  | .freeze f => some (0x50, f.body fun _ => .freeze)
  | .freezeRelease f => some (0x51, f.body fun _ => .freezeRelease)
  | .closePeriod f => some (0x52, f.body fun _ => .closePeriod)
  | .readTally f => some (0x53, f.body .readTally)
  | _ => none

/-- The command's frame, with its fields, is ready to be taken. -/
def takes (c : Instr) (fr : IntakeFrame) (s : State) : Prop :=
  ∃ type body, frameOf c = some (type, some body) ∧ ready type (some body) fr s

/-- The berth a command names, of those that check the index first and the table second (01 R4). -/
def berthCommand : Instr → Option Nat
  | .openBerth (.fields i) | .closeBerth (.fields i) | .decline (.fields i) | .depart (.fields i) => some i
  | _ => none

/-- The commands of power, reset and the trunk ports, which a part takes although it is not active. -/
def portCommand : Instr → Bool
  | .powerOn _ | .resetAsserted | .resetReleased _ | .startupComplete | .upFrameReceived _ | .downFrameReceived _
  | .pauseReceived | .resumeReceived | .upstreamHoldExpiry | .pauseRepeat | .portDisconnected _ | .portConnected _
  | .upstreamTransmit | .upstreamFrameSent | .downTransmit => true
  | _ => false

/-! ## Invariants -/

/-- In an active part the alarm raw status is what the owning blocks hold (04 R89). -/
def RawFollows (s : State) : Prop := s.active = true → s.outlet.raw = s.conditions

/-- A part held in reset holds every block at its power-on values (10 R179). -/
def HeldAtPowerOn (s : State) : Prop := s.phase = .held → s = { State.reset with pending := s.pending, now := s.now }

/-- The units of a transparent part stay at their power-on values, but for the raw status and the measured second, which
the end of start-up takes (10 R179), and its trunk unit takes no frame in, builds none, and keeps no upstream-loss state
(10 R177). -/
def TransparentIdle (s : State) : Prop :=
  s.transparent = true →
    s.mgmt = { ManagementUnit.start with secondStart := s.mgmt.secondStart } ∧ s.berth = BerthUnit.start ∧
    s.charge = ChargeEngine.start ∧ s.outlet = { OutletUnit.start with raw := s.outlet.raw } ∧
    (s.phase = .running → s.outlet.raw =
      { RawStatus.all false with tideStale := true, clockInvalid := true, serviceHold := true }) ∧
    s.tap = TapUnit.start ∧ s.fuel = FuelUnit.start ∧ s.gate = GateUnit.start ∧ s.bus = BusController.start ∧
    s.tally = TallyUnit.start ∧ s.trunk.intake = none ∧ s.trunk.own = [] ∧ s.trunk.noRoute = none ∧
    s.trunk.lost = false

end Sys2Proof.Claim

open Sys2Proof Sys2Proof.Machine Sys2Proof.Claim

/-! ## The machine as a whole -/

/-- A step runs the command at the front of the queue on the state with the queue's rest. -/
def Sys2Proof.Claim.StepRunsFrontCommand : Prop :=
  ∀ (c : Instr) (rest : List Instr) (s : State), s.pending = c :: rest → step s = exec c { s with pending := rest }

/-- On an empty queue a step passes one millisecond (DESIGN CHOICE, log 1). -/
def Sys2Proof.Claim.IdleStepAdvancesReferenceClock : Prop :=
  ∀ s : State, s.pending = [] → step s = .next { s with now := s.now + 1 }

/-- A step runs the front command of the queue; on an empty queue it passes one millisecond (the model's choice, log
1) -/
def Obligations.StepRunsTheFrontCommandOrIdles : Prop :=
  Claim.StepRunsFrontCommand ∧ Claim.IdleStepAdvancesReferenceClock

/-- Every command answers a next state: the part stops on none. -/
def Sys2Proof.Claim.EveryCommandAnswersNext : Prop := ∀ (c : Instr) (s : State), ∃ t, exec c s = .next t

/-- Every step keeps: in an active part the alarm raw status is what the owning blocks hold -/
def Obligations.RawStatusFollowsConditions : Prop := KeptByStep RawFollows

/-- A part held in reset holds every block at its power-on values, step by step (10 R179). -/
def Sys2Proof.Claim.HeldPartStaysAtPowerOn : Prop := KeptByStep HeldAtPowerOn

/-- The units of a transparent part stay at their power-on values, step by step, but for what the end of start-up
takes (10 R177, R179; log 27). -/
def Sys2Proof.Claim.TransparentUnitsStayAtPowerOn : Prop := KeptByStep TransparentIdle

/-- Every step keeps: a part held in reset is at its power-on values, and a transparent part's units stay at theirs -/
def Obligations.PassivePartsStayAtPowerOn : Prop :=
  Claim.HeldPartStaysAtPowerOn ∧ Claim.TransparentUnitsStayAtPowerOn

/-- The invariants hold at reset. -/
def Sys2Proof.Claim.InvariantsHoldAtReset : Prop :=
  RawFollows State.reset ∧ HeldAtPowerOn State.reset ∧ TransparentIdle State.reset ∧ State.reset.Ordered ∧
    State.reset.Bounded ∧ State.reset.OneReport

/-- The values the chapters give for power-on and the RESET pin. -/
def Sys2Proof.Claim.ResetValuesOfTheBlocks : Prop :=
  State.reset.mgmt.config = SegmentConfig.defaults ∧ State.reset.mgmt.clock = 0 ∧ State.reset.mgmt.timeValid = false ∧
  State.reset.mgmt.accepted = 0 ∧ State.reset.mgmt.work = .idle ∧ State.reset.charge.accounts = [] ∧
  (∀ n, State.reset.tariffRow n = ⟨0, 0, 0, 0⟩) ∧ State.reset.charge.power = [] ∧ State.reset.charge.water = [] ∧
  State.reset.charge.lastGranted = .office ∧ State.reset.outlet.serviceHold = true ∧
  State.reset.outlet.protection = defaultProtection ∧ State.reset.tap.waterSuspend = false ∧
  State.reset.fuel.tank0 = ⟨0, 0, false⟩ ∧ State.reset.fuel.tank1 = ⟨0, 0, false⟩ ∧ State.reset.fuel.sales = [] ∧
  State.reset.gate.journal = [] ∧ State.reset.gate.gap = false ∧ State.reset.bus.devices = [] ∧
  State.reset.trunk.thru = [] ∧ State.reset.trunk.down = [] ∧ State.reset.trunk.own = [] ∧
  State.reset.trunk.intake = none ∧ State.reset.trunk.pauseSent = false ∧ State.reset.tally.freeze = none ∧
  State.reset.tally.live = Tallies.zero ∧ State.reset.tally.period = 0

/-- The state at reset satisfies the invariants and holds the values the chapters give for power-on -/
def Obligations.InvariantsAndValuesHoldAtReset : Prop :=
  Claim.InvariantsHoldAtReset ∧ Claim.ResetValuesOfTheBlocks

/-- Only the commands of power, reset and the trunk ports act on a part that is not active (10 R177, R179; log 2). -/
def Sys2Proof.Claim.UnitsActOnlyInAnActivePart : Prop :=
  ∀ (c : Instr) (s : State), portCommand c = false → s.active = false → exec c s = .next s

/-- Every command answers a next state; units take commands only in an active part past its start-up (log 2) -/
def Obligations.CommandsAnswerNextAndNeedAnActivePart : Prop :=
  Claim.EveryCommandAnswersNext ∧ Claim.UnitsActOnlyInAnActivePart

/-- Frame: a command that is no setting command leaves configuration, clock, tables of settings, holds, freeze, phase
and straps -/
def Obligations.CommandsLeaveSettingsAlone : Prop :=
  ∀ (c : Instr) (s t : State), settingCommand c = false → exec c s = .next t →
    t.mgmt.config = s.mgmt.config ∧ t.mgmt.clock = s.mgmt.clock ∧ t.mgmt.timeValid = s.mgmt.timeValid ∧
    t.berth.tide = s.berth.tide ∧ t.charge.tariff = s.charge.tariff ∧ t.outlet.protection = s.outlet.protection ∧
    t.outlet.serviceHold = s.outlet.serviceHold ∧ t.tap.waterSuspend = s.tap.waterSuspend ∧
    t.tally.freeze = s.tally.freeze ∧ t.tally.lastEnd = s.tally.lastEnd ∧ t.tally.period = s.tally.period ∧
    t.phase = s.phase ∧ t.straps = s.straps ∧ t.pending = s.pending

/-! ## Power, reset and start-up -/

/-- Power-on, RESET asserted and RESET released put the part at its power-on values and read the straps (log 3) -/
def Obligations.PowerAndResetPin : Prop :=
  ∀ (straps : Straps) (s : State),
    exec (.powerOn straps) s = .next { State.reset with pending := s.pending, straps := straps, phase := .startUp } ∧
    exec .resetAsserted s = .next { State.reset with pending := s.pending } ∧
    (s.phase = .held → exec (.resetReleased straps) s =
      .next { State.reset with pending := s.pending, straps := straps, phase := .startUp }) ∧
    (s.phase ≠ .held → exec (.resetReleased straps) s = .next s)

/-- The end of start-up: phase, raw status, journal source, alarm and status marks, every period timer (log 27) -/
def Obligations.StartupCompletes : Prop :=
  ∀ s : State, s.phase = .startUp →
    (∃ t, exec .startupComplete s = .next t ∧
      (∀ k, t.trunk.sources.get k =
        let was := if k = sourceKey ⟨.journal, 0⟩ then
            some ((s.trunk.sources.get k).getD ⟨false, none, none, none, none⟩)
          else s.trunk.sources.get k
        was.map fun r => { (if k = sourceKey ⟨.status, 0⟩ ∨ k = sourceKey ⟨.alarm, 0⟩ then pended s.now r else r) with
          timerEnd := s.freshTimer (sourceOfKey k).cls }) ∧
      t = { s with
        phase := .running, outlet := { s.outlet with raw := s.conditions }
        trunk := { s.trunk with silenceFrom := s.now, sources := t.trunk.sources }
        mgmt := { s.mgmt with secondStart := s.now } }) ∧
    (s.berth = BerthUnit.start ∧ s.outlet = OutletUnit.start ∧ s.tap = TapUnit.start ∧ s.fuel = FuelUnit.start ∧
      s.bus = BusController.start ∧ s.trunk.lost = false ∧ s.mgmt.timeValid = false →
      s.conditions = { RawStatus.all false with tideStale := true, clockInvalid := true, serviceHold := true })

/-! ## Taking and answering a local frame -/

/-- Taking a local frame raises the accepted-frame count; its reply enters the LOCAL queue or waits in the management
unit -/
def Obligations.LocalFrameCountedAndAnswered : Prop :=
  ∀ (fr : IntakeFrame) (a : Answer) (s : State),
    s.taken fr = { s with
      trunk := { s.trunk with intake := none }
      mgmt := { s.mgmt with accepted := if fr.broadcast then s.mgmt.accepted else s.mgmt.accepted + 1 } } ∧
    (fr.broadcast = true → s.answer fr a = { s with mgmt := { s.mgmt with work := .idle } }) ∧
    (fr.broadcast = false → s.trunk.own.length < 16 → s.answer fr a = { s with
      trunk := { s.trunk with own := s.trunk.own ++ [
        joined s (fr.type + 0x80) fr.tag (.reply ⟨fr.type + 0x80, fr.tag, s.mgmt.accepted, a⟩)] }
      mgmt := { s.mgmt with work := .idle } }) ∧
    (fr.broadcast = false → 16 ≤ s.trunk.own.length → s.answer fr a = { s with
      mgmt := { s.mgmt with work := .reply ⟨fr.type + 0x80, fr.tag, s.mgmt.accepted, a⟩ } })

/-- A frame whose length matches no form of its type is refused BAD_LENGTH (10 R173). -/
def Sys2Proof.Claim.BadLengthIsRefused : Prop :=
  ∀ (c : Instr) (type : Byte) (fr : IntakeFrame) (s : State), frameOf c = some (type, none) → ready type none fr s →
    exec c s = done fr (.refused .badLength) (s.taken fr)

/-- A broadcast of a type not acted on when broadcast is discarded and counted (10 R173). -/
def Sys2Proof.Claim.UnmarkedBroadcastIsDiscarded : Prop :=
  (∀ (c : Instr) (type : Byte) (b : Option LocalBody) (fr : IntakeFrame) (s : State), frameOf c = some (type, b) →
    type ∉ broadcastTypes → s.active = true → s.mgmt.work = .idle → s.trunk.intake = some fr → fr.broadcast = true →
    fr.type = type → fr.form = b → exec c s = acted (s.taken fr).countLocalDiscard) ∧
  (∀ (fr : IntakeFrame) (s : State), s.active = true → s.mgmt.work = .idle → s.trunk.intake = some fr →
    fr.broadcast = true → fr.type ∉ broadcastTypes →
    exec .broadcastDiscard s = acted (s.taken fr).countLocalDiscard)

/-- A frame of an unknown type is refused UNKNOWN_TYPE, or discarded when broadcast (10 R173). -/
def Sys2Proof.Claim.UnknownTypeIsRefused : Prop :=
  ∀ (fr : IntakeFrame) (s : State), s.active = true → s.mgmt.work = .idle → s.trunk.intake = some fr →
    fr.type ∉ catalogue →
    (fr.broadcast = false → exec .unknownType s = done fr (.refused .unknownType) (s.taken fr)) ∧
    (fr.broadcast = true → exec .unknownType s = acted (s.taken fr).countLocalDiscard)

/-- BAD_LENGTH, UNKNOWN_TYPE and broadcasts not acted on: refused, or discarded and counted -/
def Obligations.FramesNotActedOnAreRefusedOrDiscarded : Prop :=
  Claim.BadLengthIsRefused ∧ Claim.UnmarkedBroadcastIsDiscarded ∧ Claim.UnknownTypeIsRefused

/-! ## Configuration, clock and restart (chapter 10) -/

namespace Sys2Proof.Claim

/-- The fields that are clamped: identifier and range (10 Table 10.5, R176); a flag is 0 or 1 (log 6). -/
def fieldRanges : List (Nat × Int × Int) :=
  [(1, 30, 3600), (2, 0, 86400), (3, 60, 7200), (4, -300, 300), (5, 0, 200), (6, 2, 64), (7, 100, 150), (8, 10, 3600)] ++
  [(9, 0, 1), (10, 1, 15), (11, 1, 72), (12, 2, 120), (13, 100, 65000), (14, 100, 65000), (15, 1, 120), (16, 1, 50)] ++
  [(17, 5, 300), (18, 200, 5000), (19, 1, 30), (21, 0, 4294967295), (22, 0, 4294967295), (23, 1, 10), (24, 10, 600)] ++
  [(25, 1, 4), (26, 100, 9999999), (27, 100, 9999999), (29, 20, 5000), (30, 2, 60), (31, 30, 3600), (32, 0, 1)] ++
  [(33, 0, 1), (36, 1, 3600)]

/-- The enumerated fields and the alarm mask: identifier, and how many values its list holds (10 Table 10.5, log 6). -/
def fieldLists : List (Nat × Int) := [(20, 3), (28, 2), (34, 1024), (35, 4)]

/-- The fields given with a source class: report mode and report period (10 R176). -/
def byClass (i : Nat) : Prop := i = 35 ∨ i = 36

/-- A field of a SEGMENT CONFIG: a known identifier, a listed value where it is enumerated or the mask, and a class of
Table 9.3 where it is given with one (10 R176). -/
def fieldOk (x : ConfigItem) : Prop :=
  ((∃ r, (x.field, r) ∈ fieldRanges) ∨ ∃ n, (x.field, n) ∈ fieldLists ∧ 0 ≤ x.value ∧ x.value < n) ∧
    (byClass x.field → 1 ≤ x.cls ∧ x.cls ≤ 10)

/-- The same field given twice (10 R176). -/
def sameField (x y : ConfigItem) : Prop := x.field = y.field ∧ (byClass x.field → x.cls = y.cls)

/-- A frame's fields pass the checks of R176 on a stored record. -/
def configFits (c : SegmentConfig) (l : List ConfigItem) : Prop :=
  (∀ x ∈ l, fieldOk x) ∧ l.Pairwise (fun x y => ¬sameField x y) ∧ (c.writeAll l).cacheLow ≤ (c.writeAll l).cacheHigh

/-- A frame holds a field outside its range (10 R176). -/
def outside (l : List ConfigItem) : Prop :=
  ∃ x ∈ l, ∃ lo hi, (x.field, lo, hi) ∈ fieldRanges ∧ (x.value < lo ∨ hi < x.value)

/-- The period timer of a class runs in its mode; credential queries have none (09 R168, 07 R138). -/
def timed (c : SegmentConfig) (x : ReportClass) : Bool :=
  decide (x ≠ .query) && (decide (c.modes.get x = .periodic) || decide (c.modes.get x = .both))

end Sys2Proof.Claim

/-- SEGMENT CONFIG is stored, with CLAMPED where a value was clamped, or is refused OUT_OF_RANGE (10 R176; field codes
and flag ranges by log 6). -/
def Sys2Proof.Claim.SegmentConfigIsStoredOrRefused : Prop :=
  ∀ (l : List ConfigItem) (fr : IntakeFrame) (s : State), takes (.segmentConfig (.fields l)) fr s →
    let u := s.taken fr
    let d := s.mgmt.config.writeAll l
    let stored (flags : List ReplyFlag) : Prop := exec (.segmentConfig (.fields l)) s =
      done fr (.accepted flags (.config d)) (u.configured (u.putConfig d))
    (configFits s.mgmt.config l → (outside l → stored [.clamped]) ∧ (¬outside l → stored [])) ∧
    (¬configFits s.mgmt.config l →
      exec (.segmentConfig (.fields l)) s = done fr (.refused .outOfRange) u)

/-- Each field of Table 10.5 is written by its identifier, clamped into its range (10 R176; identifiers by log 6). -/
def Sys2Proof.Claim.ConfigFieldsAreWritten : Prop :=
  ∀ (c : SegmentConfig) (v : Int),
    let w (lo hi : Int) : Nat := (max lo (min v hi)).toNat
    let set (lo hi : Int) : Bool := decide (w lo hi = 1)
    c.write ⟨1, 0, v⟩ = { c with offerTime := w 30 3600 } ∧
    c.write ⟨2, 0, v⟩ = { c with noShowGrace := w 0 86400 } ∧
    c.write ⟨3, 0, v⟩ = { c with tideStaleLimit := w 60 7200 } ∧
    c.write ⟨4, 0, v⟩ = { c with tideFloor := max (-300) (min v 300) } ∧
    c.write ⟨5, 0, v⟩ = { c with keelClearance := w 0 200 } ∧
    c.write ⟨6, 0, v⟩ = { c with averagingDepth := w 2 64 } ∧
    c.write ⟨7, 0, v⟩ = { c with overcurrentRatio := w 100 150 } ∧
    c.write ⟨8, 0, v⟩ = { c with autoRecoveryTime := w 10 3600 } ∧
    c.write ⟨9, 0, v⟩ = { c with autoRecoveryEnable := set 0 1 } ∧
    c.write ⟨10, 0, v⟩ = { c with tripLimit := w 1 15 } ∧
    c.write ⟨11, 0, v⟩ = { c with tripWindow := w 1 72 } ∧
    c.write ⟨12, 0, v⟩ = { c with disagreementTime := w 2 120 } ∧
    c.write ⟨13, 0, v⟩ = { c with energyJumpLimit := w 100 65000 } ∧
    c.write ⟨14, 0, v⟩ = { c with litreJumpLimit := w 100 65000 } ∧
    c.write ⟨15, 0, v⟩ = { c with dispensePeriod := w 1 120 } ∧
    c.write ⟨16, 0, v⟩ = { c with leakThreshold := w 1 50 } ∧
    c.write ⟨17, 0, v⟩ = { c with settleTime := w 5 300 } ∧
    c.write ⟨18, 0, v⟩ = { c with queryTimeout := w 200 5000 } ∧
    c.write ⟨19, 0, v⟩ = { c with unlockTime := w 1 30 } ∧
    (c.write ⟨20, 0, 0⟩ = { c with passback := .off } ∧ c.write ⟨20, 0, 1⟩ = { c with passback := .log } ∧
      c.write ⟨20, 0, 2⟩ = { c with passback := .enforce }) ∧
    c.write ⟨21, 0, v⟩ = { c with cacheLow := w 0 4294967295 } ∧
    c.write ⟨22, 0, v⟩ = { c with cacheHigh := w 0 4294967295 } ∧
    c.write ⟨23, 0, v⟩ = { c with missLimit := w 1 10 } ∧
    c.write ⟨24, 0, v⟩ = { c with nozzleTimeout := w 10 600 } ∧
    c.write ⟨25, 0, v⟩ = { c with pumpConcurrency := w 1 4 } ∧
    c.write ⟨26, 0, v⟩ = { c with defaultPreset := w 100 9999999 } ∧
    c.write ⟨27, 0, v⟩ = { c with maximumPreset := w 100 9999999 } ∧
    (c.write ⟨28, 0, 0⟩ = { c with upstreamPriority := .thruFirst } ∧
      c.write ⟨28, 0, 1⟩ = { c with upstreamPriority := .localFirst }) ∧
    c.write ⟨29, 0, v⟩ = { c with promoteAge := w 20 5000 } ∧
    c.write ⟨30, 0, v⟩ = { c with silenceLimit := w 2 60 } ∧
    c.write ⟨31, 0, v⟩ = { c with freezeRelease := w 30 3600 } ∧
    c.write ⟨32, 0, v⟩ = { c with outletOverride := set 0 1 } ∧
    c.write ⟨33, 0, v⟩ = { c with holdAtStart := set 0 1 } ∧
    (∀ n : Nat, c.write ⟨34, 0, n⟩ = { c with alarmMask :=
      ⟨n.testBit 0, n.testBit 1, n.testBit 2, n.testBit 3, n.testBit 4, n.testBit 5, n.testBit 6, n.testBit 7,
        n.testBit 8, n.testBit 9⟩ }) ∧
    (∀ k x, ReportClass.ofCode k = some x →
      c.write ⟨35, k, 0⟩ = { c with modes := c.modes.set x .onChange } ∧
      c.write ⟨35, k, 1⟩ = { c with modes := c.modes.set x .periodic } ∧
      c.write ⟨35, k, 2⟩ = { c with modes := c.modes.set x .both } ∧
      c.write ⟨35, k, 3⟩ = { c with modes := c.modes.set x .polledOnly } ∧
      c.write ⟨36, k, v⟩ = { c with periods := c.periods.set x (w 1 3600) }) ∧
    c.writeAll [] = c ∧ ∀ x l, c.writeAll (x :: l) = (c.write x).writeAll l

/-- The changed fields of a SEGMENT CONFIG act in the same operation (10 R176, 01 R14, 03 R61, R63, 06 R112, 07 R127,
09 R168, R170; logs 29, 40, 45). -/
def Sys2Proof.Claim.ChangedFieldsTakeEffect : Prop :=
  ∀ (d : SegmentConfig) (s : State),
    let c := s.mgmt.config
    let e := s.configured (s.putConfig d)
    let unlocks := c.outletOverride = true ∧ d.outletOverride = false
    let loses := s.trunk.lost = false ∧ d.silenceLimit < c.silenceLimit ∧
      s.trunk.silenceFrom + d.silenceLimit * 1000 ≤ s.now
    let range := c.cacheLow ≠ d.cacheLow ∨ c.cacheHigh ≠ d.cacheHigh
    e.mgmt.config = d ∧ e.now = s.now ∧
    (c.tideStaleLimit = d.tideStaleLimit → e.berth = s.berth) ∧
    (c.tideStaleLimit ≠ d.tideStaleLimit → (e.berth.tideStale = true ↔ s.berth.tide = none ∨
      ∃ t, s.berth.tide = some t ∧ d.tideStaleLimit < (s.now - t.taken) / 1000)) ∧
    (∀ k f, s.outlet.feeders.get k = some f → e.outlet.feeders.get k = some { f with
      ring := if d.averagingDepth < c.averagingDepth then f.ring.drop (f.ring.length - d.averagingDepth) else f.ring }) ∧
    (unlocks → ∀ i o, e.outlet.outlets.get i = some o → o.lock = false) ∧
    (¬unlocks → e.charge = s.charge ∧
      (c.overcurrentRatio = d.overcurrentRatio → e.outlet.outlets = s.outlet.outlets ∧ e.tap = s.tap)) ∧
    (range → e.gate.cache = s.gate.cache.filter fun p =>
      decide (d.cacheLow ≤ p.2.tag * 256 + p.1 ∧ p.2.tag * 256 + p.1 ≤ d.cacheHigh)) ∧
    (¬range → e.gate.cache = s.gate.cache) ∧
    (¬loses → (c.pumpConcurrency < d.pumpConcurrency → e.fuel.fifo = [] ∨ d.pumpConcurrency ≤ e.running) ∧
      (d.pumpConcurrency ≤ c.pumpConcurrency → e.fuel = s.fuel)) ∧
    (c.alarmMask ≠ d.alarmMask → ∀ r, s.source ⟨.alarm, 0⟩ = some r →
      ∃ q, e.source ⟨.alarm, 0⟩ = some q ∧ q.mark = true) ∧
    (loses → e.trunk.lost = true ∧ e.gate.queries = []) ∧
    (¬loses → e.trunk.lost = s.trunk.lost ∧ e.gate.queries = s.gate.queries ∧
      ∀ k r, s.trunk.sources.get k = some r → ∃ q, e.trunk.sources.get k = some q ∧
        q.image = r.image ∧ q.periodic = r.periodic ∧
        let x := (sourceOfKey k).cls
        (timed d x = false → q.timerEnd = none) ∧
        (timed d x = true → timed c x = false ∨ r.timerEnd ≠ none ∧ c.periods.get x ≠ d.periods.get x →
          q.timerEnd = some (s.now + d.periods.get x * 1000)) ∧
        (timed d x = true → timed c x = true → r.timerEnd = none ∨ c.periods.get x = d.periods.get x →
          q.timerEnd = r.timerEnd)) ∧
    (d = c → e = { s with trunk := { s.trunk with sources := e.trunk.sources } })

/-- SEGMENT CONFIG writes and clamps its fields and has their effects, or is refused OUT_OF_RANGE (field codes: logs
6, 7, 40, 45) -/
def Obligations.SegmentConfigIsClampedStoredOrRefused : Prop :=
  Claim.SegmentConfigIsStoredOrRefused ∧ Claim.ConfigFieldsAreWritten ∧ Claim.ChangedFieldsTakeEffect

/-- TIME sets the segment clock (10 R178). -/
def Sys2Proof.Claim.TimeSetsTheSegmentClock : Prop :=
  ∀ (c : Clock) (fr : IntakeFrame) (s : State), takes (.time (.fields c)) fr s →
    let u := s.taken fr
    let t : State := { u with mgmt := { u.mgmt with clock := c, timeValid := true, secondStart := s.now } }
    exec (.time (.fields c)) s =
      done fr (.accepted [] (.time s.mgmt.clock s.mgmt.timeValid))
        (if s.mgmt.timeValid then t else t.markStatus).noShowAll

/-- The second tick (10 R178, 01 R12; the reference clock at it by log 1, the test of the bookings by log 12). -/
def Sys2Proof.Claim.SecondTickAdvancesAValidClock : Prop :=
  ∀ s : State, s.active = true →
    let t : State := { s with
      now := max s.now (s.mgmt.secondStart + 1000)
      mgmt := { s.mgmt with secondStart := s.mgmt.secondStart + 1000 } }
    (s.mgmt.timeValid = true →
      exec .secondTick s = acted (State.noShowAll { t with mgmt := { t.mgmt with clock := s.mgmt.clock + 1 } })) ∧
    (s.mgmt.timeValid = false → exec .secondTick s = acted t)

/-- TIME sets the clock and tests the bookings; the second tick advances a valid clock (reference clock: log 1; log
12) -/
def Obligations.ClockIsSetAndAdvances : Prop :=
  Claim.TimeSetsTheSegmentClock ∧ Claim.SecondTickAdvancesAValidClock

/-- RESTART ends sessions, sales, queries and the freeze (10 R180, R181, 03 R72, 05 R103, 06 R125, 09 R172; orders by
logs 37, 43). -/
def Sys2Proof.Claim.RestartEndsWhatIsInProgress : Prop :=
  ∀ (fr : IntakeFrame) (s : State), takes (.restart (.fields ())) fr s → s.charge.office.any OfficeOp.isRestart = false →
    ∃ t, exec (.restart (.fields ())) s = .next t ∧
      t.mgmt.config = s.mgmt.config ∧ t.mgmt.clock = s.mgmt.clock ∧ t.mgmt.timeValid = s.mgmt.timeValid ∧
      t.bus.exchange = none ∧ t.bus.cycle = Cycle.start ∧ t.fuel.fifo = [] ∧ t.gate.queries = [] ∧
      t.gate.cache = s.gate.cache ∧ t.gate.journal = s.gate.journal ∧ t.tally.freeze = none ∧ t.outlet.queue = [] ∧
      t.outlet.serviceHold = s.mgmt.config.holdAtStart ∧ t.berth.tide = s.berth.tide ∧ t.tally.period = s.tally.period ∧
      (∀ e ∈ t.trunk.own, e.frame.isReport = false) ∧ (∀ p ∈ t.bus.devices, p.2.state = .unpolled) ∧
      (∀ p ∈ t.outlet.outlets, p.2.state ≠ .live ∧ p.2.state ≠ .ready ∧ ∀ b, p.2.state ≠ .waiting b) ∧
      (∀ p ∈ t.outlet.feeders, p.2.ring = [] ∧ p.2.congested = false) ∧
      (∀ i o, s.outlet.outlets.get i = some o → ∃ p, t.outlet.outlets.get i = some p ∧ p.session = none ∧
        (o.session ≠ none → ∃ e ∈ t.charge.power, e.source = i ∧ e.closing ≠ none)) ∧
      (∀ i q, s.tap.taps.get i = some q → ∃ p, t.tap.taps.get i = some p ∧
        (q.state = .opened → p.state = .closed ∧ p.reason = .restart ∧ p.session = none ∧
          (q.session ≠ none → ∃ e ∈ t.charge.water, e.source = i ∧ e.closing ≠ none)) ∧
        (q.state = .closed → p.state = .closed ∧ p.session = q.session) ∧
        (q.state = .locked → p.state = if q.outOfService then .locked else .closed)) ∧
      (∀ i d, s.fuel.dispensers.get i = some d → ∃ v, t.fuel.dispensers.get i = some v ∧
        (d.state = .cardWait → v.state = .idle ∧ v.card = none) ∧
        (∀ x, d.state = .holding ∨ d.state = .waitPump → d.sale = some x →
          (x.account = none ∨ x.hold = 0 → v.state = .idle ∧ v.sale = none) ∧
          (∀ n, x.account = some n → x.hold ≠ 0 → v.state = .cancelling ∧ v.sale = some x ∧
            .restartStep ⟨i, n, .release x.hold⟩ ∈ t.charge.office)) ∧
        (∀ x, d.state = .authorised ∨ d.state = .delivering → d.sale = some x →
          (x.account = none → v.state = .idle ∧
            ∃ y ∈ t.fuel.sales, y.dispenser = x.dispenser ∧ y.volume = x.volume ∧ y.incomplete = true) ∧
          (∀ n, x.account = some n → v.state = .settling ∧ ∃ y c, v.sale = some y ∧ y.volume = x.volume ∧
            y.incomplete = true ∧ y.amount = some c ∧ .restartStep ⟨i, n, .settle x.hold c⟩ ∈ t.charge.office))) ∧
      (∀ i b, s.berth.berths.get i = some b → t.berth.berths.get i = some { b with reason := .restarted }) ∧
      (∀ k r, t.trunk.sources.get k = some r →
        r.mark = true ∧ r.image = none ∧ r.timerEnd = s.freshTimer (sourceOfKey k).cls)

namespace Sys2Proof.Claim

/-- Two tables hold records under the same keys, related key by key. -/
def keptTable {α : Type} (r : α → α → Prop) (t u : Table α) : Prop := ∀ k, Option.Rel r (t.get k) (u.get k)

/-- What RESTART keeps of an outlet (03 R72, 04 R91). -/
def outletKept (o p : Outlet) : Prop :=
  p.address = o.address ∧ p.side = o.side ∧ p.rating = o.rating ∧ p.feeder = o.feeder ∧ p.lock = o.lock ∧
    p.readback = o.readback ∧ p.current = o.current ∧ p.plug = .unknown ∧
    p.reservation = (if o.readback = .closed then o.reservation else none) ∧ p.ends = o.ends ∧
    p.endsDropped = o.endsDropped ∧ p.fault.trips = o.fault.trips ∧ p.fault.last = o.fault.last ∧
    p.fault.latches = { KindMap.all false with earthLeak := o.fault.latches.earthLeak } ∧
    (o.state = .outOfService → p.state = .outOfService)

/-- What RESTART keeps of a tap (05 R103, 04 R91). -/
def tapKept (q p : Tap) : Prop :=
  p.address = q.address ∧ p.side = q.side ∧ p.outOfService = q.outOfService ∧ p.ends = q.ends ∧
    p.endsDropped = q.endsDropped ∧ p.fault.trips = q.fault.trips ∧ p.fault.last = q.fault.last ∧
    (∀ k, k ≠ .earthLeak → p.fault.latches.get k = false) ∧ p.readback = .unknown

/-- What RESTART keeps of a poll list entry (08 R160). -/
def deviceKept (d e : Device) : Prop :=
  e.kind = d.kind ∧ e.pollClass = d.pollClass ∧ e.watch = d.watch ∧ e.index = d.index ∧ e.sequence = d.sequence ∧
    e.lastTransmitted = d.lastTransmitted ∧ e.misses = 0 ∧ e.stored = none ∧ e.lastSent = none

end Sys2Proof.Claim

/-- What RESTART keeps of the tables (10 R181, 02 R47, 03 R72, 04 R91, 05 R103, 06 R125, 07 R143, 08 R160, 09 R172, 11
R188). -/
def Sys2Proof.Claim.RestartKeepsTheTables : Prop :=
  ∀ (fr : IntakeFrame) (s : State), takes (.restart (.fields ())) fr s → s.charge.office.any OfficeOp.isRestart = false →
    ∃ t, exec (.restart (.fields ())) s = .next t ∧
      t.charge.accounts = s.charge.accounts ∧ t.charge.tariff = s.charge.tariff ∧
      t.charge.lastGranted = s.charge.lastGranted ∧ t.outlet.protection = s.outlet.protection ∧
      t.tap.waterSuspend = s.tap.waterSuspend ∧
      t.trunk = { s.trunk with intake := none, own := t.trunk.own, sources := t.trunk.sources } ∧
      keptTable outletKept s.outlet.outlets t.outlet.outlets ∧ keptTable tapKept s.tap.taps t.tap.taps ∧
      keptTable (fun f g : Feeder => g = { f with ring := [], lastSum := none, congested := false })
        s.outlet.feeders t.outlet.feeders ∧
      keptTable deviceKept s.bus.devices t.bus.devices ∧
      keptTable (fun d e : Dispenser => e.address = d.address ∧ e.hose0 = d.hose0 ∧ e.hose1 = d.hose1 ∧
        e.total0 = d.total0 ∧ e.total1 = d.total1 ∧ e.nozzle = .unknown ∧ e.volume = 0 ∧ e.nozzleEnd = none)
        s.fuel.dispensers t.fuel.dispensers ∧
      keptTable (fun r v : Reader => v = { r with door := .unknown, windowEnd := none, unlock := none })
        s.gate.readers t.gate.readers ∧
      t.gate.gap = s.gate.gap ∧ t.fuel.tank0.cutoff = s.fuel.tank0.cutoff ∧ t.fuel.tank1.cutoff = s.fuel.tank1.cutoff ∧
      (∀ e ∈ s.fuel.sales, e ∈ t.fuel.sales) ∧ t.tally.live.energy = s.tally.live.energy ∧
      t.tally.live.litres = s.tally.live.litres ∧ t.tally.live.totaliser = s.tally.live.totaliser ∧
      t.tally.live.chargedPower = s.tally.live.chargedPower ∧ t.tally.live.chargedWater = s.tally.live.chargedWater ∧
      t.tally.live.chargedFuel0 = s.tally.live.chargedFuel0 ∧ t.tally.live.chargedFuel1 = s.tally.live.chargedFuel1 ∧
      ((∀ i d, s.fuel.dispensers.get i = some d → d.state ≠ .authorised ∧ d.state ≠ .delivering) →
        t.tally.live = s.tally.live ∧ t.fuel.tank0 = s.fuel.tank0 ∧ t.fuel.tank1 = s.fuel.tank1 ∧
        t.fuel.sales = s.fuel.sales ∧ t.fuel.counter = s.fuel.counter)

/-- RESTART is refused BUSY while steps of an earlier one wait (10 R180). -/
def Sys2Proof.Claim.RestartIsRefusedWhileItsStepsWait : Prop :=
  ∀ (fr : IntakeFrame) (s : State), takes (.restart (.fields ())) fr s → s.charge.office.any OfficeOp.isRestart = true →
    exec (.restart (.fields ())) s = done fr (.refused .busy) (s.taken fr)

/-- RESTART ends sessions, sales, queries and reports, keeps the tables field by field, and is refused BUSY while its
steps wait (logs 37, 43) -/
def Obligations.RestartEndsWhatIsInProgress : Prop :=
  Claim.RestartEndsWhatIsInProgress ∧ Claim.RestartKeepsTheTables ∧ Claim.RestartIsRefusedWhileItsStepsWait

/-! ## Berths and tide (chapter 1) -/

namespace Sys2Proof.Claim

/-- The fields a BERTH LOAD gives with every one in its range (01 R2, Table 1.9). -/
def berthRange (f : BerthLoad) (cls : BerthClass) (service : Option SideRef) : Prop :=
  1 ≤ f.index ∧ f.index ≤ 48 ∧ f.cls = .known cls ∧ 30 ≤ f.maxLength ∧ f.maxLength ≤ 600 ∧ 10 ≤ f.maxBeam ∧
    f.maxBeam ≤ 150 ∧ f.depth ≤ 1500 ∧
    (f.service = none ∧ service = none ∨ ∃ x side, f.service = some x ∧ x.side = .known side ∧ 1 ≤ x.address ∧
      x.address ≤ 126 ∧ service = some ⟨x.address, side⟩)

end Sys2Proof.Claim

/-- BERTH LOAD loads a berth CLOSED, replaces the fields of a loaded one, or is refused EXISTS or WRONG_STATE -/
def Obligations.BerthLoadStoresABerth : Prop :=
  ∀ (f : BerthLoad) (fr : IntakeFrame) (s : State), takes (.berthLoad (.fields f)) fr s →
    let u := s.taken fr
    let refused (c : ReasonCode) : Prop := exec (.berthLoad (.fields f)) s = done fr (.refused c) u
    ((∀ cls service, ¬berthRange f cls service) → refused .outOfRange) ∧
    (∀ cls service, berthRange f cls service →
      let named := ∃ p ∈ s.berth.berths, p.1 ≠ f.index ∧ service ≠ none ∧ p.2.service = service
      let loads (b : Berth) : Prop := exec (.berthLoad (.fields f)) s =
        done fr (.accepted [] (.berthLoaded f.index b.state))
          (((u.setBerth f.index b).createSource .berth f.index).mark .berth f.index)
      (named → refused .exists) ∧
      (¬named → s.berth.berths.get f.index = none →
        loads ⟨f.label, cls, f.maxLength, f.maxBeam, f.depth, service, .closed, none, none, none, none, .loaded⟩) ∧
      (∀ b, ¬named → s.berth.berths.get f.index = some b →
        let busy := (b.state = .offered ∨ b.state = .held ∨ b.state = .occupied) ∧ (b.cls ≠ cls ∨ b.service ≠ service)
        (busy → refused .wrongState) ∧
        (¬busy → loads { b with
          label := f.label, cls := cls, maxLength := f.maxLength, maxBeam := f.maxBeam, depth := f.depth
          service := service, reason := .loaded })))

/-- BERTH READ returns every field of the entry, and changes no state -/
def Obligations.BerthReadReturnsTheBerth : Prop :=
  ∀ (i : Nat) (fr : IntakeFrame) (s : State), takes (.berthRead (.fields i)) fr s →
    (¬(1 ≤ i ∧ i ≤ 48) → exec (.berthRead (.fields i)) s = done fr (.refused .outOfRange) (s.taken fr)) ∧
    (1 ≤ i ∧ i ≤ 48 → s.berth.berths.get i = none →
      exec (.berthRead (.fields i)) s = done fr (.refused .notFound) (s.taken fr)) ∧
    (∀ b, 1 ≤ i ∧ i ≤ 48 → s.berth.berths.get i = some b →
      exec (.berthRead (.fields i)) s =
        done fr (.accepted [] (.berth i ⟨b.label, b.cls, b.maxLength, b.maxBeam, b.depth, b.service, b.state, b.account,
          b.vessel, b.offerEnd.map fun e => (e - s.now + 999) / 1000, b.expiry, b.reason⟩)) (s.taken fr))

/-- OPEN BERTH and CLOSE BERTH in every state (01 R5, R6). -/
def Sys2Proof.Claim.OpenAndCloseBerth : Prop :=
  ∀ (i : Nat) (b : Berth) (fr : IntakeFrame) (s : State), 1 ≤ i → i ≤ 48 → s.berth.berths.get i = some b →
    let u := s.taken fr
    (takes (.openBerth (.fields i)) fr s →
      (b.state = .closed → exec (.openBerth (.fields i)) s = done fr (.accepted [] (.berthState i b.label .free))
        ((u.setBerth i { b with state := .free, reason := .opened }).mark .berth i)) ∧
      (b.state = .free → exec (.openBerth (.fields i)) s = done fr (.accepted [] (.berthState i b.label .free)) u) ∧
      (b.state.engaged = true → exec (.openBerth (.fields i)) s = done fr (.refused .wrongState) u)) ∧
    (takes (.closeBerth (.fields i)) fr s →
      (b.state = .free → exec (.closeBerth (.fields i)) s = done fr (.accepted [] (.berthState i b.label .closed))
        ((u.setBerth i { b with state := .closed, reason := .closed }).mark .berth i)) ∧
      (b.state = .closed → exec (.closeBerth (.fields i)) s = done fr (.accepted [] (.berthState i b.label .closed)) u) ∧
      (b.state.engaged = true → exec (.closeBerth (.fields i)) s = done fr (.refused .wrongState) u))

/-- The berth commands name a loaded berth (01 R4). -/
def Sys2Proof.Claim.BerthCommandsNameALoadedBerth : Prop :=
  ∀ (c : Instr) (i : Nat) (fr : IntakeFrame) (s : State), berthCommand c = some i → takes c fr s →
    (¬(1 ≤ i ∧ i ≤ 48) → exec c s = done fr (.refused .outOfRange) (s.taken fr)) ∧
    (1 ≤ i → i ≤ 48 → s.berth.berths.get i = none → exec c s = done fr (.refused .notFound) (s.taken fr))

/-- BOOK takes a FREE berth to HELD (01 R7). -/
def Sys2Proof.Claim.BookHoldsAFreeBerth : Prop :=
  ∀ (f : Book) (fr : IntakeFrame) (s : State), takes (.book (.fields f)) fr s →
    let u := s.taken fr
    (f.account = none ∨ f.vessel = none ∨ f.arriveBy = none ∨ ¬(1 ≤ f.index ∧ f.index ≤ 48) →
      exec (.book (.fields f)) s = done fr (.refused .outOfRange) u) ∧
    (∀ n v t, f.account = some n → f.vessel = some v → f.arriveBy = some t → 1 ≤ f.index → f.index ≤ 48 →
      (accountOk n = false ∨ vesselOk v = false → exec (.book (.fields f)) s = done fr (.refused .outOfRange) u) ∧
      (accountOk n = true → vesselOk v = true →
        (s.berth.berths.get f.index = none → exec (.book (.fields f)) s = done fr (.refused .notFound) u) ∧
        (∀ b, s.berth.berths.get f.index = some b →
          (b.state ≠ .free → exec (.book (.fields f)) s = done fr (.refused .wrongState) u) ∧
          (b.state = .free → s.account n = none → exec (.book (.fields f)) s = done fr (.refused .notFound) u) ∧
          (b.state = .free → s.account n ≠ none →
            exec (.book (.fields f)) s = done fr (.accepted [] (.berthState f.index b.label .held))
              ((u.setBerth f.index { b with
                state := .held, account := some n, vessel := some v, reason := .booked
                expiry := some (BitVec.ofNat 32 (min (t.toNat + s.mgmt.config.noShowGrace) 4294967295)) }).mark
                .berth f.index)))))

/-- CONFIRM takes a berth to OCCUPIED (01 R8). -/
def Sys2Proof.Claim.ConfirmOccupiesABerth : Prop :=
  ∀ (f : Confirm) (fr : IntakeFrame) (s : State), takes (.confirm (.fields f)) fr s →
    let u := s.taken fr
    let ok := optOk accountOk f.account && optOk vesselOk f.vessel
    (ok = false ∨ ¬(1 ≤ f.index ∧ f.index ≤ 48) → exec (.confirm (.fields f)) s = done fr (.refused .outOfRange) u) ∧
    (ok = true → 1 ≤ f.index → f.index ≤ 48 → s.berth.berths.get f.index = none →
      exec (.confirm (.fields f)) s = done fr (.refused .notFound) u) ∧
    (∀ b, ok = true → 1 ≤ f.index → f.index ≤ 48 → s.berth.berths.get f.index = some b →
      let b' : Berth := { b with
        state := .occupied, account := f.account.or b.account, vessel := f.vessel.or b.vessel, offerEnd := none
        expiry := none, reason := .confirmed }
      let t := (u.setBerth f.index b').mark .berth f.index
      (b.state = .closed ∨ b.state = .occupied → exec (.confirm (.fields f)) s = done fr (.refused .wrongState) u) ∧
      (b.state = .free → f.account = none ∨ f.vessel = none →
        exec (.confirm (.fields f)) s = done fr (.refused .outOfRange) u) ∧
      (b.state = .free ∧ f.account ≠ none ∧ f.vessel ≠ none ∨ b.state = .offered ∨ b.state = .held →
        (b'.account.bind s.account = none → exec (.confirm (.fields f)) s = done fr (.refused .notFound) u) ∧
        (b'.account.bind s.account ≠ none → b.service = none →
          exec (.confirm (.fields f)) s = done fr (.accepted [] (.berthState f.index b.label .occupied)) t) ∧
        (∀ r, b'.account.bind s.account ≠ none → b.service = some r →
          exec (.confirm (.fields f)) s =
            done fr (.accepted [] (.berthState f.index b.label .occupied)) (t.evalSide r .depart))))

/-- BOOK holds a FREE berth with its no-show expiry; CONFIRM occupies a FREE, OFFERED or HELD berth -/
def Obligations.BerthsAreBookedAndConfirmed : Prop :=
  Claim.BookHoldsAFreeBerth ∧ Claim.ConfirmOccupiesABerth

/-- DECLINE and DEPART free a berth (01 R9, R10). -/
def Sys2Proof.Claim.DeclineAndDepartFreeABerth : Prop :=
  ∀ (i : Nat) (b : Berth) (fr : IntakeFrame) (s : State), 1 ≤ i → i ≤ 48 → s.berth.berths.get i = some b →
    let u := s.taken fr
    let freed (r : BerthReason) : State :=
      (u.setBerth i { b with
        state := .free, account := none, vessel := none, offerEnd := none, expiry := none, reason := r }).mark .berth i
    (takes (.decline (.fields i)) fr s →
      (b.state = .offered ∨ b.state = .held →
        exec (.decline (.fields i)) s = done fr (.accepted [] (.berthState i b.label .free)) (freed .declined)) ∧
      (b.state ≠ .offered → b.state ≠ .held → exec (.decline (.fields i)) s = done fr (.refused .wrongState) u)) ∧
    (takes (.depart (.fields i)) fr s →
      (b.state = .occupied → b.service = none →
        exec (.depart (.fields i)) s = done fr (.accepted [] (.berthState i b.label .free)) (freed .departed)) ∧
      (∀ r, b.state = .occupied → b.service = some r →
        exec (.depart (.fields i)) s = done fr (.accepted [] (.berthState i b.label .free))
          (((freed .departed).cutSide r .depart).flushAttempts)) ∧
      (b.state ≠ .occupied → exec (.depart (.fields i)) s = done fr (.refused .wrongState) u))

/-- OPEN BERTH, CLOSE BERTH, DECLINE and DEPART in every state of the berth -/
def Obligations.BerthsAreOpenedClosedAndFreed : Prop :=
  Claim.OpenAndCloseBerth ∧ Claim.BerthCommandsNameALoadedBerth ∧ Claim.DeclineAndDepartFreeABerth

/-- The offer timer and the no-show test of one berth (01 R11, R12; the clock at an expiry by log 1). -/
def Sys2Proof.Claim.OffersAndBookingsLapse : Prop :=
  ∀ (i : Nat) (b : Berth) (s : State), s.active = true → s.berth.berths.get i = some b →
    let freed (r : BerthReason) : Berth :=
      { b with state := .free, account := none, vessel := none, offerEnd := none, expiry := none, reason := r }
    (∀ e, b.state = .offered → b.offerEnd = some e →
      exec (.offerTimerExpiry i) s =
        acted ((State.setBerth i (freed .expired) { s with now := max s.now e }).mark .berth i)) ∧
    (∀ e, b.state = .held → b.expiry = some e → s.mgmt.timeValid = true → e < s.mgmt.clock →
      exec (.noShowExpiry i) s = acted ((s.setBerth i (freed .noShow)).mark .berth i)) ∧
    (∀ e, b.state = .held → b.expiry = some e → s.mgmt.timeValid = false ∨ s.mgmt.clock ≤ e →
      exec (.noShowExpiry i) s = acted s)

/-- The no-show test over the berth table (01 R12; log 12). -/
def Sys2Proof.Claim.NoShowTestFreesEveryLapsedBooking : Prop :=
  ∀ (s : State) (i : Nat) (b : Berth), s.berth.berths.get i = some b →
    s.noShowAll.berth.berths.get i =
      if b.state = .held ∧ s.mgmt.timeValid = true ∧ (∃ e, b.expiry = some e ∧ e < s.mgmt.clock) then
        some { b with
          state := .free, account := none, vessel := none, offerEnd := none, expiry := none, reason := .noShow }
      else some b

/-- Offers expire by their timer (reference clock at an expiry: log 1), bookings by the no-show test (log 12) -/
def Obligations.OffersAndBookingsLapse : Prop :=
  Claim.OffersAndBookingsLapse ∧ Claim.NoShowTestFreesEveryLapsedBooking

/-- TIDE stores the record with its heights clamped; it goes stale past its limit (ages in whole seconds: log 31;
clock at expiry: log 1) -/
def Obligations.TideIsStoredAndAges : Prop :=
  (∀ (f : TideFields) (fr : IntakeFrame) (s : State), takes (.tide (.fields f)) fr s →
    let u := s.taken fr
    let c := max (-300) (min f.current 1200)
    let l := max (-300) (min f.low 1200)
    let receipt := if s.mgmt.timeValid then some s.mgmt.clock else none
    exec (.tide (.fields f)) s =
      done fr (.accepted (flagIf (decide (c ≠ f.current ∨ l ≠ f.low)) .clamped) .none)
        (State.testTide { u with berth := { u.berth with tide := some ⟨c, l, f.lowTime, receipt, s.now⟩ } }).markStatus) ∧
  (∀ s : State, s.testTide.berth.tideStale = s.tideIsStale ∧
    (s.tideIsStale = true ↔ s.berth.tide = none ∨
      ∃ t, s.berth.tide = some t ∧ s.mgmt.config.tideStaleLimit < (s.now - t.taken) / 1000)) ∧
  (∀ (s : State) (t : Tide), s.active = true → s.berth.tide = some t → s.berth.tideStale = false →
    exec .tideStaleExpiry s =
      acted (State.testTide { s with now := max s.now (t.taken + (s.mgmt.config.tideStaleLimit + 1) * 1000) }))

/-- ALLOCATE offers the chosen berth, or is refused (01 R15, R20; the staleness tested before NO_FIT by log 40). -/
def Sys2Proof.Claim.AllocateOffersTheChosenBerth : Prop :=
  ∀ (f : Allocate) (fr : IntakeFrame) (s : State), takes (.allocate (.fields f)) fr s →
    let u := s.taken fr
    (accountOk f.account = false ∨ vesselOk f.vessel = false ∨ f.classMask = some .unlisted →
      exec (.allocate (.fields f)) s = done fr (.refused .outOfRange) u) ∧
    (∀ mask, f.classMask = none ∧ mask = [.visitor] ∨ f.classMask = some (.known mask) →
      accountOk f.account = true → vesselOk f.vessel = true →
      (s.account f.account = none → exec (.allocate (.fields f)) s = done fr (.refused .notFound) u) ∧
      (s.account f.account ≠ none →
        (u.testTide.chooseBerth f mask = none → exec (.allocate (.fields f)) s = done fr (.refused .noFit) u.testTide) ∧
        (∀ i b powerless, u.testTide.chooseBerth f mask = some ((i, b), powerless) →
          exec (.allocate (.fields f)) s =
            done fr (.accepted (flagIf u.testTide.tideIsStale .tideStale ++ flagIf powerless .powerUnavailable)
              (.allocated i b.label (4 * (b.maxLength - f.vessel.loa) + (b.maxBeam - f.vessel.beam))
                u.testTide.usableTide))
              ((u.testTide.setBerth i { b with
                state := .offered, account := some f.account, vessel := some f.vessel, reason := .offered
                offerEnd := some (s.now + s.mgmt.config.offerTime * 1000) }).mark .berth i))))

/-- The chosen berth fits, has power as R18 and R19 ask, and wastes least (01 R17 to R19). -/
def Sys2Proof.Claim.ChosenBerthHasLeastWaste : Prop :=
  ∀ (s : State) (f : Allocate) (mask : List BerthClass) (i : Nat) (b : Berth) (powerless : Bool),
    s.chooseBerth f mask = some ((i, b), powerless) →
    (i, b) ∈ s.berth.berths ∧ s.berthFits f.vessel mask b = true ∧
    (f.vessel.power ≠ 0 → powerless = false → s.powerCapable f.vessel b = true) ∧
    (powerless = true → f.acceptNoPower = true ∧
      ∀ p ∈ s.berth.berths, s.berthFits f.vessel mask p.2 = true → s.powerCapable f.vessel p.2 = false) ∧
    (∀ p ∈ s.berth.berths, s.berthFits f.vessel mask p.2 = true →
      (f.vessel.power ≠ 0 ∧ powerless = false → s.powerCapable f.vessel p.2 = true) →
      waste f.vessel b ≤ waste f.vessel p.2)

/-- A berth is found exactly where one may be offered, and of equal waste the one of lower index (01 R17 to R19). -/
def Sys2Proof.Claim.AllocateFindsABerth : Prop :=
  ∀ (f : Allocate) (mask : List BerthClass) (s : State),
    let fits (p : Nat × Berth) : Prop := p ∈ s.berth.berths ∧ s.berthFits f.vessel mask p.2 = true
    let capable (p : Nat × Berth) : Prop := fits p ∧ s.powerCapable f.vessel p.2 = true
    let wanted (p : Nat × Berth) : Prop :=
      f.vessel.power = 0 ∧ fits p ∨ f.vessel.power ≠ 0 ∧ capable p ∨
        f.vessel.power ≠ 0 ∧ (∀ q, ¬capable q) ∧ f.acceptNoPower = true ∧ fits p
    (s.chooseBerth f mask = none ↔ ∀ p, ¬wanted p) ∧
    (∀ i b powerless, s.chooseBerth f mask = some ((i, b), powerless) → wanted (i, b) ∧
      (powerless = true ↔ f.vessel.power ≠ 0 ∧ ∀ q, ¬capable q) ∧
      (s.Ordered → ∀ p, wanted p → waste f.vessel b < waste f.vessel p.2 ∨
        waste f.vessel b = waste f.vessel p.2 ∧ i ≤ p.1))

/-- What fits, the waste, what is power-capable, and the usable tide (01 R16 to R19). -/
def Sys2Proof.Claim.FitPowerAndUsableTide : Prop :=
  ∀ (v : Vessel) (b : Berth) (s : State),
    (∀ mask, s.berthFits v mask b = true ↔ b.state = .free ∧ b.cls ∈ mask ∧ v.loa ≤ b.maxLength ∧ v.beam ≤ b.maxBeam ∧
      (s.mgmt.config.keelClearance : Int) ≤ b.depth + s.usableTide - v.draft) ∧
    waste v b = 4 * (b.maxLength - v.loa) + (b.maxBeam - v.beam) ∧
    (s.powerCapable v b = true ↔ ∃ r i o f, b.service = some r ∧ s.outletOfSide r = some (i, o) ∧
      s.outlet.feeders.get o.feeder = some f ∧ v.power * 10 ≤ o.rating ∧ o.state ≠ .outOfService ∧
      s.reservedSum o.feeder + (o.rating * f.diversity + 99) / 100 ≤ f.capacity) ∧
    (∀ r i o, s.Ordered → (s.outletOfSide r = some (i, o) →
      s.outlet.outlets.get i = some o ∧ o.address = r.address ∧ o.side = r.side)) ∧
    (s.tideIsStale = true → s.usableTide = s.mgmt.config.tideFloor) ∧
    (∀ t, s.tideIsStale = false → s.berth.tide = some t → s.usableTide = min t.current t.low)

/-- ALLOCATE offers the fitting berth of least waste, power-capable where power is asked, or is refused (NO_FIT's
state: log 40) -/
def Obligations.AllocateOffersTheBerthOfLeastWaste : Prop :=
  Claim.AllocateOffersTheChosenBerth ∧ Claim.ChosenBerthHasLeastWaste ∧ Claim.AllocateFindsABerth ∧
    Claim.FitPowerAndUsableTide

/-! ## Accounts and the charge engine (chapter 2) -/

namespace Sys2Proof.Claim

/-- An account number (00 Table 1.5). -/
def accountRange (n : Nat) : Prop := 1 ≤ n ∧ n ≤ 16777215

/-- The range of a balance, an opening balance and a top-up (02 Table 2.1, R31, R32). -/
def balanceRange (x : Int) : Prop := -99999999 ≤ x ∧ x ≤ 99999999

/-- The range of a warning level (02 Table 2.1). -/
def warningRange (x : Int) : Prop := -9999999 ≤ x ∧ x ≤ 9999999

/-- The operation a frame hands to the OFFICE requester, and the ranges its fields are checked against first. -/
def officeWork : Instr → Option (OfficeOp × Prop)
  | .accountLoad (.fields f) => some (.accountLoad f,
    accountRange f.number ∧ f.cls ≤ 3 ∧ f.priority ≤ 3 ∧ balanceRange f.opening ∧ f.overdraft ≤ 9999999 ∧
      warningRange f.warning)
  | .accountUpdate (.fields f) => some (.accountUpdate f,
    accountRange f.number ∧ (∀ x, f.cls = some x → x ≤ 3) ∧ (∀ x, f.priority = some x → x ≤ 3) ∧
      (∀ x, f.overdraft = some x → x ≤ 9999999) ∧ ∀ x, f.warning = some x → warningRange x)
  | .topUp (.fields f) => some (.topUp f, accountRange f.number ∧ balanceRange f.amount)
  | .accountRemove (.fields n) => some (.accountRemove n, accountRange n)
  | .tariffLoad (.fields f) => some (.tariffLoad f,
    f.cls ≤ 3 ∧ f.power ≤ 65535 ∧ f.water ≤ 65535 ∧ f.fuel0 ≤ 65535 ∧ f.fuel1 ≤ 65535)
  | .freeze (.fields _) => some (.freeze, True)
  | .closePeriod (.fields _) => some (.closePeriod, True)
  | _ => none

/-- The arbiter grants OFFICE, whose oldest work is an operation, in an active part. -/
def officeTurn (op : OfficeOp) (rest : List OfficeOp) (s : State) : Prop :=
  s.active = true ∧ s.charge.nextGrant = some .office ∧ s.charge.office = op :: rest

/-- The state in which OFFICE serves its work: the work has left the requester, which is now the one last granted. -/
def served (rest : List OfficeOp) (s : State) : State :=
  { s with charge := { s.charge with office := rest, lastGranted := .office } }

/-- What keeps an account in the table (02 R33). -/
def usedBy (s : State) (n : Nat) (a : Account) : Prop :=
  (∃ p ∈ s.berth.berths, p.2.state.engaged = true ∧ p.2.account = some n) ∨
  (∃ p ∈ s.outlet.outlets, ∃ x, p.2.session = some x ∧ x.account = n) ∨
  (∃ p ∈ s.tap.taps, ∃ x, p.2.session = some x ∧ x.account = n) ∨
  (∃ p ∈ s.fuel.dispensers, ∃ x, p.2.sale = some x ∧ x.account = some n) ∨
  (∃ e ∈ s.charge.power, e.account = n) ∨ (∃ e ∈ s.charge.water, e.account = n) ∨
  (∃ p ∈ s.outlet.outlets, ∃ w ∈ p.2.waiting, w.account = n) ∨ (∃ p ∈ s.tap.taps, ∃ w ∈ p.2.waiting, w.account = n) ∨
  a.held ≠ 0 ∨ a.power ≠ 0 ∨ a.water ≠ 0 ∨ a.fuel ≠ 0

/-- The command that serves a metered service. -/
def postingOf : Service → Instr
  | .power => .powerPosting
  | .water => .waterPosting

/-- An account record debited c credit units for a metered service, its standing derived again (02 R27, R32, R38). -/
def debited (v : Service) (n c : Nat) (a : Account) : Account :=
  if c = 0 then a else { a.charge v n c with standing := (a.charge v n c).derive }

/-- The account table after an operation that changes one record. -/
def onlyAccount (n : Nat) (r : Option Account) (s t : State) : Prop :=
  t.account n = r ∧ ∀ m, m ≠ n → t.account m = s.account m

/-- A side belongs to a berth that is OCCUPIED by an account (02 R28). -/
def occupies (s : State) (n : Nat) (r : SideRef) : Prop :=
  ∃ j b, s.berthOfSide r = some (j, b) ∧ b.state = .occupied ∧ b.account = some n

/-- An outlet is in READY, WAITING or LIVE. -/
def serving (x : OutletState) : Prop := x = .ready ∨ (∃ w, x = .waiting w) ∨ x = .live

end Sys2Proof.Claim

/-- The account, tariff, freeze and close frames are range-checked and handed to the OFFICE requester -/
def Obligations.AccountWorkIsHandedToOffice : Prop :=
  ∀ (c : Instr) (op : OfficeOp) (inRange : Prop) (fr : IntakeFrame) (s : State), officeWork c = some (op, inRange) →
    takes c fr s →
    let u := s.taken fr
    (inRange → exec c s = acted { u with
      charge := { u.charge with office := u.charge.office ++ [op] }, mgmt := { u.mgmt with work := .office fr } }) ∧
    (¬inRange → exec c s = done fr (.refused .outOfRange) u)

/-- ACCOUNT READ, direct and walking, returns a record or is refused, and changes no state -/
def Obligations.AccountReadReturnsTheRecord : Prop :=
  ∀ (f : AccountRead) (fr : IntakeFrame) (s : State), takes (.accountRead (.fields f)) fr s →
    let u := s.taken fr
    let answers (n : Nat) (a : Account) : Prop :=
      exec (.accountRead (.fields f)) s = done fr (.accepted [] (.account n a (s.noticePending n))) u
    (16777215 < f.number → exec (.accountRead (.fields f)) s = done fr (.refused .outOfRange) u) ∧
    (f.number ≤ 16777215 → f.walk = false →
      (∀ a, s.account f.number = some a → answers f.number a) ∧
      (s.account f.number = none → exec (.accountRead (.fields f)) s = done fr (.refused .notFound) u)) ∧
    (f.number ≤ 16777215 → f.walk = true → s.Ordered →
      (∀ n a, f.number < n → s.account n = some a → (∀ m, f.number < m → m < n → s.account m = none) → answers n a) ∧
      ((∀ m, f.number < m → s.account m = none) →
        exec (.accountRead (.fields f)) s = done fr (.refused .notFound) u))

/-- An ACCOUNT LOAD or ACCOUNT REMOVE the arbiter serves adds or removes the record, or is refused -/
def Obligations.AccountLoadAndRemoveAreServed : Prop :=
  ∀ (fr : IntakeFrame) (s : State), s.mgmt.work = .office fr →
    (∀ (f : AccountLoad) (rest : List OfficeOp), officeTurn (.accountLoad f) rest s →
      let g := served rest s
      let a : Account := ⟨f.cls, f.priority, f.opening, f.overdraft, f.warning, 0, f.suspend.getD false, false, .good,
        f.opening, 0, 0, 0, 0⟩
      (s.account f.number ≠ none → exec .officeOperation s = done fr (.refused .exists) g) ∧
      (s.account f.number = none → 128 ≤ s.charge.accounts.length →
        exec .officeOperation s = done fr (.refused .tableFull) g) ∧
      (s.account f.number = none → s.charge.accounts.length < 128 →
        exec .officeOperation s =
          done fr (.accepted [] (.accountLoaded f.number a.derive
              ((s.charge.accounts.filter fun p => decide (p.1 < f.number)).length + 1)))
            (((g.setAccount f.number { a with standing := a.derive }).createSource .account f.number).mark .account
              f.number))) ∧
    (∀ (n : Nat) (rest : List OfficeOp), officeTurn (.accountRemove n) rest s →
      let g := served rest s
      (s.account n = none → exec .officeOperation s = done fr (.refused .notFound) g) ∧
      (∀ a, s.account n = some a → usedBy s n a → exec .officeOperation s = done fr (.refused .inUse) g) ∧
      (∀ a, s.account n = some a → ¬usedBy s n a →
        exec .officeOperation s = done fr (.accepted [] .none)
          (State.removeSource .account n { g with charge := { g.charge with accounts := s.charge.accounts.erase n } })))

/-- ACCOUNT UPDATE served (02 R30). -/
def Sys2Proof.Claim.AccountUpdateIsServed : Prop :=
  ∀ (f : AccountUpdate) (rest : List OfficeOp) (fr : IntakeFrame) (s : State), officeTurn (.accountUpdate f) rest s →
    s.mgmt.work = .office fr →
    let g := served rest s
    (s.account f.number = none → exec .officeOperation s = done fr (.refused .notFound) g) ∧
    (∀ a, s.account f.number = some a →
      let b : Account := { a with
        cls := f.cls.getD a.cls, priority := f.priority.getD a.priority, overdraft := f.overdraft.getD a.overdraft
        warning := f.warning.getD a.warning, suspend := f.suspend.getD a.suspend }
      ∃ e : State, exec .officeOperation s = done fr (.accepted [] (.standing b.derive)) e ∧
        onlyAccount f.number (some { b with standing := b.derive }) s e ∧
        e.mgmt = s.mgmt ∧ e.berth = s.berth ∧ e.fuel = s.fuel ∧ e.gate = s.gate ∧ e.tally = s.tally ∧
        e.charge.tariff = s.charge.tariff ∧ e.charge.office = rest ∧
        (b.derive = a.standing → b.priority = a.priority →
          e = State.flushAttempts (State.setAccount f.number { b with standing := b.derive }
            (if b = a then g else g.mark .account f.number))) ∧
        (b.priority = a.priority →
          e = State.flushAttempts (State.restand f.number b (if b = a then g else g.mark .account f.number))))

/-- TOP UP served (02 R31, R32). -/
def Sys2Proof.Claim.TopUpIsServed : Prop :=
  ∀ (f : TopUp) (rest : List OfficeOp) (fr : IntakeFrame) (s : State), officeTurn (.topUp f) rest s →
    s.mgmt.work = .office fr →
    let g := served rest s
    (s.account f.number = none → exec .officeOperation s = done fr (.refused .notFound) g) ∧
    (∀ a, s.account f.number = some a →
      let sum := a.topUps + f.amount
      let exact := a.balance + f.amount
      let balance := max (-99999999) (min exact 99999999)
      let b : Account := { a with
        topUps := sum, balance := balance, saturated := a.saturated || decide (balance ≠ exact) }
      (sum < -140737488355328 ∨ 140737488355328 < sum →
        exec .officeOperation s = done fr (.refused .outOfRange) g) ∧
      (-140737488355328 ≤ sum → sum ≤ 140737488355328 →
        ∃ e : State, exec .officeOperation s =
            done fr (.accepted (flagIf (decide (balance ≠ exact)) .saturated) (.toppedUp balance b.derive)) e ∧
          onlyAccount f.number (some { b with standing := b.derive }) s e ∧
          e.mgmt = s.mgmt ∧ e.berth = s.berth ∧ e.fuel = s.fuel ∧ e.gate = s.gate ∧ e.tally = s.tally ∧
          e.charge.tariff = s.charge.tariff ∧ e.charge.office = rest ∧
          (b.derive = a.standing → e = State.setAccount f.number { b with standing := b.derive }
            (if balance = a.balance then g else g.mark .account f.number)) ∧
          e = State.restand f.number b (if balance = a.balance then g else g.mark .account f.number)))

/-- What a standing transition does to the outlets and taps of the berths an account occupies (02 R27 to R29; the
order of several berths by log 50). -/
def Sys2Proof.Claim.StandingTransitionsReachTheServices : Prop :=
  (∀ (n : Nat) (a : Account) (s : State),
    let x := s.setAccount n { a with standing := a.derive }
    (a.derive = a.standing → s.restand n a = x) ∧
    (a.derive ≠ a.standing → s.restand n a = (x.mark .account n).passStanding n a.standing a.derive)) ∧
  (∀ (n : Nat) (a : Account) (was : Standing) (s : State), s.Ordered → s.account n = some a →
    let serves (x : Standing) : Prop := x = .good ∨ x = .low
    let t := s.passStanding n was a.standing
    let reason : Reason := if a.standing = .suspended then .suspended else .credit
    (serves was → ¬serves a.standing → ∀ r, occupies s n r →
      (∀ i o, s.outletOfSide r = some (i, o) → serving o.state → (∀ k, o.fault.latches.get k = false) →
        ∃ p, t.outlet.outlets.get i = some p ∧ p.state = .off ∧ p.reason = reason ∧ p.session = none) ∧
      (∀ i q, s.tapOfSide r = some (i, q) → q.state = .opened →
        ∃ p, t.tap.taps.get i = some p ∧ p.state = .closed ∧ p.reason = reason ∧ p.session = none)) ∧
    (¬serves was → serves a.standing → t.tap = s.tap ∧ ∀ r, occupies s n r → ∀ i o, s.outletOfSide r = some (i, o) →
      o.state = .off → s.outletEligible o = true → ∃ p, t.outlet.outlets.get i = some p ∧ serving p.state) ∧
    (serves was → serves a.standing → t = { s with bus := { s.bus with devices := t.bus.devices } } ∧
      ∀ r, occupies s n r → ∀ i o d, s.outletOfSide r = some (i, o) → o.state = .live →
        s.bus.devices.get o.address = some d →
        ∃ d', t.bus.devices.get o.address = some d' ∧ d'.desired = s.imageOf o.address) ∧
    (¬serves was → ¬serves a.standing → t = s))

/-- A served ACCOUNT UPDATE or TOP UP changes one record; its standing is derived again and reaches outlets and taps
(log 50) -/
def Obligations.AccountUpdateAndTopUpAreServed : Prop :=
  Claim.AccountUpdateIsServed ∧ Claim.TopUpIsServed ∧ Claim.StandingTransitionsReachTheServices

/-- TARIFF LOAD and FREEZE served (02 R34, 11 R184). -/
def Sys2Proof.Claim.TariffAndFreezeAreServed : Prop :=
  ∀ (fr : IntakeFrame) (s : State), s.mgmt.work = .office fr →
    (∀ (f : TariffLoad) (rest : List OfficeOp), officeTurn (.tariffLoad f) rest s →
      let g := served rest s
      let row : TariffRow := ⟨f.power, f.water, f.fuel0, f.fuel1⟩
      exec .officeOperation s = done fr (.accepted [] .none)
        { g with charge := { g.charge with tariff := s.charge.tariff.set f.cls row } }) ∧
    (∀ rest : List OfficeOp, officeTurn .freeze rest s →
      let g := served rest s
      let moment := if s.mgmt.timeValid then some s.mgmt.clock else none
      let copy : Freeze := ⟨moment, s.tally.live, s.fuel.tank0.level, s.fuel.tank1.level,
        s.charge.accounts.map fun p => ⟨p.1, p.2.balance, p.2.power, p.2.water, p.2.fuel⟩,
        s.now + s.mgmt.config.freezeRelease * 1000⟩
      (∀ f, s.tally.freeze = some f → exec .officeOperation s =
        done fr (.accepted [.alreadyFrozen] (.frozen s.tally.period f.moment)) g) ∧
      (s.tally.freeze = none → exec .officeOperation s = done fr (.accepted [] (.frozen s.tally.period moment))
        (State.markStatus { g with tally := { g.tally with freeze := some copy } })))

/-- CLOSE PERIOD served (11 R187). -/
def Sys2Proof.Claim.ClosePeriodIsServed : Prop :=
  ∀ (rest : List OfficeOp) (fr : IntakeFrame) (s : State), officeTurn .closePeriod rest s → s.mgmt.work = .office fr →
    (s.tally.freeze = none → exec .officeOperation s = done fr (.refused .notFrozen) (served rest s)) ∧
    (∀ f, s.tally.freeze = some f →
      let z := f.tallies
      let l := s.tally.live
      ∃ e : State, exec .officeOperation s = done fr (.accepted [] (.closed (s.tally.period + 1))) e ∧
        e.tally = ⟨{ l with
            cashVolume0 := l.cashVolume0 - z.cashVolume0, cashVolume1 := l.cashVolume1 - z.cashVolume1
            cashAmount0 := l.cashAmount0 - z.cashAmount0, cashAmount1 := l.cashAmount1 - z.cashAmount1
            chargedPower := l.chargedPower - z.chargedPower, chargedWater := l.chargedWater - z.chargedWater
            chargedFuel0 := l.chargedFuel0 - z.chargedFuel0, chargedFuel1 := l.chargedFuel1 - z.chargedFuel1 },
          none, some .close, s.tally.period + 1⟩ ∧
        (∀ n, e.account n = (s.account n).map fun a =>
          (f.accounts.filter fun x => decide (x.number = n)).foldl (fun (a : Account) (x : FrozenAccount) => { a with
            power := a.power - x.power, water := a.water - x.water, fuel := a.fuel - x.fuel }) a) ∧
        e = { served rest s with
          tally := e.tally, charge := { s.charge with
            accounts := e.charge.accounts, office := rest, lastGranted := .office }
          trunk := { s.trunk with sources := e.trunk.sources } })

/-- A TARIFF LOAD, FREEZE or CLOSE PERIOD the arbiter serves -/
def Obligations.TariffFreezeAndCloseAreServed : Prop :=
  Claim.TariffAndFreezeAreServed ∧ Claim.ClosePeriodIsServed

/-- The arbiter grants in cyclic order (02 R35); a step of a requester not granted changes nothing (log 2). -/
def Sys2Proof.Claim.ArbiterGrantsInCyclicOrder : Prop :=
  (∀ (c : ChargeEngine) (a : ArbiterClass), c.nextGrant = some a ↔
    ∃ k, k < 4 ∧ a = Nat.iterate ArbiterClass.next (k + 1) c.lastGranted ∧ c.hasWork a = true ∧
      ∀ j, j < k → c.hasWork (Nat.iterate ArbiterClass.next (j + 1) c.lastGranted) = false) ∧
  (∀ c : ChargeEngine, c.nextGrant = none ↔ c.power = [] ∧ c.water = [] ∧ c.fuel = [] ∧ c.office = []) ∧
  (ArbiterClass.next .power = .water ∧ ArbiterClass.next .water = .fuel ∧ ArbiterClass.next .fuel = .office ∧
    ArbiterClass.next .office = .power) ∧
  (∀ s : State, s.active = true →
    (s.charge.nextGrant ≠ some .power → exec .powerPosting s = acted s) ∧
    (s.charge.nextGrant ≠ some .water → exec .waterPosting s = acted s) ∧
    (s.charge.nextGrant ≠ some .fuel →
      exec .holdServed s = acted s ∧ exec .releaseServed s = acted s ∧ exec .settleServed s = acted s) ∧
    (s.charge.nextGrant ≠ some .office → exec .officeOperation s = acted s))

/-- Standing, saturation and period totals (02 R27, R32, R40; log 19). -/
def Sys2Proof.Claim.StandingAndSaturation : Prop :=
  (∀ a : Account, a.derive =
    if a.suspend = true then .suspended
    else if a.balance < -(a.overdraft : Int) then .stopped
    else if a.balance < a.warning then .low else .good) ∧
  (∀ b x : Int, (saturate b x).1 = max (-99999999) (min (b + x) 99999999) ∧
    ((saturate b x).2 = true ↔ b + x < -99999999 ∨ 99999999 < b + x)) ∧
  (∀ (v : Service) (n c : Nat) (a : Account),
    (a.charge v n c).balance = max (-99999999) (min (a.balance - c) 99999999) ∧
    ((a.charge v n c).saturated = true ↔
      a.saturated = true ∨ a.balance - c < -99999999 ∨ 99999999 < a.balance - (c : Int)) ∧
    (v = .power → a.power + c ≤ 281474976710655 →
      (a.charge v n c).power = a.power + c ∧ (a.charge v n c).water = a.water) ∧
    (v = .water → a.water + c ≤ 281474976710655 →
      (a.charge v n c).water = a.water + c ∧ (a.charge v n c).power = a.power) ∧
    (a.charge v n c).fuel = a.fuel ∧ (a.charge v n c).held = a.held ∧
    a.power ≤ (a.charge v n c).power ∧ a.water ≤ (a.charge v n c).water ∧
    (a.power ≤ 281474976710655 → (a.charge v n c).power ≤ 281474976710655) ∧
    (a.water ≤ 281474976710655 → (a.charge v n c).water ≤ 281474976710655))

/-- The charge arbiter grants in cyclic order (out of turn: log 2); standing, saturation and period totals (log 19) -/
def Obligations.ArbiterGrantsInOrderAndStandingIsDerived : Prop :=
  Claim.ArbiterGrantsInCyclicOrder ∧ Claim.StandingAndSaturation

/-- An open posting entry is debited (02 R38). -/
def Sys2Proof.Claim.OpenPostingIsDebited : Prop :=
  ∀ (v : Service) (e : Posting) (l : List Posting) (x : Session) (a : Account) (s : State), s.active = true →
    s.charge.nextGrant = some v.requester → s.slots v = e :: l → e.closing = none →
    s.sourceSession v e.source = some x → s.account e.account = some a →
    let total := x.residual + e.quantity * (s.tariffRow a.cls).metered v
    let c := total / 1000
    ∃ t : State, exec (postingOf v) s = .next t ∧
      onlyAccount e.account (some (debited v e.account c a)) s t ∧
      t.charge.lastGranted = v.requester ∧ t.berth = s.berth ∧ t.fuel = s.fuel ∧
      t.tally = { s.tally with live := if c = 0 then s.tally.live else s.tally.live.charge v c } ∧
      ((debited v e.account c a).standing = a.standing → s.waitingOf v e.source = [] →
        t.sourceSession v e.source = some { x with
          residual := total % 1000, charged := x.charged + c, unposted := 0 } ∧
        t.slots v = (l.filter fun p => decide (p.source ≠ e.source)) ++
          (if x.unposted = 0 then [] else [⟨e.source, x.account, x.unposted, none⟩]))

/-- A closing posting entry is debited and rounded (02 R39). -/
def Sys2Proof.Claim.ClosingPostingIsRounded : Prop :=
  ∀ (v : Service) (e : Posting) (z : Closing) (l : List Posting) (a : Account) (s : State), s.active = true →
    s.charge.nextGrant = some v.requester → s.slots v = e :: l → e.closing = some z → s.account e.account = some a →
    let total := z.carried + e.quantity * (s.tariffRow a.cls).metered v
    let c := total / 1000
    let r := if 500 ≤ total % 1000 then 1 else 0
    let b := debited v e.account r (debited v e.account c a)
    let record : EndRecord := { z.record with charged := z.record.charged + c + r }
    ∃ t : State, exec (postingOf v) s = .next t ∧ onlyAccount e.account (some b) s t ∧
      t.charge.lastGranted = v.requester ∧ t.berth = s.berth ∧ t.fuel = s.fuel ∧
      ((debited v e.account c a).standing = a.standing → b.standing = a.standing → s.waitingOf v e.source = [] →
        s.sourceSession v e.source = none →
        t.slots v = l.filter (fun p => decide (p.source ≠ e.source)) ∧
        (∀ o, v = .power → s.outlet.outlets.get e.source = some o → t.outlet.outlets.get e.source = some { o with
          ends := if o.ends.length < 4 then o.ends ++ [record] else o.ends.tail ++ [record]
          endsDropped := if o.ends.length < 4 then o.endsDropped else true }) ∧
        (∀ o, v = .water → s.tap.taps.get e.source = some o → t.tap.taps.get e.source = some { o with
          ends := if o.ends.length < 4 then o.ends ++ [record] else o.ends.tail ++ [record]
          endsDropped := if o.ends.length < 4 then o.endsDropped else true }))

/-- A POWER or WATER posting the arbiter serves debits its account exactly; a closing one rounds and completes its end
record -/
def Obligations.MeteredPostingsAreDebited : Prop :=
  Claim.OpenPostingIsDebited ∧ Claim.ClosingPostingIsRounded

/-- A HOLD request served (02 R41). -/
def Sys2Proof.Claim.FuelHoldIsServed : Prop :=
  ∀ (r : FuelRequest) (h : Nat) (l : List FuelRequest) (a : Account) (d : Dispenser) (x : Sale) (s : State),
    s.active = true → s.charge.nextGrant = some .fuel → s.charge.fuel = r :: l → r.ask = .hold h →
    s.account r.account = some a → s.fuel.dispensers.get r.dispenser = some d → d.sale = some x →
    ((h : Int) ≤ a.balance + a.overdraft - a.held → ∃ t : State, exec .holdServed s = .next t ∧
      onlyAccount r.account (some { a with held := a.held + h, standing := a.derive }) s t ∧
      t.charge.lastGranted = .fuel ∧
      ∃ d', t.fuel.dispensers.get r.dispenser = some d' ∧ d'.sale = some { x with hold := h } ∧
        (d'.state = .waitPump ∨ d'.state = .authorised)) ∧
    (a.balance + a.overdraft - a.held < (h : Int) → ∃ t : State, exec .holdServed s = .next t ∧
      t.charge.accounts = s.charge.accounts ∧ t.fuel.sales = s.fuel.sales ∧ r.dispenser ∉ t.fuel.fifo ∧
      (x.hold = 0 → t.fuel.dispensers.get r.dispenser = some d.idled))

/-- RELEASE and SETTLE requests served (02 R40, R41, R43; a total past its range by log 19). -/
def Sys2Proof.Claim.FuelReleaseAndSettleAreServed : Prop :=
  ∀ (r : FuelRequest) (l : List FuelRequest) (a : Account) (d : Dispenser) (x : Sale) (s : State),
    s.active = true → s.charge.nextGrant = some .fuel → s.charge.fuel = r :: l → s.account r.account = some a →
    s.fuel.dispensers.get r.dispenser = some d → d.sale = some x →
    (∀ h, r.ask = .release h → ∃ t : State, exec .releaseServed s = .next t ∧
      onlyAccount r.account (some { a with held := a.held - h, standing := a.derive }) s t ∧
      t.fuel = { s.fuel with dispensers := s.fuel.dispensers.set r.dispenser d.idled } ∧
      t.charge.fuel = l ∧ t.tally = s.tally) ∧
    (∀ h c, r.ask = .settle h c → ∃ t : State, exec .settleServed s = .next t ∧
      (∃ b, onlyAccount r.account (some b) s t ∧ b.held = a.held - h ∧ b.standing = b.derive ∧
        b.balance = max (-99999999) (min (a.balance - c) 99999999) ∧
        (a.fuel + c ≤ 281474976710655 → b.fuel = a.fuel + c) ∧ a.fuel ≤ b.fuel ∧
        (a.fuel ≤ 281474976710655 → b.fuel ≤ 281474976710655)) ∧
      t.fuel = { s.fuel with
        dispensers := s.fuel.dispensers.set r.dispenser d.idled
        sales := s.fuel.sales ++ [{ x with number := some (s.fuel.counter + 1), hold := 0 }]
        counter := s.fuel.counter + 1, newest := some (s.fuel.counter + 1) } ∧
      t.charge.fuel = l ∧
      (x.grade = 0 → t.tally.live.chargedFuel0 = min (s.tally.live.chargedFuel0 + c) 281474976710655) ∧
      (x.grade ≠ 0 → t.tally.live.chargedFuel1 = min (s.tally.live.chargedFuel1 + c) 281474976710655))

/-- HOLD, RELEASE and SETTLE requests the arbiter serves -/
def Obligations.FuelRequestsAreServed : Prop :=
  Claim.FuelHoldIsServed ∧ Claim.FuelReleaseAndSettleAreServed

/-! ## Outlets and feeders (chapter 3) -/

namespace Sys2Proof.Claim

/-- The ranges of OUTLET LOAD (03 R49). -/
def outletRange (f : OutletLoad) : Prop :=
  1 ≤ f.index ∧ f.index ≤ 48 ∧ 1 ≤ f.address ∧ f.address ≤ 126 ∧ (f.rating = 100 ∨ f.rating = 160 ∨ f.rating = 320) ∧
    f.feeder ≤ 3

/-- An outlet not loaded before, as OUTLET LOAD makes it (03 R49). -/
def newOutlet (f : OutletLoad) (side : Side) : Outlet :=
  { address := f.address, side := side, rating := f.rating, feeder := f.feeder, state := .off, reason := .loaded
    lock := false, plug := .unknown, readback := .unknown, current := 0, leakA := false, leakB := false
    breaker := false, reservation := none, session := none, waiting := [], ends := [], endsDropped := false
    fault := ⟨KindMap.all false, KindMap.all none, [], none, 0, none, 0, false, none, false⟩ }

/-- The account of a berth of a side is served there: the berth is OCCUPIED by an account whose standing is GOOD or LOW
(03 R52, 05 R94). -/
def servedSide (s : State) (r : SideRef) : Prop :=
  ∃ i b n a, s.berthOfSide r = some (i, b) ∧ b.state = .occupied ∧ b.account = some n ∧ s.account n = some a ∧
    (a.standing = .good ∨ a.standing = .low)

/-- A pedestal is on the poll list, ONLINE or MISSING (03 R52, 05 R94). -/
def pedestalOn (s : State) (address : Nat) : Prop :=
  ∃ d, s.bus.devices.get address = some d ∧ d.kind = .pedestal ∧ (d.state = .online ∨ d.state = .missing)

/-- The range of FEEDER LOAD (03 R50, Table 3.3). -/
def feederRange (f : FeederLoad) : Prop :=
  f.index ≤ 3 ∧ f.capacity ≤ 4000 ∧ 10 ≤ f.diversity ∧ f.diversity ≤ 100 ∧ 1 ≤ f.shed ∧ f.shed ≤ 4000 ∧
    f.restore ≤ 3999 ∧ f.restore < f.shed

/-- One admission queue entry goes before another: higher priority, then shed before new, then earlier moment, then lower
outlet index (03 R58). -/
def goesBefore (a b : QueueEntry) : Prop :=
  b.priority < a.priority ∨ a.priority = b.priority ∧ (a.shed = true ∧ b.shed = false ∨ a.shed = b.shed ∧
    (a.moment < b.moment ∨ a.moment = b.moment ∧ a.outlet < b.outlet))

/-- An entry has taken its place in the admission queue: before the first entry it goes before (03 R58). -/
def placed (e : QueueEntry) (was now : List QueueEntry) : Prop :=
  ∃ a b, was = a ++ b ∧ now = a ++ e :: b ∧ (∀ x ∈ a, ¬goesBefore e x) ∧ ∀ x l, b = x :: l → goesBefore e x

/-- The head of a feeder's queue: the first entry whose outlet's record names the feeder (03 R58, R59). -/
def queueHead (s : State) (f : Nat) (e : QueueEntry) (o : Outlet) : Prop :=
  ∃ a b, s.outlet.queue = a ++ e :: b ∧ s.outlet.outlets.get e.outlet = some o ∧ o.feeder = f ∧
    ∀ x ∈ a, ∀ p, s.outlet.outlets.get x.outlet = some p → p.feeder ≠ f

/-- An outlet's figure fits its feeder: the reserved sum R is at the capacity or below, R less the outlet's own trailing
reservation there plus the figure is too, and the feeder is not congested (03 R51, R55, R59). -/
def hasRoom (s : State) (o : Outlet) (f : Feeder) : Prop :=
  s.reservedSum o.feeder ≤ f.capacity ∧
    s.reservedSum o.feeder - reservedOn o.feeder o.reservation + (o.rating * f.diversity + 99) / 100 ≤ f.capacity ∧
    f.congested = false

/-- The head of a feeder's queue may be admitted, for an account (03 R59). -/
def headFits (s : State) (f : Nat) (e : QueueEntry) (o : Outlet) (fd : Feeder) (n : Nat) : Prop :=
  queueHead s f e o ∧ s.outlet.feeders.get f = some fd ∧ s.berthAccount o.ref = some n ∧ hasRoom s o fd

/-- The outlet of an index is as given, and every other outlet as before. -/
def onlyOutlet (i : Nat) (o : Outlet) (s t : State) : Prop :=
  t.outlet.outlets.get i = some o ∧ ∀ j, j ≠ i → t.outlet.outlets.get j = s.outlet.outlets.get j

end Sys2Proof.Claim

/-- OUTLET LOAD loads an outlet OFF or replaces a loaded one's fields, then evaluates it, or is refused (what a move
keeps: log 46) -/
def Obligations.OutletLoadIsCheckedAndStored : Prop :=
  ∀ (f : OutletLoad) (fr : IntakeFrame) (s : State), takes (.outletLoad (.fields f)) fr s →
    let u := s.taken fr
    let loaded (x : State) : Prop :=
      let e := u.recoveryEdges ((x.mark .outlet f.index).evalAndFlush f.index .lock)
      ∃ p, e.outlet.outlets.get f.index = some p ∧
        exec (.outletLoad (.fields f)) s = done fr (.accepted [] (.outletState f.index p.state)) e
    (f.side = .unlisted ∨ ¬outletRange f → exec (.outletLoad (.fields f)) s = done fr (.refused .outOfRange) u) ∧
    (∀ side, f.side = .known side → outletRange f →
      let other := ∃ p ∈ s.outlet.outlets, p.1 ≠ f.index ∧ p.2.address = f.address ∧ p.2.side = side
      (s.outlet.feeders.get f.feeder = none → exec (.outletLoad (.fields f)) s = done fr (.refused .notFound) u) ∧
      (s.outlet.feeders.get f.feeder ≠ none → other →
        exec (.outletLoad (.fields f)) s = done fr (.refused .exists) u) ∧
      (s.outlet.feeders.get f.feeder ≠ none → ¬other →
        (s.outlet.outlets.get f.index = none →
          loaded (((u.setOutlet f.index (newOutlet f side)).createSource .outlet f.index).writeImage f.address)) ∧
        (∀ o, s.outlet.outlets.get f.index = some o →
          (o.address ≠ f.address ∨ o.side ≠ side → o.state ≠ .off ∨ o.reservation ≠ none →
            exec (.outletLoad (.fields f)) s = done fr (.refused .inUse) u) ∧
          (o.address = f.address ∧ o.side = side ∨ o.state = .off ∧ o.reservation = none →
            loaded (u.reloadOutlet o f side) ∧
            let moved := decide (o.address ≠ f.address ∨ o.side ≠ side)
            (u.reloadOutlet o f side).outlet.outlets.get f.index = some { o with
              address := f.address, side := side, rating := f.rating, feeder := f.feeder
              plug := if moved then .unknown else o.plug, readback := if moved then .unknown else o.readback }))))

/-- FEEDER LOAD (03 R50, R51). -/
def Sys2Proof.Claim.FeederLoadStoresAFeeder : Prop :=
  ∀ (f : FeederLoad) (fr : IntakeFrame) (s : State), takes (.feederLoad (.fields f)) fr s →
    let u := s.taken fr
    let new : Feeder := ⟨f.capacity, f.diversity, f.shed, f.restore, [], none, false, none⟩
    let answer (e : State) (congested : Bool) : Answer :=
      .accepted [] (.feeder f.index (e.reservedSum f.index) congested)
    (¬feederRange f → exec (.feederLoad (.fields f)) s = done fr (.refused .outOfRange) u) ∧
    (feederRange f → s.outlet.feeders.get f.index = none →
      let e := ((((u.setFeeder f.index new).createSource .feeder f.index).mark .feeder f.index).attempt
        f.index).flushAttempts
      exec (.feederLoad (.fields f)) s = done fr (answer e false) e ∧ e.outlet.feeders.get f.index = some new) ∧
    (∀ x, feederRange f → s.outlet.feeders.get f.index = some x →
      let y : Feeder := { x with
        capacity := f.capacity, diversity := f.diversity, shed := f.shed, restore := f.restore }
      let e := (((u.setFeeder f.index y).mark .feeder f.index).attempt f.index).flushAttempts
      exec (.feederLoad (.fields f)) s = done fr (answer e x.congested) e ∧ e.outlet.feeders.get f.index = some y)

/-- Eligibility of outlets and taps (03 R52, 05 R94). -/
def Sys2Proof.Claim.EligibilityOfOutletsAndTaps : Prop :=
  (∀ (s : State) (o : Outlet), s.outletEligible o = true ↔
    servedSide s o.ref ∧ (∀ k, o.fault.latches.get k = false) ∧ o.lock = false ∧ s.outlet.serviceHold = false ∧
      pedestalOn s o.address ∧ o.waiting.length < 4) ∧
  (∀ (s : State) (t : Tap), s.tapEligible t = true ↔
    servedSide s t.ref ∧ (∀ k, t.fault.latches.get k = false) ∧ t.outOfService = false ∧
      s.outlet.serviceHold = false ∧ s.tap.waterSuspend = false ∧ pedestalOn s t.address ∧ t.waiting.length < 4)

/-- The evaluation of an outlet (03 R53). -/
def Sys2Proof.Claim.EvaluationMovesAnOutlet : Prop :=
  ∀ (i : Nat) (reason : Reason) (o : Outlet) (s : State), s.outlet.outlets.get i = some o →
    let ready := State.writeImage o.address
      ((s.setOutlet i { o with state := .ready, reason := .eligible }).mark .outlet i)
    (s.outletEligible o = true → o.state ≠ .off → s.evalOutlet i reason = s) ∧
    (s.outletEligible o = true → o.state = .off → o.plug ≠ .present → s.evalOutlet i reason = ready) ∧
    (s.outletEligible o = true → o.state = .off → o.plug = .present → s.evalOutlet i reason = ready.admissionCheck i) ∧
    (s.outletEligible o = false → (o.state = .ready ∨ (∃ w, o.state = .waiting w) ∨ o.state = .live) →
      (∀ k, o.fault.latches.get k = false) → s.evalOutlet i reason = s.vacate i .off reason) ∧
    (s.outletEligible o = false → (o.state = .off ∨ o.state = .tripped ∨ o.state = .outOfService) →
      s.evalOutlet i reason = s)

/-- An admission check grants or queues at the place R58 gives (03 R51, R55, R56, R58). -/
def Sys2Proof.Claim.AdmissionGrantsOrQueues : Prop :=
  ∀ (i n : Nat) (o : Outlet) (f : Feeder) (s : State), s.outlet.outlets.get i = some o →
    s.outlet.feeders.get o.feeder = some f → s.berthAccount o.ref = some n →
    let figure := (o.rating * f.diversity + 99) / 100
    let room := hasRoom s o f
    let opened : Session := ⟨n, if s.mgmt.timeValid then some s.mgmt.clock else none, s.now, 0, 0, 0, 0⟩
    let t := s.admissionCheck i
    (room → (∀ e ∈ s.outlet.queue, ∀ p, s.outlet.outlets.get e.outlet = some p → p.feeder ≠ o.feeder) →
      onlyOutlet i { o with
        reservation := some ⟨figure, o.feeder⟩, state := .live, reason := .granted
        session := some ((o.session.map fun x => { x with moment := s.now }).getD opened) } s t ∧
      t.outlet.queue = s.outlet.queue.filter fun e => decide (e.outlet ≠ i)) ∧
    (¬room ∨ (∃ e ∈ s.outlet.queue, ∃ p, s.outlet.outlets.get e.outlet = some p ∧ p.feeder = o.feeder) →
      onlyOutlet i { o with state := .waiting false, reason := .queued } s t ∧
      placed ⟨i, false, s.priorityOf o.ref, s.now⟩ s.outlet.queue t.outlet.queue ∧
      o.feeder ∈ t.outlet.attempts) ∧
    (∀ d, s.bus.devices.get o.address = some d →
      ∃ d', t.bus.devices.get o.address = some d' ∧ d'.desired = t.imageOf o.address)

/-- Attempts admit the head of a feeder's queue while it fits, and what a grant does (03 R56, R59; when they are made
by log 18). -/
def Sys2Proof.Claim.AdmissionAttemptsAreMade : Prop :=
  (∀ s : State, s.flushAttempts.outlet.attempts = [] ∧ (s.outlet.attempts = [] → s.flushAttempts = s) ∧
    ∀ f rest, s.outlet.attempts = f :: rest →
      (∀ e o fd n, headFits s f e o fd n → s.flushAttempts =
        (s.grantOutlet e.outlet o ((o.rating * fd.diversity + 99) / 100) n).flushAttempts) ∧
      ((∀ e o fd n, ¬headFits s f e o fd n) →
        s.flushAttempts = State.flushAttempts { s with outlet := { s.outlet with attempts := rest } })) ∧
  (∀ (i figure n : Nat) (o : Outlet) (s : State), s.outlet.outlets.get i = some o →
    let t := s.grantOutlet i o figure n
    let opened : Session := ⟨n, if s.mgmt.timeValid then some s.mgmt.clock else none, s.now, 0, 0, 0, 0⟩
    onlyOutlet i { o with
      reservation := some ⟨figure, o.feeder⟩, state := .live, reason := .granted
      session := some ((o.session.map fun x => { x with moment := s.now }).getD opened) } s t ∧
    t.outlet.queue = (s.outlet.queue.filter fun e => decide (e.outlet ≠ i)) ∧ t.outlet.feeders = s.outlet.feeders ∧
    (∀ r, o.reservation = some r → r.feeder ≠ o.feeder → r.feeder ∈ t.outlet.attempts))

/-- Vacating ends service (03 R57, R66; the attempt it leaves by log 18). -/
def Sys2Proof.Claim.VacatingEndsService : Prop :=
  ∀ (i : Nat) (target : OutletState) (reason : Reason) (o : Outlet) (s : State), s.outlet.outlets.get i = some o →
    let t := s.vacate i target reason
    ∃ w : List WaitingClosing,
      onlyOutlet i { o with
        state := target, reason := reason, session := none, waiting := w
        reservation := if o.readback = .opened then none else o.reservation
        fault := { o.fault with overCount := 0 } } s t ∧
      (t.outlet.queue = s.outlet.queue.filter fun e => decide (e.outlet ≠ i)) ∧
      (o.session = none → w = o.waiting ∧ t.charge = s.charge) ∧
      (∀ x, o.session = some x →
        let z : Closing := ⟨x.residual, x.account, x.quantity, x.charged, reason, x.startTime,
          if s.mgmt.timeValid then some s.mgmt.clock else none⟩
        (findPosting i s.charge.power = none → w = o.waiting ∧
          t.charge.power = s.charge.power ++ [⟨i, x.account, x.unposted, some z⟩]) ∧
        (∀ e, findPosting i s.charge.power = some e → e.closing = none → w = o.waiting ∧
          t.charge.power = s.charge.power.map fun p => if p.source = i then { e with closing := some z } else p) ∧
        (∀ e y, findPosting i s.charge.power = some e → e.closing = some y → t.charge.power = s.charge.power ∧
          w = o.waiting ++ [⟨x.account, x.unposted, z⟩])) ∧
      (∀ r, o.readback = .opened → o.reservation = some r → r.feeder ∈ t.outlet.attempts)

/-- The admission check, the place in the queue, the attempts along it, and what vacating ends (attempts: log 18) -/
def Obligations.AdmissionGrantsAndVacatingEnds : Prop :=
  Claim.AdmissionGrantsOrQueues ∧ Claim.AdmissionAttemptsAreMade ∧ Claim.VacatingEndsService

/-- Plug events, the stored plug, and the release of a reservation (03 R54, R57, R69; 02 R37 by log 20). -/
def Sys2Proof.Claim.PlugEventsReachAnOutlet : Prop :=
  ∀ (i : Nat) (o : Outlet) (s : State), s.outlet.outlets.get i = some o →
    let here := s.storePlug i .present
    let gone := s.storePlug i .absent
    let draws := (∃ w, o.state = .waiting w) ∨ o.state = .live
    (∀ p : Plug, (o.plug = p → s.storePlug i p = s) ∧
      (o.plug ≠ p → s.storePlug i p = (s.setOutlet i { o with plug := p }).mark .outlet i)) ∧
    (o.state = .ready → s.plugEvent i true = (here.admissionCheck i).flushAttempts) ∧
    (o.state ≠ .ready → s.plugEvent i true = here) ∧
    (draws → s.plugEvent i false = ((gone.vacate i .ready .unplugged).checkClosings i).flushAttempts) ∧
    (¬draws → s.plugEvent i false = gone) ∧
    (o.state = .ready → 4 ≤ o.waiting.length →
      s.checkClosings i = s.vacate i .off (Config.closingsFullReason i s.now)) ∧
    (o.state ≠ .ready ∨ o.waiting.length < 4 → s.checkClosings i = s) ∧
    (o.reservation = none → s.releaseReservation i = s) ∧
    (∀ r, o.reservation = some r → s.releaseReservation i =
      (((s.setOutlet i { o with reservation := none }).mark .outlet i).mark .feeder r.feeder).attempt r.feeder)

/-- FEEDER LOAD stores a feeder and attempts its queue; eligibility, the evaluation of an outlet and plug events (logs
18, 20) -/
def Obligations.FeederLoadAndOutletEvaluation : Prop :=
  Claim.FeederLoadStoresAFeeder ∧ Claim.EligibilityOfOutletsAndTaps ∧ Claim.EvaluationMovesAnOutlet ∧
    Claim.PlugEventsReachAnOutlet

/-- A grant keeps the reserved sum within the capacity (03 R55, law L1). -/
def Sys2Proof.Claim.AdmissionKeepsReservedSumWithinCapacity : Prop :=
  ∀ (i n : Nat) (o : Outlet) (f : Feeder) (s : State), s.Ordered → s.outlet.outlets.get i = some o →
    s.fits f o = true → s.outlet.feeders.get o.feeder = some f →
    let t := s.grantOutlet i o ((o.rating * f.diversity + 99) / 100) n
    t.outlet.feeders = s.outlet.feeders ∧ t.reservedSum o.feeder ≤ f.capacity ∧
      ∀ g, g ≠ o.feeder → t.reservedSum g ≤ s.reservedSum g

/-- Which outlet is shed, and what the mean does where nothing is shed (03 R61, R62). -/
def Sys2Proof.Claim.SheddingTakesLowestPriorityFirst : Prop :=
  ∀ (f : Nat) (fd : Feeder) (s : State), s.outlet.feeders.get f = some fd →
    (∀ i p m, pickShed (s.shedCandidates f) = some (i, p, m) →
      (i, p, m) ∈ s.shedCandidates f ∧ ∀ c ∈ s.shedCandidates f,
        p < c.2.1 ∨ p = c.2.1 ∧ (c.2.2 < m ∨ c.2.2 = m ∧ c.1 ≤ i)) ∧
    (pickShed (s.shedCandidates f) = none ↔ s.shedCandidates f = []) ∧
    (∀ i p m, (i, p, m) ∈ s.shedCandidates f ↔ ∃ o, (i, o) ∈ s.outlet.outlets ∧ o.state = .live ∧
      o.reservation.map (·.feeder) = some f ∧ p = s.priorityOf o.ref ∧ m = (o.session.map (·.moment)).getD 0) ∧
    (fd.ring ≠ [] → fd.restore < fd.ring.sum / fd.ring.length → fd.ring.sum / fd.ring.length ≤ fd.shed →
      s.compareMean f = s) ∧
    (fd.ring ≠ [] → fd.shed < fd.ring.sum / fd.ring.length → s.shedCandidates f = [] →
      (s.compareMean f).outlet.feeders.get f = some { fd with congested := true }) ∧
    (fd.ring ≠ [] → fd.ring.sum / fd.ring.length ≤ fd.restore → fd.ring.sum / fd.ring.length ≤ fd.shed →
      (s.compareMean f).outlet.feeders.get f = some { fd with congested := false })

/-- What shedding does to the outlet, and the attempt at every round at or below the restore threshold (03 R57, R58,
R62; attempts by log 18). -/
def Sys2Proof.Claim.SheddingAndRestoring : Prop :=
  (∀ (i : Nat) (o : Outlet) (s : State), s.outlet.outlets.get i = some o →
    let t := s.shedOutlet i
    onlyOutlet i { o with
      state := .waiting true, reason := .shed, fault := { o.fault with overCount := 0 }
      reservation := if o.readback = .opened then none else o.reservation } s t ∧
    placed ⟨i, true, s.priorityOf o.ref, s.now⟩ s.outlet.queue t.outlet.queue ∧ t.charge = s.charge ∧
    o.feeder ∈ t.outlet.attempts) ∧
  (∀ (f : Nat) (fd : Feeder) (s : State), s.outlet.feeders.get f = some fd → fd.ring ≠ [] →
    let mean := fd.ring.sum / fd.ring.length
    let changes (v : State) (x : Feeder) : Prop :=
      v.outlet = { s.outlet with feeders := v.outlet.feeders } ∧ v.outlet.feeders.get f = some x ∧
      (∀ g, g ≠ f → v.outlet.feeders.get g = s.outlet.feeders.get g) ∧
      v = { s with outlet := v.outlet, trunk := { s.trunk with sources := v.trunk.sources } }
    (∀ i p m, fd.shed < mean → pickShed (s.shedCandidates f) = some (i, p, m) →
      (∃ v, s.compareMean f = (State.shedOutlet i v).flushAttempts ∧
        changes v { fd with congested := true, lastShed := some i }) ∧
      ∀ o, s.outlet.outlets.get i = some o → o.feeder = f → s.outlet.attempts = [] →
        ∃ q, (s.compareMean f).outlet.outlets.get i = some q ∧ q.state = .waiting true ∧ q.reason = .shed ∧
          q.session = o.session) ∧
    (mean ≤ fd.restore → mean ≤ fd.shed → ∃ v, s.compareMean f = (State.attempt f v).flushAttempts ∧
      changes v { fd with congested := false }))

/-- A grant keeps the reserved sum within capacity; a mean above the threshold sheds the lowest priority, latest
admitted first -/
def Obligations.ReservedSumHoldsAndSheddingOrder : Prop :=
  Claim.AdmissionKeepsReservedSumWithinCapacity ∧ Claim.SheddingTakesLowestPriorityFirst ∧
    Claim.SheddingAndRestoring

/-- FORCE OFF and RELEASE FORCE (03 R63). -/
def Sys2Proof.Claim.OfficeLocksAreSetAndReleased : Prop :=
  ∀ (lock : Bool) (i : Nat) (fr : IntakeFrame) (s : State),
    let c : Instr := if lock then .forceOff (.fields i) else .releaseForce (.fields i)
    takes c fr s →
    let u := s.taken fr
    (s.mgmt.config.outletOverride = false → exec c s = done fr (.refused .notPermitted) u) ∧
    (s.mgmt.config.outletOverride = true → ¬(1 ≤ i ∧ i ≤ 48) → exec c s = done fr (.refused .outOfRange) u) ∧
    (s.mgmt.config.outletOverride = true → 1 ≤ i → i ≤ 48 → s.outlet.outlets.get i = none →
      exec c s = done fr (.refused .notFound) u) ∧
    (∀ o, s.mgmt.config.outletOverride = true → 1 ≤ i → i ≤ 48 → s.outlet.outlets.get i = some o →
      let x := if o.lock = lock then u else (u.setOutlet i { o with lock := lock }).mark .outlet i
      let e := x.evalAndFlush i .lock
      ∃ p, e.outlet.outlets.get i = some p ∧ p.lock = lock ∧
        exec c s = done fr (.accepted [] (.outletLock i p.state lock)) e ∧
        (lock = true → (o.state = .ready ∨ (∃ w, o.state = .waiting w) ∨ o.state = .live) →
          (∀ k, o.fault.latches.get k = false) → p.state = .off ∧ p.reason = .lock ∧ p.session = none))

/-- SERVICE HOLD, SERVICE RELEASE, WATER SUSPEND and WATER RESUME (03 R64, 05 R101; the order of several ends by log
51). -/
def Sys2Proof.Claim.ServiceHoldAndWaterSuspend : Prop :=
  ∀ (fr : IntakeFrame) (s : State),
    let u := s.taken fr
    let held : State := { u with outlet := { u.outlet with serviceHold := true } }
    let freed : State := { u with outlet := { u.outlet with serviceHold := false } }
    let suspended (b : Bool) : State :=
      if s.tap.waterSuspend = b then u else State.markStatus { u with tap := { u.tap with waterSuspend := b } }
    let closes (reason : Reason) (e : State) : Prop := ∀ j t, s.tap.taps.get j = some t → t.state = .opened →
      ∃ p, e.tap.taps.get j = some p ∧ p.state = .closed ∧ p.reason = reason ∧ p.session = none
    (takes (.serviceHold (.fields ())) fr s →
      let e := held.holdOutlets.closeAllTaps .hold
      exec (.serviceHold (.fields ())) s = done fr (.accepted [] .none) e ∧ e.outlet.serviceHold = true ∧
      (∀ j o, s.outlet.outlets.get j = some o → o.state = .ready ∨ (∃ w, o.state = .waiting w) ∨ o.state = .live →
        ∃ p, e.outlet.outlets.get j = some p ∧ p.state = .off ∧ p.reason = .hold ∧ p.session = none) ∧
      closes .hold e) ∧
    (takes (.serviceRelease (.fields ())) fr s →
      (s.outlet.serviceHold = true → exec (.serviceRelease (.fields ())) s = done fr (.accepted [] .none)
        (s.outlet.outlets.keys.foldl (fun x i => x.evalAndFlush i .hold) freed)) ∧
      (s.outlet.serviceHold = false → exec (.serviceRelease (.fields ())) s = done fr (.accepted [] .none) u)) ∧
    (takes (.waterSuspend (.fields ())) fr s →
      let e := (suspended true).closeAllTaps .waterSuspend
      exec (.waterSuspend (.fields ())) s = done fr (.accepted [] (.waterSuspend true s.openTaps.length)) e ∧
      e.tap.waterSuspend = true ∧ closes .waterSuspend e) ∧
    (takes (.waterResume (.fields ())) fr s →
      exec (.waterResume (.fields ())) s = done fr (.accepted [] (.waterSuspend false 0)) (suspended false))

/-- FORCE OFF, RELEASE FORCE, SERVICE HOLD, SERVICE RELEASE, WATER SUSPEND and WATER RESUME (order of several ends:
log 51) -/
def Obligations.OfficeLocksAndServiceHold : Prop :=
  Claim.OfficeLocksAreSetAndReleased ∧ Claim.ServiceHoldAndWaterSuspend

/-! ## Protection (chapter 4) -/

namespace Sys2Proof.Claim

/-- The recovery methods PROTECTION LOAD refuses OUT_OF_RANGE for a kind (04 R81). -/
def badMethods (f : ProtectionLoad) (k : FaultKind) : Prop :=
  f.byUnplug = false ∧ f.byCommand = false ∧ f.byTime = false ∨ (k = .leak ∨ k = .valve) ∧ f.byUnplug = true ∨
    k = .meter ∧ f.byUnplug = true ∧ f.byCommand = false ∧ f.byTime = false

/-- The entry PROTECTION LOAD stores for a kind: EARTH_LEAK keeps all but COUNT (04 R81). -/
def loadedEntry (f : ProtectionLoad) (k : FaultKind) : ProtectionEntry :=
  if k = .earthLeak then ⟨true, true, true, f.count, false, true, false⟩
  else ⟨f.enable, f.cut, f.latch, f.count, f.byUnplug, f.byCommand, f.byTime⟩

/-- The kinds a CLEAR FAULT names: the one it carries, or every kind. -/
def names (f : ClearFault) (k : FaultKind) : Prop := f.kind = none ∨ f.kind = some (.known k)

/-- A set latch of a named kind without BY_COMMAND, and one whose condition is present (04 R85). -/
def notByCommand (f : ClearFault) (latches : KindMap Bool) (s : State) : Prop :=
  ∃ k, names f k ∧ latches.get k = true ∧ (s.outlet.protection.get k).byCommand = false

/-- A named set latch whose condition is present (04 R85, R87). -/
def conditionStands (named : FaultKind → Prop) (latches : KindMap Bool) (condition : FaultKind → Bool) : Prop :=
  ∃ k, named k ∧ latches.get k = true ∧ condition k = true

/-- The latches after the named ones are cleared. -/
def cleared (f : ClearFault) (was now : KindMap Bool) : Prop :=
  ∀ k, (names f k → now.get k = false) ∧ (¬names f k → now.get k = was.get k)

/-- Some latch of a named kind is set. -/
def someNamed (f : ClearFault) (latches : KindMap Bool) : Prop := ∃ k, names f k ∧ latches.get k = true

/-- No latch is set. -/
def noLatch (latches : KindMap Bool) : Prop := ∀ k, latches.get k = false

/-- The trips within the trip window after one at the present moment, at most 15 (04 R86). -/
def tripsNow (s : State) (f : FaultRecord) : List Nat :=
  newest 15 ((f.trips ++ [s.now]).filter fun t => decide (s.now ≤ t + s.mgmt.config.tripWindow * 3600000))

end Sys2Proof.Claim

/-- PROTECTION LOAD stores the entry of a kind, with the forced actions of EARTH_LEAK, or is refused -/
def Obligations.ProtectionLoadStoresAnEntry : Prop :=
  ∀ (f : ProtectionLoad) (fr : IntakeFrame) (s : State), takes (.protectionLoad (.fields f)) fr s →
    let u := s.taken fr
    (f.kind = .unlisted → exec (.protectionLoad (.fields f)) s = done fr (.refused .outOfRange) u) ∧
    (∀ k, f.kind = .known k →
      let v : State := { u with outlet := { u.outlet with protection := s.outlet.protection.set k (loadedEntry f k) } }
      (badMethods f k → exec (.protectionLoad (.fields f)) s = done fr (.refused .outOfRange) u) ∧
      (¬badMethods f k → (loadedEntry f k).enable = true → exec (.protectionLoad (.fields f)) s =
        done fr (.accepted [] (.protection k (loadedEntry f k))) v) ∧
      (¬badMethods f k → (loadedEntry f k).enable = false → exec (.protectionLoad (.fields f)) s =
          done fr (.accepted [] (.protection k (loadedEntry f k))) (v.idleKind k) ∧
        (∀ i p, (v.idleKind k).outlet.outlets.get i = some p → (k = .overcurrent → p.fault.overCount = 0) ∧
          (k = .leakDisagree → p.fault.disagreeEnd = none) ∧ (k = .contactor → p.fault.check = none) ∧
          (k = .meter → p.fault.stuck = 0)) ∧
        (∀ i p, (v.idleKind k).tap.taps.get i = some p →
          (k = .valve → p.fault.check = none) ∧ (k = .leak → p.watchSum = 0))) ∧
      v.outlet.protection.get k = loadedEntry f k ∧
      ∀ j, j ≠ k → v.outlet.protection.get j = s.outlet.protection.get j)

/-- CLEAR FAULT (04 R85). -/
def Sys2Proof.Claim.ClearFaultClearsNamedLatches : Prop :=
  ∀ (f : ClearFault) (fr : IntakeFrame) (s : State), takes (.clearFault (.fields f)) fr s →
    let u := s.taken fr
    let refused (c : ReasonCode) : Prop := exec (.clearFault (.fields f)) s = done fr (.refused c) u
    (f.target = .unlisted ∨ ¬(1 ≤ f.index ∧ f.index ≤ 48) ∨ f.kind = some .unlisted ∨
      (∃ t k, f.target = .known t ∧ f.kind = some (.known k) ∧ k.appliesTo t = false) → refused .outOfRange) ∧
    (1 ≤ f.index → f.index ≤ 48 → f.kind ≠ some .unlisted →
      (f.target = .known .outlet → (∀ k, f.kind = some (.known k) → k.appliesTo .outlet = true) →
        (s.outlet.outlets.get f.index = none → refused .notFound) ∧
        (∀ o, s.outlet.outlets.get f.index = some o →
          (o.state = .outOfService → refused .wrongState) ∧
          (o.state ≠ .outOfService → notByCommand f o.fault.latches s → refused .notPermitted) ∧
          (o.state ≠ .outOfService → ¬notByCommand f o.fault.latches s →
            (conditionStands (names f) o.fault.latches (s.outletCondition o) → refused .conditionPresent) ∧
            (¬conditionStands (names f) o.fault.latches (s.outletCondition o) →
              ∃ e p, e.outlet.outlets.get f.index = some p ∧
                exec (.clearFault (.fields f)) s = done fr (.accepted [] (.outletLatches p.state p.fault.latches)) e ∧
                cleared f o.fault.latches p.fault.latches ∧
                (¬someNamed f o.fault.latches → e = u) ∧
                (o.state ≠ .tripped ∨ ¬noLatch p.fault.latches → p.state = o.state ∧ p.session = o.session) ∧
                (o.state = .tripped → noLatch p.fault.latches → someNamed f o.fault.latches →
                  p.state ≠ .tripped))))) ∧
      (f.target = .known .tap → (∀ k, f.kind = some (.known k) → k.appliesTo .tap = true) →
        (s.tap.taps.get f.index = none → refused .notFound) ∧
        (∀ o, s.tap.taps.get f.index = some o →
          (o.outOfService = true → refused .wrongState) ∧
          (o.outOfService = false → notByCommand f o.fault.latches s → refused .notPermitted) ∧
          (o.outOfService = false → ¬notByCommand f o.fault.latches s →
            (conditionStands (names f) o.fault.latches (s.tapCondition o) → refused .conditionPresent) ∧
            (¬conditionStands (names f) o.fault.latches (s.tapCondition o) →
              ∃ e p, e.tap.taps.get f.index = some p ∧
                exec (.clearFault (.fields f)) s = done fr (.accepted [] (.tapLatches p.state p.fault.latches)) e ∧
                cleared f o.fault.latches p.fault.latches ∧
                (¬someNamed f o.fault.latches → e = u) ∧
                (o.state ≠ .locked ∨ ¬noLatch p.fault.latches → p.state = o.state) ∧
                (o.state = .locked → noLatch p.fault.latches → someNamed f o.fault.latches →
                  p.state = .closed ∧ p.reason = .recovered))))))

/-- RETURN TO SERVICE (04 R87; a METER latch at a silent pedestal by log 54). -/
def Sys2Proof.Claim.ReturnToServiceEndsOutOfService : Prop :=
  ∀ (f : ReturnToService) (fr : IntakeFrame) (s : State), takes (.returnToService (.fields f)) fr s →
    let u := s.taken fr
    let refused (c : ReasonCode) : Prop := exec (.returnToService (.fields f)) s = done fr (.refused c) u
    (f.target = .unlisted ∨ ¬(1 ≤ f.index ∧ f.index ≤ 48) → refused .outOfRange) ∧
    (1 ≤ f.index → f.index ≤ 48 → f.target = .known .outlet →
      (s.outlet.outlets.get f.index = none → refused .notFound) ∧
      (∀ o, s.outlet.outlets.get f.index = some o →
        (o.state ≠ .outOfService → refused .wrongState) ∧
        (o.state = .outOfService →
          (conditionStands (fun _ => True) o.fault.latches (s.outletCondition o) → refused .conditionPresent) ∧
          (¬conditionStands (fun _ => True) o.fault.latches (s.outletCondition o) →
            ∃ e p, e.outlet.outlets.get f.index = some p ∧
              exec (.returnToService (.fields f)) s = done fr (.accepted [] (.outletState f.index p.state)) e ∧
              noLatch p.fault.latches ∧ p.fault.trips = [] ∧ p.state ≠ .outOfService)))) ∧
    (1 ≤ f.index → f.index ≤ 48 → f.target = .known .tap →
      (s.tap.taps.get f.index = none → refused .notFound) ∧
      (∀ o, s.tap.taps.get f.index = some o →
        (o.outOfService = false → refused .wrongState) ∧
        (o.outOfService = true →
          (conditionStands (fun _ => True) o.fault.latches (s.tapCondition o) → refused .conditionPresent) ∧
          (¬conditionStands (fun _ => True) o.fault.latches (s.tapCondition o) →
            exec (.returnToService (.fields f)) s = done fr (.accepted [] (.tapState f.index .closed))
              ((u.setTap f.index { o with
                state := .closed, reason := .recovered, outOfService := false
                settleEnd := some (s.now + s.mgmt.config.settleTime * 1000), watchSum := 0
                fault := { o.fault with
                  latches := KindMap.all false, recovery := KindMap.all none, trips := [] } }).mark .tap f.index)))))

/-- A detection at an outlet (04 R81, R82, R86; the reason of an outlet left with four waiting closings by log 20). -/
def Sys2Proof.Claim.DetectionAtAnOutlet : Prop :=
  ∀ (i : Nat) (k : FaultKind) (o : Outlet) (s : State), s.outlet.outlets.get i = some o →
    let e := s.protectionOf k
    let t := s.detectOutlet i k
    (e.enable = false → t = s) ∧
    (e.enable = true → ∃ p, t.outlet.outlets.get i = some p ∧ p.fault.last = some (k, s.now) ∧
      (∀ j, j ≠ i → t.outlet.outlets.get j = s.outlet.outlets.get j) ∧
      (e.latch = true →
        let limit := o.fault.latches.get k = false ∧ e.count = true ∧
          s.mgmt.config.tripLimit ≤ (tripsNow s o.fault).length
        p.fault.latches = o.fault.latches.set k true ∧
        (o.state = .outOfService → p.state = .outOfService) ∧
        (o.state ≠ .outOfService → limit → p.state = .outOfService ∧ p.reason = .fault) ∧
        (o.state ≠ .outOfService → ¬limit → p.state = .tripped) ∧
        (o.state ≠ .tripped → o.state ≠ .outOfService → p.session = none ∧ p.reason = .fault) ∧
        (o.state ≠ .outOfService → o.fault.latches.get k = false → e.count = true →
          p.fault.trips = tripsNow s o.fault)) ∧
      (e.latch = false →
        p.fault.latches = o.fault.latches ∧
        (e.cut = true → o.session ≠ none → p.session = none ∧ p.state ≠ .live ∧ p.state ≠ .tripped ∧
          (∀ q ∈ t.outlet.queue, q.outlet ≠ i) ∧
          (e.count = true → p.fault.trips = tripsNow s o.fault) ∧ (e.count = false → p.fault.trips = o.fault.trips) ∧
          let limit := e.count = true ∧ s.mgmt.config.tripLimit ≤ (tripsNow s o.fault).length
          (limit → p.state = .outOfService ∧ p.reason = .fault) ∧
          (¬limit → p.waiting.length < 4 → p.state = .ready ∧ p.reason = .fault) ∧
          (¬limit → 4 ≤ p.waiting.length → p.state = .off)) ∧
        (e.cut = false ∨ o.session = none → p = { o with fault := { o.fault with last := some (k, s.now) } })))

/-- A detection at a tap (04 R81, R83, R86). -/
def Sys2Proof.Claim.DetectionAtATap : Prop :=
  ∀ (i : Nat) (k : FaultKind) (q : Tap) (s : State), s.tap.taps.get i = some q →
    let e := s.protectionOf k
    let t := s.detectTap i k
    let limit := e.count = true ∧ s.mgmt.config.tripLimit ≤ (tripsNow s q.fault).length
    (e.enable = false → t = s) ∧
    (e.enable = true → ∃ p, t.tap.taps.get i = some p ∧ p.fault.last = some (k, s.now) ∧
      (∀ j, j ≠ i → t.tap.taps.get j = s.tap.taps.get j) ∧
      (e.latch = true → p.fault.latches = q.fault.latches.set k true ∧ p.state = .locked ∧
        (q.state ≠ .locked → p.reason = .fault) ∧ (q.state = .opened → p.session = none) ∧
        (q.outOfService = true → p.outOfService = true) ∧
        (q.outOfService = false → (p.outOfService = true ↔ q.fault.latches.get k = false ∧ limit)) ∧
        (q.outOfService = false → q.fault.latches.get k = false → e.count = true →
          p.fault.trips = tripsNow s q.fault)) ∧
      (e.latch = false → p.fault.latches = q.fault.latches ∧
        (e.cut = true → q.state = .opened → p.session = none ∧ p.reason = .fault ∧
          (q.outOfService = false →
            (limit → p.state = .locked ∧ p.outOfService = true) ∧
            (¬limit → p.state = .closed ∧ p.outOfService = false) ∧
            (e.count = true → p.fault.trips = tripsNow s q.fault))) ∧
        (e.cut = false ∨ q.state ≠ .opened → p = { q with fault := { q.fault with last := some (k, s.now) } })))

/-- What a reply tells of an outlet (04 R73 to R78; start afresh at the re-basing reply). -/
def Sys2Proof.Claim.OutletReplyIsExamined : Prop :=
  ∀ (o : Outlet) (x : SideStatus) (fresh jump : Bool) (s : State),
    let r := s.examineOutlet o x fresh jump
    let on (k : FaultKind) : Prop := (s.protectionOf k).enable = true
    let before := if fresh then 0 else o.fault.overCount
    let above := o.rating * s.mgmt.config.overcurrentRatio < x.current * 100 ∧ o.state = .live ∧ on .overcurrent
    let twice := above ∧ 1 ≤ before
    (.overcurrent ∈ r.2 ↔ twice ∨ x.breaker = true ∧ (fresh = true ∨ o.breaker = false)) ∧
    (above → r.1.overCount = if 1 ≤ before then 0 else 1) ∧ (¬above → r.1.overCount = 0) ∧
    (.earthLeak ∈ r.2 ↔ x.leakA = true ∧ x.leakB = true ∧
      (o.fault.latches.earthLeak = false ∨ fresh = true ∨ o.leakA = false ∨ o.leakB = false)) ∧
    (x.leakA ≠ x.leakB → on .leakDisagree → r.1.disagreeEnd =
      some ((if fresh then none else o.fault.disagreeEnd).getD (s.now + s.mgmt.config.disagreementTime * 1000))) ∧
    (x.leakA = x.leakB ∨ ¬on .leakDisagree → r.1.disagreeEnd = none) ∧
    (.contactor ∈ r.2 ↔ fresh = false ∧ ∃ c, o.fault.check = some c ∧ c.count ≠ 0 ∧ c.energised ≠ x.contactorClosed) ∧
    (r.1.check = if fresh then none else if (s.protectionOf .contactor).enable then
      (o.fault.check.bind fun c => if c.count = 0 then some { c with count := 1 } else none) else none) ∧
    (.meter ∈ r.2 ↔ jump = true) ∧ .leakDisagree ∉ r.2 ∧ .leak ∉ r.2 ∧ .valve ∉ r.2 ∧
    r.1.latches = o.fault.latches ∧ r.1.trips = o.fault.trips ∧ r.1.last = o.fault.last ∧
    (fresh = true → r.1.stuck = 0) ∧ (fresh = false → r.1.stuck = o.fault.stuck)

/-- What a reply tells of a tap (04 R73, R77, R78, R80; a lowered leak threshold by log 47, LEAK again by log 53). -/
def Sys2Proof.Claim.TapReplyIsExamined : Prop :=
  ∀ (t : Tap) (x : SideStatus) (fresh jump : Bool) (q : Nat) (s : State),
    let r := s.examineTap t x fresh jump q
    let on := (s.protectionOf .leak).enable = true
    let watches := t.state ≠ .opened ∧ jump = false ∧ (∀ e, t.settleEnd = some e → e ≤ s.now) ∧ on
    let sum := t.watchSum + q
    (.leak ∈ r.2.2 ↔ watches ∧ s.mgmt.config.leakThreshold ≤ sum) ∧
    (watches → r.2.1 = if s.mgmt.config.leakThreshold ≤ sum then 0 else sum) ∧
    (¬watches → on → r.2.1 = t.watchSum) ∧ (¬on → r.2.1 = 0) ∧
    (.valve ∈ r.2.2 ↔ fresh = false ∧ ∃ c, t.fault.check = some c ∧ c.count ≠ 0 ∧ c.energised ≠ x.valveOpen) ∧
    (r.1.check = if fresh then none else if (s.protectionOf .valve).enable then
      (t.fault.check.bind fun c => if c.count = 0 then some { c with count := 1 } else none) else none) ∧
    (.meter ∈ r.2.2 ↔ jump = true) ∧ (∀ k ∈ r.2.2, k = .leak ∨ k = .valve ∨ k = .meter) ∧
    (r.1.litresAdvanced = true ↔ t.state ≠ .opened ∧ 0 < q) ∧
    r.1.latches = t.fault.latches ∧ r.1.trips = t.fault.trips ∧ r.1.last = t.fault.last

/-- What a reply shows of a fault, and what its detection does at an outlet or tap (lowered leak threshold: log 47;
again: log 53) -/
def Obligations.DetectionAtAnOutlet : Prop :=
  Claim.DetectionAtAnOutlet ∧ Claim.DetectionAtATap ∧ Claim.OutletReplyIsExamined ∧ Claim.TapReplyIsExamined

/-- BY_UNPLUG at a reply that shows the plug absent (04 R84; the kinds detected in the same reply by log 10; no
attempt awaits, log 18). -/
def Sys2Proof.Claim.UnpluggingClearsLatches : Prop :=
  ∀ (i : Nat) (detected : FaultKind → Bool) (o : Outlet) (s : State), s.outlet.outlets.get i = some o →
    let t := s.unplugRecovery i detected
    let named (k : FaultKind) : Prop := (s.outlet.protection.get k).byUnplug = true ∧ s.outletCondition o k = false ∧
      detected k = false
    let clears := ∃ k, named k ∧ o.fault.latches.get k = true
    (o.state = .outOfService ∨ ¬clears → t = s) ∧
    (o.state ≠ .outOfService → clears → ∃ p, t.outlet.outlets.get i = some p ∧
      (∀ k, p.fault.latches.get k = true ↔ o.fault.latches.get k = true ∧ ¬named k) ∧
      (o.state ≠ .tripped ∨ ¬noLatch p.fault.latches → p.state = o.state) ∧
      (o.state = .tripped → noLatch p.fault.latches →
        (s.outletEligible { o with state := .off, reason := .recovered, fault := p.fault } = false →
          s.outlet.attempts = [] → p.state = .off ∧ p.reason = .recovered) ∧
        (s.outletEligible { o with state := .off, reason := .recovered, fault := p.fault } = true →
          serving p.state)))

/-- CLEAR FAULT and RETURN TO SERVICE clear latches unless a condition stands (METER: log 54); BY_UNPLUG at an absent
plug (log 10) -/
def Obligations.ClearFaultAndReturnToService : Prop :=
  Claim.ClearFaultClearsNamedLatches ∧ Claim.ReturnToServiceEndsOutOfService ∧ Claim.UnpluggingClearsLatches

/-- The stuck-meter, disagreement and recovery steps of outlets and taps (clock: log 1; no occasion: log 2; logs 11,
53) -/
def Obligations.ProtectionTimersExpire : Prop :=
  ∀ (i : Nat) (s : State), s.active = true →
    (∀ o, s.outlet.outlets.get i = some o →
      (30 ≤ o.fault.stuck → exec (.stuckMeterDetect i) s =
        acted ((s.setOutlet i { o with fault := { o.fault with stuck := 0 } }).detectOutlet i .meter).flushAttempts) ∧
      (o.fault.stuck < 30 → exec (.stuckMeterDetect i) s = acted s) ∧
      (∀ e, o.fault.disagreeEnd = some e → exec (.leakDisagreeExpiry i) s =
        acted ((State.setOutlet i { o with fault := { o.fault with disagreeEnd := none } }
          { s with now := max s.now e }).detectOutlet i .leakDisagree).flushAttempts) ∧
      (o.fault.disagreeEnd = none → exec (.leakDisagreeExpiry i) s = acted s) ∧
      (∀ k e, o.fault.recovery.get k = some e →
        let clears := (s.protectionOf k).byTime = true ∧ s.outletCondition o k = false ∧ o.state ≠ .outOfService
        ∃ t p, exec (.recoveryTimerExpiry .outlet i k) s = .next t ∧ t.now = max s.now e ∧
          t.outlet.outlets.get i = some p ∧ p.fault.recovery.get k = none ∧
          (clears → p.fault.latches = o.fault.latches.set k false) ∧
          (¬clears → p = { o with fault := { o.fault with recovery := o.fault.recovery.set k none } }))) ∧
    (∀ o, s.tap.taps.get i = some o → ∀ k e, o.fault.recovery.get k = some e →
      let clears := (s.protectionOf k).byTime = true ∧ s.tapCondition o k = false ∧ o.outOfService = false
      ∃ t p, exec (.recoveryTimerExpiry .tap i k) s = .next t ∧ t.now = max s.now e ∧
        t.tap.taps.get i = some p ∧ p.fault.recovery.get k = none ∧
        (clears → p.fault.latches = o.fault.latches.set k false) ∧
        (¬clears → p = { o with fault := { o.fault with recovery := o.fault.recovery.set k none } }))

/-! ## Taps (chapter 5) -/

/-- TAP LOAD (05 R93; what a moved tap keeps by log 46). -/
def Sys2Proof.Claim.TapLoadIsCheckedAndStored : Prop :=
  ∀ (f : TapLoad) (fr : IntakeFrame) (s : State), takes (.tapLoad (.fields f)) fr s →
    let u := s.taken fr
    let inRange := 1 ≤ f.index ∧ f.index ≤ 48 ∧ 1 ≤ f.address ∧ f.address ≤ 126
    let settle := some (s.now + s.mgmt.config.settleTime * 1000)
    (f.side = .unlisted ∨ ¬inRange → exec (.tapLoad (.fields f)) s = done fr (.refused .outOfRange) u) ∧
    (∀ side, f.side = .known side → inRange →
      let other := ∃ p ∈ s.tap.taps, p.1 ≠ f.index ∧ p.2.address = f.address ∧ p.2.side = side
      let dropped (x : State) : State := (x.modDevice f.address (Device.dropLitres side))
      (other → exec (.tapLoad (.fields f)) s = done fr (.refused .exists) u) ∧
      (¬other → s.tap.taps.get f.index = none →
        exec (.tapLoad (.fields f)) s = done fr (.accepted [] (.tapState f.index .closed))
          (((dropped ((u.setTap f.index
            { address := f.address, side := side, state := .closed, reason := .loaded, readback := .unknown
              lastClose := s.now, settleEnd := settle, watchSum := 0, outOfService := false, session := none
              waiting := [], ends := [], endsDropped := false
              fault := ⟨KindMap.all false, KindMap.all none, [], none, 0, none, 0, false, none, false⟩ }).createSource
              .tap f.index)).writeImage f.address).mark .tap f.index)) ∧
      (∀ t, ¬other → s.tap.taps.get f.index = some t →
        (t.address = f.address → t.side = side → exec (.tapLoad (.fields f)) s =
          done fr (.accepted [] (.tapState f.index t.state)) (u.mark .tap f.index)) ∧
        (t.address ≠ f.address ∨ t.side ≠ side → t.state ≠ .closed →
          exec (.tapLoad (.fields f)) s = done fr (.refused .inUse) u) ∧
        (t.address ≠ f.address ∨ t.side ≠ side → t.state = .closed →
          exec (.tapLoad (.fields f)) s = done fr (.accepted [] (.tapState f.index .closed))
            ((((dropped (u.setTap f.index { t with
              address := f.address, side := side, readback := .unknown, settleEnd := settle
              watchSum := 0 })).writeImage t.address).writeImage f.address).mark .tap f.index))))

/-- Taps open and shut (05 R95 to R98, 04 R80, 02 R37; the clock at an expiry by log 1, a step with nothing running by
log 2). -/
def Sys2Proof.Claim.TapsOpenAndShut : Prop :=
  ∀ (i : Nat) (t : Tap) (s : State), s.tap.taps.get i = some t →
    (∀ (target : TapState) (reason : Reason), ∃ w : List WaitingClosing,
      (s.shutTap i target reason).tap.taps.get i = some { t with
        state := target, reason := reason, session := none, waiting := w, lastClose := s.now
        settleEnd := some (s.now + s.mgmt.config.settleTime * 1000), watchSum := 0 } ∧
      (∀ j, j ≠ i → (s.shutTap i target reason).tap.taps.get j = s.tap.taps.get j) ∧
      (∀ x, t.session = some x → findPosting i s.charge.water = none → w = t.waiting ∧
        (s.shutTap i target reason).charge.water = s.charge.water ++ [⟨i, x.account, x.unposted,
          some ⟨x.residual, x.account, x.quantity, x.charged, reason, x.startTime,
            if s.mgmt.timeValid then some s.mgmt.clock else none⟩⟩]) ∧
      (∀ x e, t.session = some x → findPosting i s.charge.water = some e → e.closing = none → w = t.waiting ∧
        (s.shutTap i target reason).charge.water = s.charge.water.map fun p => if p.source = i then { e with
          closing := some ⟨x.residual, x.account, x.quantity, x.charged, reason, x.startTime,
            if s.mgmt.timeValid then some s.mgmt.clock else none⟩ } else p)) ∧
    (∀ r, s.tapOfSide r = some (i, t) →
      (t.state = .opened → s.buttonPress r = s.shutTap i .closed .button) ∧
      (t.state = .locked ∨ t.state = .closed ∧ s.tapEligible t = false → s.buttonPress r = s) ∧
      (∀ n, t.state = .closed → s.tapEligible t = true → s.berthAccount r = some n →
        s.buttonPress r = State.writeImage t.address ((s.setTap i { t with
          state := .opened, reason := .opened, settleEnd := none, watchSum := 0
          session := some ⟨n, if s.mgmt.timeValid then some s.mgmt.clock else none,
            s.now + s.mgmt.config.dispensePeriod * 60000, 0, 0, 0, 0⟩ }).mark .tap i))) ∧
    (∀ x, s.active = true → t.state = .opened → t.session = some x → exec (.dispensePeriodExpiry i) s =
      acted (State.shutTap i .closed .period { s with now := max s.now x.moment })) ∧
    (s.active = true → t.state ≠ .opened ∨ t.session = none → exec (.dispensePeriodExpiry i) s = acted s) ∧
    (∀ e, s.active = true → t.settleEnd = some e → exec (.leakSettleEnd i) s =
      acted (State.setTap i { t with settleEnd := none } { s with now := max s.now e })) ∧
    (s.active = true → t.settleEnd = none → exec (.leakSettleEnd i) s = acted s)

/-- What a reply brings to a tap, in its order (05 R95, R100; 04 R73, R80; the order by log 10, a jump with METER
disabled by log 25). -/
def Sys2Proof.Claim.TapReplyIsDelivered : Prop :=
  ∀ (i : Nat) (o : Tap) (x : SideStatus) (fresh pressed : Bool) (delta : Option Nat) (s : State),
    s.tap.taps.get i = some o →
    let q := delta.getD 0
    let jump := decide (s.mgmt.config.litreJumpLimit < q)
    let watched : Tap := if fresh = true ∧ o.state ≠ .opened then
      { o with settleEnd := some (s.now + s.mgmt.config.settleTime * 1000), watchSum := 0 } else o
    let r := s.examineTap watched x fresh jump q
    ∃ v : State, v = { s with
        tap := { s.tap with taps := s.tap.taps.set i { watched with
          fault := r.1, watchSum := r.2.1, readback := if x.valveOpen then .opened else .closed } }
        trunk := { s.trunk with sources := v.trunk.sources } } ∧
      let tallied : State := { v with tally := { v.tally with live := { v.tally.live with
        litres := addLifetime i q v.tally.live.litres } } }
      let metered := if jump then v else tallied.tapDelta i q
      let detected := r.2.2.foldl (fun u k => u.detectTap i k) metered
      s.tapReply i x fresh pressed delta = if pressed then detected.buttonPress o.ref else detected

/-- TAP LOAD, presses, dispense period, settle time, and a tap's replies (clock: log 1; no occasion: log 2; logs 10,
25; a move: log 46) -/
def Obligations.TapsAreLoadedOpenedAndShut : Prop :=
  Claim.TapLoadIsCheckedAndStored ∧ Claim.TapsOpenAndShut ∧ Claim.TapReplyIsDelivered

/-! ## Fuel sales (chapter 6) -/

namespace Sys2Proof.Claim

/-- The ranges of AUTHORISE SALE (06 R109). -/
def saleRange (f : AuthoriseSale) : Prop :=
  f.dispenser ≤ 3 ∧ f.grade ≤ 1 ∧ (∀ x, f.preset = some x → 100 ≤ x ∧ x ≤ 9999999) ∧ ∀ n, f.account = some n → accountRange n

/-- The price latched for a sale: of the account's class, or of class 0 for a cash sale (02 R42). -/
def latchedPrice (s : State) (acct : Option Nat) (grade : Nat) : Nat :=
  let row := s.tariffRow ((acct.bind s.account).elim 0 fun a => a.cls)
  if grade = 0 then row.fuel0 else row.fuel1

/-- The volume limit of a preset at a price (02 R42). -/
def limitOf (preset price : Nat) : Nat := if price = 0 then 999999900 else max 1 (preset * 100 / price)

/-- The record of a sale as it enters HOLDING (06 R110). -/
def startedSale (s : State) (f : AuthoriseSale) : Sale :=
  let preset := f.preset.getD s.mgmt.config.defaultPreset
  let price := latchedPrice s f.account f.grade
  ⟨none, f.dispenser, f.grade, f.account, none, price, preset, 0, limitOf preset price, 0, none, f.account.isNone,
    false, false, if s.mgmt.timeValid then some s.mgmt.clock else none, none⟩

/-- A cancelled sale: off the FIFO, and its dispenser IDLE, or CANCELLING until the RELEASE of its hold is served
(06 R117). -/
def cancelled (i : Nat) (d : Dispenser) (x : Sale) (e : State) : Prop :=
  i ∉ e.fuel.fifo ∧
  (x.hold = 0 ∨ x.account = none → e.fuel.dispensers.get i = some d.idled) ∧
  (∀ n, x.hold ≠ 0 → x.account = some n →
    e.fuel.dispensers.get i = some { d.idled with state := .cancelling, sale := some x } ∧
      (⟨i, n, .release x.hold⟩ : FuelRequest) ∈ e.charge.fuel)

/-- The tank of a grade lowered by the volume of a sale (06 R120). -/
def lowered (t : Tank) (v : Nat) : Tank :=
  if t.level < v then { t with level := 0, shortfall := true } else { t with level := t.level - v }

end Sys2Proof.Claim

/-- AUTHORISE SALE is checked in order and starts an account sale in HOLDING or a cash sale at a pump -/
def Obligations.AuthoriseSaleIsCheckedAndStarts : Prop :=
  ∀ (f : AuthoriseSale) (fr : IntakeFrame) (s : State), takes (.authoriseSale (.fields f)) fr s →
    let u := s.taken fr
    let refused (c : ReasonCode) : Prop := exec (.authoriseSale (.fields f)) s = done fr (.refused c) u
    let tank := if f.grade = 0 then s.fuel.tank0 else s.fuel.tank1
    let x := startedSale s f
    (¬saleRange f → refused .outOfRange) ∧
    (saleRange f → s.fuel.dispensers.get f.dispenser = none → refused .notFound) ∧
    (∀ d, saleRange f → s.fuel.dispensers.get f.dispenser = some d →
      (∀ n, f.account = some n → s.account n = none → refused .notFound) ∧
      ((∀ n, f.account = some n → s.account n ≠ none) →
        (d.state ≠ .idle → refused .busy) ∧
        (d.state = .idle →
          let hose := f.grade = 0 ∧ d.hose0 = true ∨ f.grade = 1 ∧ d.hose1 = true
          let device := ∃ v, s.bus.devices.get d.address = some v ∧ (v.state = .online ∨ v.state = .missing)
          let barred := ∃ n a, f.account = some n ∧ s.account n = some a ∧
            (a.standing = .stopped ∨ a.standing = .suspended)
          (¬hose → refused .outOfRange) ∧
          (hose → ¬device → refused .wrongState) ∧
          (hose → device → 16 ≤ s.saleCount → refused .busy) ∧
          (hose → device → s.saleCount < 16 → tank.level ≤ tank.cutoff → refused .wrongState) ∧
          (hose → device → s.saleCount < 16 → tank.cutoff < tank.level → barred → refused .notPermitted) ∧
          (hose → device → s.saleCount < 16 → tank.cutoff < tank.level → ¬barred →
            (∀ n, f.account = some n →
              let d' : Dispenser := { d with state := .holding, card := none, sale := some x }
              let e : State := { u with
                mgmt := { u.mgmt with work := .hold fr f.dispenser }
                fuel := { u.fuel with dispensers := u.fuel.dispensers.set f.dispenser d' }
                charge := { u.charge with fuel := u.charge.fuel ++ [⟨f.dispenser, n, .hold x.preset⟩] } }
              exec (.authoriseSale (.fields f)) s = acted (e.mark .sale 0)) ∧
            (f.account = none → ∃ e d', exec (.authoriseSale (.fields f)) s =
                done fr (.accepted [] (.saleStarted f.dispenser d'.state x.price x.limit)) e ∧
              e.fuel.dispensers.get f.dispenser = some d' ∧ d'.sale = some x ∧
              (d'.state = .waitPump ∨ d'.state = .authorised) ∧ e.charge = s.charge)))))

/-- STOP SALE and the nozzle timeout (06 R113, R116, R117; the clock at it by log 1, a step with no timer by log 2).
-/
def Sys2Proof.Claim.StopSaleAndNozzleTimeout : Prop :=
  ∀ (i : Nat) (s : State),
    (∀ fr, takes (.stopSale (.fields i)) fr s →
      let u := s.taken fr
      (3 < i → exec (.stopSale (.fields i)) s = done fr (.refused .outOfRange) u) ∧
      (i ≤ 3 → s.fuel.dispensers.get i = none → exec (.stopSale (.fields i)) s = done fr (.refused .notFound) u) ∧
      (∀ d, i ≤ 3 → s.fuel.dispensers.get i = some d →
        (d.state = .idle ∨ d.state = .cardWait ∨ d.state = .settling ∨ d.state = .cancelling →
          exec (.stopSale (.fields i)) s = done fr (.refused .wrongState) u) ∧
        (d.state = .authorised ∨ d.state = .delivering →
          (d.stopRequested = true → exec (.stopSale (.fields i)) s = done fr (.accepted [] .stopRequested) u) ∧
          (d.stopRequested = false → exec (.stopSale (.fields i)) s = done fr (.accepted [] .stopRequested)
            ((u.setDispenser i { d with stopRequested := true, stopAcked := false }).writeOneShot d.address .stop))) ∧
        (∀ x, d.state = .holding ∨ d.state = .waitPump → d.sale = some x →
          ∃ e, exec (.stopSale (.fields i)) s = done fr (.accepted [] .saleCancelled) e ∧ cancelled i d x e))) ∧
    (∀ d x e, s.active = true → s.fuel.dispensers.get i = some d → d.state = .authorised → d.sale = some x →
      d.nozzleEnd = some e → ∃ t, exec (.nozzleTimeout i) s = .next t ∧ t.now = max s.now e ∧ cancelled i d x t ∧
      ∀ v, s.bus.devices.get d.address = some v → ∃ v' z, t.bus.devices.get d.address = some v' ∧ v'.slot = some z ∧
        z.command = .stop ∧ z.count = 0) ∧
    (∀ d, s.active = true → s.fuel.dispensers.get i = some d → d.state ≠ .authorised ∨ d.nozzleEnd = none →
      exec (.nozzleTimeout i) s = acted s)

/-- TAKE SALE removes and returns the oldest record of the sale list, or answers with none -/
def Obligations.TakeSaleRemovesTheOldest : Prop :=
  ∀ (fr : IntakeFrame) (s : State), takes (.takeSale (.fields ())) fr s →
    let u := s.taken fr
    (∀ x rest, s.fuel.sales = x :: rest →
      let e := State.mark .sale 0 { u with fuel := { u.fuel with sales := rest } }
      exec (.takeSale (.fields ())) s = done fr (.accepted [] (.sale (some x))) e ∧ e.saleCount + 1 = s.saleCount) ∧
    (s.fuel.sales = [] → exec (.takeSale (.fields ())) s = done fr (.accepted [] (.sale none)) u)

/-- TANK SET and TANK ADD set or raise a level and clear SHORTFALL, or are refused OUT_OF_RANGE -/
def Obligations.TankSetAndTankAdd : Prop :=
  ∀ (add : Bool) (f : TankFields) (fr : IntakeFrame) (s : State),
    let c : Instr := if add then .tankAdd (.fields f) else .tankSet (.fields f)
    takes c fr s →
    let u := s.taken fr
    let was := if f.tank = 0 then s.fuel.tank0 else s.fuel.tank1
    let level := if add then was.level + f.amount else f.amount
    let inRange := f.tank ≤ 1 ∧ f.amount ≤ 4294967295 ∧ level ≤ 4294967295 ∧ ∀ x, f.cutoff = some x → x ≤ 4294967295
    let t : Tank := ⟨level, f.cutoff.getD was.cutoff, false⟩
    (¬inRange → exec c s = done fr (.refused .outOfRange) u) ∧
    (inRange → exec c s = done fr (.accepted [] (.tank f.tank t)) (State.markStatus
      (if f.tank = 0 then { u with fuel := { u.fuel with tank0 := t } }
        else { u with fuel := { u.fuel with tank1 := t } })))

/-- At settlement the amount is volume times price rounded half up, capped at the hold of an account sale with OVERRUN
-/
def Obligations.SettlementComputesTheAmount : Prop :=
  ∀ (i volume : Nat) (incomplete : Bool) (d : Dispenser) (x : Sale) (s : State), s.fuel.dispensers.get i = some d →
    d.sale = some x →
    let full := (volume * x.price * 10 + 500) / 1000
    let t := s.enterSettling false i volume incomplete
    let settled (amount : Nat) (capped : Bool) : Sale := { x with
      volume := volume, amount := some amount, overrun := x.overrun || capped, incomplete := x.incomplete || incomplete
      endTime := if s.mgmt.timeValid then some s.mgmt.clock else none }
    let tank := if x.grade = 0 then s.fuel.tank0 else s.fuel.tank1
    (∀ n, x.account = some n →
      let y := settled (min full x.hold) (decide (x.hold < full))
      (∃ d', t.fuel.dispensers.get i = some d' ∧ d'.sale = some y) ∧
      t.charge.fuel = s.charge.fuel ++ [⟨i, n, .settle x.hold (min full x.hold)⟩] ∧ t.fuel.sales = s.fuel.sales) ∧
    (x.account = none →
      t.fuel.sales = s.fuel.sales ++ [{ settled full false with number := some (s.fuel.counter + 1), hold := 0 }] ∧
      t.fuel.dispensers.get i = some d.idled ∧ t.charge = s.charge ∧ t.fuel.counter = s.fuel.counter + 1) ∧
    (x.grade = 0 → t.fuel.tank0 = lowered tank volume ∧ t.fuel.tank1 = s.fuel.tank1) ∧
    (x.grade ≠ 0 → t.fuel.tank1 = lowered tank volume ∧ t.fuel.tank0 = s.fuel.tank0) ∧
    (t.tally.live.fuelSold.getD (2 * i + x.grade) 0 =
      (s.tally.live.fuelSold.getD (2 * i + x.grade) 0 + volume) % 4294967296)

/-- Pumps are granted within the concurrency (06 R112). -/
def Sys2Proof.Claim.PumpGrantsKeepWithinConcurrency : Prop :=
  ∀ s : State, s.Ordered →
    let t := s.grantPumps
    t.running ≤ max s.running s.mgmt.config.pumpConcurrency ∧
    (∃ n, t.fuel.fifo = s.fuel.fifo.drop n) ∧
    (t.fuel.fifo = [] ∨ s.mgmt.config.pumpConcurrency ≤ t.running) ∧
    (s.mgmt.config.pumpConcurrency ≤ s.running → t = s)

/-- What a dispenser's reply brings: totalisers, nozzle and volume, then the card (06 R104, R114, R115; 08 R155, R156;
the order by log 36). -/
def Sys2Proof.Claim.DispenserReplyIsDelivered : Prop :=
  (∀ (d : Device) (fresh carded : Bool) (c g p l t0 t1 : Nat) (k : Token) (n : Bool) (s : State),
    (carded = true ↔ fresh = false ∧ .cardRead ∈ d.watch ∧ ∃ c' k' g' p' n' l' x y,
      d.stored = some (.dispenser c' k' g' p' n' l' x y) ∧ c' ≠ c) →
    let delta (last : Option Nat) (v : Nat) : Option Nat :=
      if fresh then none else last.map fun x => (v + 4294967296 - x) % 4294967296
    let u := ((s.totaliserReply d.index 0 t0 (delta d.total0 t0)).totaliserReply d.index 1 t1
      (delta d.total1 t1)).dispenserReply d.index n l fresh
    s.dispenserStatus d fresh c k g p n l t0 t1 = if carded then u.dispenserCard d.index k g p else u) ∧
  (∀ (i grade value : Nat) (delta : Option Nat) (v : Dispenser) (s : State), s.fuel.dispensers.get i = some v →
    let t := s.totaliserReply i grade value delta
    t.fuel.dispensers = s.fuel.dispensers.set i
      (if grade = 0 then { v with total0 := some value } else { v with total1 := some value }) ∧
    (delta = none → t.tally = s.tally) ∧
    (∀ q, delta = some q → t.tally = { s.tally with live := { s.tally.live with
      totaliser := addLifetime (2 * i + grade) q s.tally.live.totaliser } })) ∧
  (∀ (i l : Nat) (lifted fresh : Bool) (d : Dispenser) (s : State), s.fuel.dispensers.get i = some d →
    let e : Dispenser := { d with nozzle := if lifted then .lifted else .hung, volume := l }
    let w := s.setDispenser i e
    let t := s.dispenserReply i lifted l fresh
    (fresh = true → t = w) ∧
    (fresh = false → d.state ≠ .authorised → d.state ≠ .delivering → t = w) ∧
    (∀ x, fresh = false → d.sale = some x →
      let go := s.setDispenser i { e with
        state := .delivering, nozzleEnd := none, sale := some { x with volume := l } }
      let starts := lifted = true ∧ d.nozzle ≠ .lifted ∨ 0 < l
      let hung := lifted = false ∧ d.nozzle = .lifted
      (d.state = .authorised → d.stopAcked = true → t = w.endDelivery i l) ∧
      (d.state = .authorised → d.stopAcked = false → ¬starts → t = w) ∧
      (d.state = .authorised → d.stopAcked = false → starts →
        (lifted = false ∨ x.limit ≤ l → t = go.endDelivery i l) ∧ (lifted = true → l < x.limit → t = go)) ∧
      (d.state = .delivering → (hung ∨ x.limit ≤ l ∨ d.stopAcked = true → t = go.endDelivery i l) ∧
        (¬hung → l < x.limit → d.stopAcked = false → t = go)))) ∧
  (∀ (i l : Nat) (s : State), (l = 0 → s.endDelivery i l = s.cancelSale false i) ∧
    (l ≠ 0 → s.endDelivery i l = s.enterSettling false i l false))

namespace Sys2Proof.Claim

/-- The first check of a start at a dispenser that fails, by its display code (06 R107, Table 6.5). -/
def startRefused (s : State) (d : Dispenser) (grade code : Nat) : Prop :=
  let hose := grade = 0 ∧ d.hose0 = true ∨ grade = 1 ∧ d.hose1 = true
  let tank := if grade = 0 then s.fuel.tank0 else s.fuel.tank1
  ¬hose ∧ code = 2 ∨ hose ∧ 16 ≤ s.saleCount ∧ code = 3 ∨
    hose ∧ s.saleCount < 16 ∧ tank.level ≤ tank.cutoff ∧ code = 4

/-- The display code of a refused decision (06 Table 6.5). -/
def codeOf (d : Decision) (code : Nat) : Prop :=
  (d, code) ∈ [(.expired, 6), (.unknownAccount, 7), (.suspended, 8), (.stopped, 9), (.noBerth, 10),
    (.notPermitted, 11), (.unknownToken, 12), (.officeTimeout, 13), (Decision.queryBusy, 14)]

/-- The preset of a card read: the keypad's or the default, brought to the maximum and to 100 cu (06 R107). -/
def presetOf (s : State) (keypad : Nat) : Nat :=
  max 100 (min (if keypad = 0 then s.mgmt.config.defaultPreset else keypad) s.mgmt.config.maximumPreset)

end Sys2Proof.Claim

/-! ## The gate unit (chapter 7) -/

namespace Sys2Proof.Claim

/-- The fields CREDENTIAL FILL is checked for (07 R128). -/
def fillRange (f : CredentialFill) (k : CredKind) : Prop :=
  f.kind = .known k ∧ (∀ n, f.account = some n → accountRange n) ∧ (k = .staff ∨ f.account ≠ none)

/-- The pending queries left once those of a token are decided (07 R135). -/
def undecided (s : State) (t : Token) : List Query :=
  s.gate.queries.filter fun q => !(s.queriesFor t).any fun p => decide (p.requester = q.requester)

/-- A fill of a token is not stored: the token is not cacheable, or its entry is pinned for another (07 R128). -/
def notStored (s : State) (t : Token) : Prop :=
  ¬(s.mgmt.config.cacheLow ≤ t.toNat ∧ t.toNat ≤ s.mgmt.config.cacheHigh) ∨
    ∃ e, s.gate.cache.get (t.toNat % 256) = some e ∧ e.pinned = true ∧ e.tag ≠ t.toNat / 256

/-- The journal with an entry added: 32 entries are kept, and a 33rd sets GAP (07 R140). -/
def journaled (e : JournalEntry) (s t : State) : Prop :=
  (s.gate.journal.length < 32 → t.gate.journal = s.gate.journal ++ [e] ∧ t.gate.gap = s.gate.gap) ∧
  (32 ≤ s.gate.journal.length → t.gate.journal = s.gate.journal ∧ t.gate.gap = true)

/-- The segment clock as a record of it (10 R178). -/
def clockNow (s : State) : Option Clock := if s.mgmt.timeValid then some s.mgmt.clock else none

/-- The tests a reader's side asks (07 Table 7.3), and the presence its grant sets (07 R131). -/
def askerAt (x : GateSide) : Asker := if x = .entry then .entry else .exit
def presenceAt (x : GateSide) : Presence := if x = .entry then .inside else .outside

/-- The credential of a fill, as its queries are judged and as it is stored: with presence UNKNOWN (07 R128, R135). -/
def fillEntry (f : CredentialFill) (k : CredKind) : CacheEntry :=
  ⟨f.token.toNat / 256, f.pin, k, f.account, f.validUntil, f.fuelPermitted, .unknown⟩

/-- No requester has two of the queries, and each gate requester's reader is loaded (07 R126, law L10). -/
def waitingOnce (s : State) (qs : List Query) : Prop :=
  (qs.map fun q => q.requester).Nodup ∧ ∀ q ∈ qs, ∀ i, q.requester = .gate i → s.gate.readers.get i ≠ none

/-- Pending queries are decided with a refusal, in their order: each is journaled, its reader's last decision is the refusal,
its dispenser is IDLE (07 R131, R135 to R137; 06 R108). -/
def queriesRefused (qs : List Query) (d : Decision) (queried : Bool) (s t : State) : Prop :=
  waitingOnce s qs →
    (s.gate.journal.length + qs.length ≤ 32 → t.gate.journal = s.gate.journal ++ qs.map fun q =>
      ⟨clockNow s, q.requester, some q.token, d, false, false, queried, false⟩) ∧
    ∀ q ∈ qs,
      (∀ i r, q.requester = .gate i → s.gate.readers.get i = some r →
        t.gate.readers.get i = some { r with last := some (q.token, d) }) ∧
      (∀ i x, q.requester = .dispenser i → s.fuel.dispensers.get i = some x → t.fuel.dispensers.get i = some x.idled)

end Sys2Proof.Claim

/-- What a fill stores, and its flags (07 R128, R135). -/
def Sys2Proof.Claim.CredentialFillIsStored : Prop :=
  ∀ (f : CredentialFill) (fr : IntakeFrame) (s : State), takes (.credentialFill (.fields f)) fr s →
    let u := s.taken fr
    let i := f.token.toNat % 256
    let displaces := ∃ e, s.gate.cache.get i = some e ∧ e.tag ≠ f.token.toNat / 256
    ((∀ k, ¬fillRange f k) → exec (.credentialFill (.fields f)) s = done fr (.refused .outOfRange) u) ∧
    (∀ k, fillRange f k →
      let answer (flags : List ReplyFlag) : Answer := .accepted flags (.credential i (s.queriesFor f.token).length)
      (notStored s f.token → ∃ e, exec (.credentialFill (.fields f)) s = done fr (answer [.notStored]) e ∧
        e.gate.queries = undecided s f.token ∧ (s.holder f.token = none → e.gate.cache = s.gate.cache)) ∧
      (¬notStored s f.token → ∃ e flags entry, exec (.credentialFill (.fields f)) s = done fr (answer flags) e ∧
        (displaces → flags = [.displaced]) ∧ (¬displaces → flags = []) ∧ e.gate.queries = undecided s f.token ∧
        e.gate.cache.get i = some entry ∧ (∀ j, j ≠ i → e.gate.cache.get j = s.gate.cache.get j) ∧
        { entry with presence := .unknown } =
          (⟨f.token.toNat / 256, f.pin, k, f.account, f.validUntil, f.fuelPermitted, .unknown⟩ : CacheEntry) ∧
        (s.queriesFor f.token = [] → entry.presence = .unknown)))

/-- One pending query is decided from the values of a fill (07 R130, R131, R135; 06 R108). -/
def Sys2Proof.Claim.QueryIsAnsweredByAFill : Prop :=
  ∀ (q : Query) (e : CacheEntry) (notStored : Bool) (s : State),
    let t := s.answerQuery q e notStored
    let entry (j : Decision × Bool) : JournalEntry :=
      ⟨clockNow s, q.requester, some q.token, j.1, !s.mgmt.timeValid, j.2, true, notStored⟩
    t.queryOf q.requester = none ∧ t.gate.cache = s.gate.cache ∧
    (∀ i r, q.requester = .gate i → s.gate.readers.get i = some r →
      let j := s.judge (askerAt r.side) e
      journaled (entry j) s t ∧
      (j.1 = .granted →
        t.gate.readers.get i = some { r with
          last := some (q.token, .granted), windowEnd := some (s.now + s.mgmt.config.unlockTime * 1000) } ∧
        t.bus = (s.writeOneShot r.address (.unlock s.mgmt.config.unlockTime)).bus) ∧
      (j.1 ≠ .granted →
        t.gate.readers.get i = some { r with last := some (q.token, j.1) } ∧ t.bus = s.bus)) ∧
    (∀ i x c, q.requester = .dispenser i → s.fuel.dispensers.get i = some x → x.card = some c →
      let j := s.judge .dispenser e
      ∃ u : State, u = { s with gate := u.gate, trunk := { s.trunk with sources := u.trunk.sources } } ∧
        journaled (entry j) s u ∧ u.queryOf q.requester = none ∧
        t = u.dispenserDecision i q.token c.grade c.preset j.1 e.account)

/-- A fill decides its queries, oldest first, and then stores its credential with the presence they set (07 R128,
R131, R135). -/
def Sys2Proof.Claim.FillDecidesItsQueries : Prop :=
  ∀ (f : CredentialFill) (k : CredKind) (b : Bool) (fr : IntakeFrame) (s : State),
    takes (.credentialFill (.fields f)) fr s → fillRange f k → (b = true ↔ notStored s f.token) →
    let u := s.taken fr
    let i := f.token.toNat % 256
    let c := fillEntry f k
    let qs := s.queriesFor f.token
    let grantedAt (q : Query) (j : Nat) (side : GateSide) : Prop := q.requester = .gate j ∧
      (∃ r, s.gate.readers.get j = some r ∧ r.side = side) ∧ (s.judge (askerAt side) c).1 = .granted
    ∃ (e : State) (flags : List ReplyFlag),
      exec (.credentialFill (.fields f)) s = done fr (.accepted flags (.credential i qs.length)) e ∧
      (∃ l : List Nat, (∀ j, j ∈ l ↔ ∃ q ∈ qs, ∃ side, grantedAt q j side) ∧
        let v := qs.foldl (fun t q => t.answerQuery q c b) u
        let w := if b then v else { v with gate := { v.gate with cache := v.gate.cache.set i c } }
        e = l.foldl (fun t j => t.gatePresence j f.token) w) ∧
      (∀ x, b = false → e.gate.cache.get i = some x →
        ((∀ q ∈ qs, ∀ j side, ¬grantedAt q j side) → x = c) ∧
        (∀ side, (∃ q ∈ qs, ∃ j, grantedAt q j side) → (∀ q ∈ qs, ∀ j y, grantedAt q j y → y = side) →
          x = { c with presence := presenceAt side })) ∧
      (waitingOnce s qs → ∀ q ∈ qs,
        (∀ j r, q.requester = .gate j → s.gate.readers.get j = some r →
          let d := (s.judge (askerAt r.side) c).1
          (d = .granted → ∃ p, e.gate.readers.get j = some { r with
            last := some (f.token, .granted), windowEnd := some (s.now + s.mgmt.config.unlockTime * 1000)
            unlock := some ⟨f.token, p, presenceAt r.side⟩ }) ∧
          (d ≠ .granted → e.gate.readers.get j = some { r with last := some (f.token, d) })) ∧
        (∀ j x, q.requester = .dispenser j → s.fuel.dispensers.get j = some x → x.card ≠ none →
          (s.judge .dispenser c).1 ≠ .granted → e.fuel.dispensers.get j = some x.idled))

/-- CREDENTIAL FILL decides every pending query of its token from its values, then stores the entry, or flags
NOT_STORED -/
def Obligations.CredentialFillIsStored : Prop :=
  Claim.CredentialFillIsStored ∧ Claim.QueryIsAnsweredByAFill ∧ Claim.FillDecidesItsQueries

/-- One pending query is refused (07 R131, R135, R136; 06 R108). -/
def Sys2Proof.Claim.QueryIsRefused : Prop :=
  ∀ (q : Query) (d : Decision) (queried : Bool) (s : State),
    let t := s.refuseQuery q d queried
    let entry : JournalEntry := ⟨clockNow s, q.requester, some q.token, d, false, false, queried, false⟩
    t.queryOf q.requester = none ∧ t.gate.cache = s.gate.cache ∧
    (∀ i r, q.requester = .gate i → s.gate.readers.get i = some r → d ≠ .granted →
      journaled entry s t ∧ t.gate.readers.get i = some { r with last := some (q.token, d) } ∧ t.bus = s.bus) ∧
    (∀ i x code, q.requester = .dispenser i → s.fuel.dispensers.get i = some x → codeOf d code →
      journaled entry s t ∧ t.fuel.dispensers = s.fuel.dispensers.set i x.idled ∧
      t.bus = (s.writeOneShot x.address (.refuse code)).bus)

/-- CREDENTIAL UNKNOWN and the query timeout (07 R135, R136; the clock at it by log 1, none pending by log 2). -/
def Sys2Proof.Claim.UnknownCredentialAndQueryTimeout : Prop :=
  (∀ (t : Token) (fr : IntakeFrame) (s : State), takes (.credentialUnknown (.fields t)) fr s →
    ∃ e, exec (.credentialUnknown (.fields t)) s = done fr (.accepted [] (.decided (s.queriesFor t).length)) e ∧
      e.gate.queries = undecided s t ∧ e.gate.cache = s.gate.cache ∧
      e = (s.queriesFor t).foldl (fun u q => u.refuseQuery q .unknownToken true) (s.taken fr) ∧
      queriesRefused (s.queriesFor t) .unknownToken true s e) ∧
  (∀ (r : Requester) (q : Query) (s : State), s.active = true → s.queryOf r = some q →
    exec (.queryTimeout r) s =
      acted (State.refuseQuery q .officeTimeout false { s with now := max s.now q.timerEnd }) ∧
    ∃ t, exec (.queryTimeout r) s = .next t ∧ t.now = max s.now q.timerEnd ∧ t.gate.cache = s.gate.cache ∧
      t.gate.queries = (s.gate.queries.filter fun p => decide (p.requester ≠ r)) ∧
      ((∀ i, r = .gate i → s.gate.readers.get i ≠ none) →
        journaled ⟨clockNow s, r, some q.token, .officeTimeout, false, false, false, false⟩ s t)) ∧
  (∀ (r : Requester) (s : State), s.active = true → s.queryOf r = none → exec (.queryTimeout r) s = acted s)

/-- CREDENTIAL UNKNOWN and a query timeout refuse and remove queries (clock at the timeout: log 1; none pending: log
2) -/
def Obligations.UnknownCredentialAndQueryTimeout : Prop :=
  Claim.UnknownCredentialAndQueryTimeout ∧ Claim.QueryIsRefused

/-- INVALIDATE makes the named cache entries not valid and answers how many -/
def Obligations.InvalidateRemovesCacheEntries : Prop :=
  ∀ (f : Invalidate) (fr : IntakeFrame) (s : State), takes (.invalidate (.fields f)) fr s →
    let u := s.taken fr
    let keeps : Nat → CacheEntry → Bool := match f with
      | .token t => fun i e => !(decide (i = t.toNat % 256) && decide (e.tag = t.toNat / 256))
      | .all true => fun _ _ => false
      | .all false => fun _ e => e.pinned
    let c := s.gate.cache.filter fun p => keeps p.1 p.2
    exec (.invalidate (.fields f)) s = done fr (.accepted [] (.invalidated (s.gate.cache.length - c.length)))
      { u with gate := { u.gate with cache := c } }

/-- The decision order (07 R130). -/
def Sys2Proof.Claim.DecisionTestsInOrder : Prop :=
  ∀ (q : Asker) (e : CacheEntry) (s : State),
    let expired := s.mgmt.timeValid = true ∧ ∃ v, e.validUntil = some v ∧ v < s.mgmt.clock
    let unpermitted := q = .dispenser ∧ (e.fuelPermitted = false ∨ e.account = none)
    let absent := ∃ n, e.account = some n ∧ s.account n = none
    let stands (x : Standing) := ∃ n a, e.account = some n ∧ s.account n = some a ∧ a.standing = x
    let unlinked := e.kind = .visitor ∧ q ≠ .exit ∧ ¬∃ p ∈ s.berth.berths,
      (p.2.state = .occupied ∨ p.2.state = .held) ∧ e.account ≠ none ∧ p.2.account = e.account
    let again := q = .entry ∧ e.presence = .inside
    (expired → s.judge q e = (.expired, false)) ∧
    (¬expired → unpermitted → s.judge q e = (.notPermitted, false)) ∧
    (¬expired → ¬unpermitted →
      (absent → s.judge q e = (.unknownAccount, false)) ∧
      (stands .suspended → s.judge q e = (.suspended, false)) ∧
      (stands .stopped → q = .dispenser → s.judge q e = (.stopped, false)) ∧
      (¬absent → ¬stands .suspended → ¬(stands .stopped ∧ q = .dispenser) →
        (unlinked → s.judge q e = (.noBerth, false)) ∧
        (¬unlinked → ¬again → s.judge q e = (.granted, false)) ∧
        (¬unlinked → again →
          (s.mgmt.config.passback = .enforce → s.judge q e = (.passback, false)) ∧
          (s.mgmt.config.passback = .log → s.judge q e = (.granted, true)) ∧
          (s.mgmt.config.passback = .off → s.judge q e = (.granted, false)))))

/-- A card read at a gate reader (07 R131, R132, R134). -/
def Sys2Proof.Claim.CardReadAtAGate : Prop :=
  ∀ (i : Nat) (t : Token) (r : Reader) (s : State), s.gate.readers.get i = some r →
    let x := s.gateCard i t
    let q : Asker := match r.side with
      | .entry => .entry
      | .exit => .exit
    let presence : Presence := match r.side with
      | .entry => .inside
      | .exit => .outside
    let entry (d : Decision) (passback clockFlag : Bool) : JournalEntry :=
      ⟨clockNow s, .gate i, some t, d, clockFlag && !s.mgmt.timeValid, passback, false, false⟩
    (∀ e, s.hit t = some e →
      journaled (entry (s.judge q e).1 (s.judge q e).2 true) s x ∧
      ((s.judge q e).1 = .granted →
        x.gate.readers.get i = some { r with
          last := some (t, .granted), windowEnd := some (s.now + s.mgmt.config.unlockTime * 1000)
          unlock := some ⟨t, some e.presence, presence⟩ } ∧
        x.gate.cache = s.gate.cache.set (t.toNat % 256) { e with presence := presence } ∧
        ∀ d, s.bus.devices.get r.address = some d → ∃ d', x.bus.devices.get r.address = some d' ∧
          ((∀ y, d.slot = some y → y.command.takes (.unlock s.mgmt.config.unlockTime) = true) →
            d'.slot = some ⟨.unlock s.mgmt.config.unlockTime, 0, !d.sequence⟩)) ∧
      ((s.judge q e).1 ≠ .granted →
        x.gate.readers.get i = some { r with last := some (t, (s.judge q e).1) } ∧ x.gate.cache = s.gate.cache)) ∧
    (s.hit t = none →
      x.gate.cache = s.gate.cache ∧
      (s.queryOf (.gate i) ≠ none → journaled (entry .busy false false) s x ∧ x.gate.queries = s.gate.queries) ∧
      (s.queryOf (.gate i) = none → 4 ≤ s.gate.queries.length → journaled (entry .queryBusy false false) s x ∧
        x.gate.queries = s.gate.queries) ∧
      (s.queryOf (.gate i) = none → s.gate.queries.length < 4 → s.trunk.lost = true →
        journaled (entry .officeTimeout false false) s x ∧ x.gate.queries = s.gate.queries) ∧
      (s.queryOf (.gate i) = none → s.gate.queries.length < 4 → s.trunk.lost = false →
        x.gate.journal = s.gate.journal ∧
        x.gate.queries = s.gate.queries ++ [⟨t, .gate i, s.now, s.now + s.mgmt.config.queryTimeout⟩] ∧
        ∃ y, x.trunk.sources.get (sourceKey ⟨.query, i⟩) = some y ∧ y.mark = true))

/-- What a hit is (07 R127). -/
def Sys2Proof.Claim.HitsAreFoundInTheCache : Prop :=
  ∀ (t : Token) (e : CacheEntry) (s : State),
    let held := s.gate.cache.get (t.toNat % 256) = some e ∧ e.tag = t.toNat / 256
    (s.holder t = some e ↔ held) ∧
    (s.hit t = some e ↔ s.mgmt.config.cacheLow ≤ t.toNat ∧ t.toNat ≤ s.mgmt.config.cacheHigh ∧ held)

/-- What a gate reader's reply brings: card, exit button, door (07 R132, R133; 08 R155; the order by log 49). -/
def Sys2Proof.Claim.GateReplyIsDelivered : Prop :=
  (∀ (d : Device) (c e : Nat) (k : Token) (o : Bool) (s : State), s.gateReply d true c k e o =
    s.modReader d.index fun r => { r with door := if o then .opened else .closed }) ∧
  (∀ (d : Device) (c c' e e' : Nat) (k k' : Token) (o o' carded exited swung : Bool) (s : State),
    d.stored = some (.gate c' k' e' o') → (carded = true ↔ .cardRead ∈ d.watch ∧ c' ≠ c) →
    (exited = true ↔ .exitButton ∈ d.watch ∧ e' ≠ e) → (swung = true ↔ .door ∈ d.watch ∧ o' ≠ o) →
    let u := if carded then s.gateCard d.index k else s
    let v := if exited then u.exitButton d.index else u
    s.gateReply d false c k e o = if swung then v.doorEvent d.index o else v) ∧
  (∀ (i : Nat) (r : Reader) (s : State), s.gate.readers.get i = some r →
    let t := s.exitButton i
    journaled ⟨clockNow s, .gate i, none, .exitButton, false, false, false, false⟩ s t ∧
    t.gate.readers = s.gate.readers.set i
      { r with windowEnd := some (s.now + s.mgmt.config.unlockTime * 1000) } ∧
    t.gate.cache = s.gate.cache ∧ t.gate.queries = s.gate.queries ∧ t.bus = s.bus) ∧
  (∀ (i : Nat) (opened : Bool) (r : Reader) (s : State), s.gate.readers.get i = some r →
    let t := s.doorEvent i opened
    let forced := opened = true ∧ ∀ e, r.windowEnd = some e → e < s.now
    t.gate.readers = s.gate.readers.set i { r with door := if opened then .opened else .closed } ∧
    (forced → journaled ⟨clockNow s, .gate i, none, .doorForced, false, false, false, false⟩ s t) ∧
    (¬forced → t.gate.journal = s.gate.journal ∧ t.gate.gap = s.gate.gap))

/-- Hits, the decision order, a card read at a gate, and a gate reader's reply with its exit button and door (order:
log 49) -/
def Obligations.CardsAreDecidedInOrder : Prop :=
  Claim.DecisionTestsInOrder ∧ Claim.CardReadAtAGate ∧ Claim.HitsAreFoundInTheCache ∧ Claim.GateReplyIsDelivered

/-- A card read at a dispenser and the decision of it (06 R107, R108, R110; checks made again by log 40). -/
def Sys2Proof.Claim.CardReadAtADispenser : Prop :=
  (∀ (i grade keypad : Nat) (t : Token) (d : Dispenser) (s : State), s.fuel.dispensers.get i = some d →
    let x := s.dispenserCard i t grade keypad
    let entry (c : Decision) (passback flag : Bool) : JournalEntry :=
      ⟨clockNow s, .dispenser i, some t, c, flag && !s.mgmt.timeValid, passback, false, false⟩
    let preset := presetOf s keypad
    let journalOnly (u : State) : Prop :=
      u = { s with gate := u.gate, trunk := { s.trunk with sources := u.trunk.sources } }
    (d.state ≠ .idle → d.state ≠ .cardWait → x = s.writeOneShot d.address (.refuse 1)) ∧
    (d.state = .cardWait → journalOnly x ∧ journaled (entry .busy false false) s x ∧
      x.gate.queries = s.gate.queries) ∧
    (∀ code, d.state = .idle → startRefused s d grade code → x = s.writeOneShot d.address (.refuse code)) ∧
    (d.state = .idle → (∀ code, ¬startRefused s d grade code) →
      (∀ e, s.hit t = some e → ∃ u, journalOnly u ∧
        journaled (entry (s.judge .dispenser e).1 (s.judge .dispenser e).2 true) s u ∧
        x = u.dispenserDecision i t grade preset (s.judge .dispenser e).1 e.account) ∧
      (∀ c, s.hit t = none → (4 ≤ s.gate.queries.length ∧ c = .queryBusy ∨
          s.gate.queries.length < 4 ∧ s.trunk.lost = true ∧ c = .officeTimeout) →
        ∃ u, journalOnly u ∧ journaled (entry c false false) s u ∧
          x = u.dispenserDecision i t grade preset c none) ∧
      (s.hit t = none → s.gate.queries.length < 4 → s.trunk.lost = false →
        x.fuel.dispensers.get i = some { d with state := .cardWait, card := some ⟨t, grade, preset⟩ } ∧
        x.gate.queries = s.gate.queries ++ [⟨t, .dispenser i, s.now, s.now + s.mgmt.config.queryTimeout⟩] ∧
        ∃ y, x.trunk.sources.get (sourceKey ⟨.query, i + 4⟩) = some y ∧ y.mark = true))) ∧
  (∀ (i grade preset : Nat) (t : Token) (d : Dispenser) (s : State), s.fuel.dispensers.get i = some d →
    let refused (code : Nat) : State := (s.setDispenser i d.idled).writeOneShot d.address (.refuse code)
    (∀ n code, startRefused s d grade code →
      s.dispenserDecision i t grade preset .granted (some n) = refused code) ∧
    (∀ n, (∀ code, ¬startRefused s d grade code) →
      let price := latchedPrice s (some n) grade
      let x : Sale := ⟨none, i, grade, some n, some t, price, preset, 0, limitOf preset price, 0, none, false, false,
        false, clockNow s, none⟩
      ∃ u, s.dispenserDecision i t grade preset .granted (some n) = u ∧
        u.fuel.dispensers = s.fuel.dispensers.set i { d with state := .holding, card := none, sale := some x } ∧
        u.charge = { s.charge with fuel := s.charge.fuel ++ [⟨i, n, .hold preset⟩] } ∧
        u = { s with fuel := u.fuel, charge := u.charge, trunk := { s.trunk with sources := u.trunk.sources } }) ∧
    (∀ c a code, codeOf c code → s.dispenserDecision i t grade preset c a = refused code))

/-- STOP SALE, nozzle timeout (clock: log 1; none: log 2), pump grants, and a dispenser's replies and card reads (logs
36, 40) -/
def Obligations.SalesStopAndPumpsAreGranted : Prop :=
  Claim.StopSaleAndNozzleTimeout ∧ Claim.PumpGrantsKeepWithinConcurrency ∧ Claim.DispenserReplyIsDelivered ∧
    Claim.CardReadAtADispenser

/-! ## The pedestal bus (chapter 8) -/

namespace Sys2Proof.Claim

/-- The fields a DEVICE LOAD gives once its ranges and the needs of its kind are met (08 R145). -/
def deviceForm (f : DeviceLoad) (g : DeviceFields) : Prop :=
  f.kind = .known g.kind ∧ 1 ≤ f.address ∧ f.address ≤ 126 ∧
  (f.pollClass = some (.known g.pollClass) ∨
    f.pollClass = none ∧ g.pollClass = if g.kind = .pedestal then .slow else .fast) ∧
  g.watch = f.watch.getD (watchable g.kind) ∧ (∀ w ∈ g.watch, w ∈ watchable g.kind) ∧
  (g.kind = .pedestal → g.index = 0 ∧ g.side = .entry ∧ g.hose0 = false ∧ g.hose1 = false) ∧
  (g.kind = .gate → f.index = some g.index ∧ g.index ≤ 3 ∧ f.gateSide = some (.known g.side) ∧ g.hose0 = false ∧
    g.hose1 = false) ∧
  (g.kind = .dispenser → f.index = some g.index ∧ g.index ≤ 3 ∧ g.hose0 = f.hose0 ∧ g.hose1 = f.hose1 ∧
    (f.hose0 = true ∨ f.hose1 = true) ∧ g.side = .entry)

/-- A DEVICE LOAD meets an entry of another kind at its address, or its index in another device (08 R145). -/
def deviceExists (f : DeviceLoad) (g : DeviceFields) (s : State) : Prop :=
  (∃ d, s.bus.devices.get f.address = some d ∧ d.kind ≠ g.kind) ∨
  g.kind ≠ .pedestal ∧ ∃ p ∈ s.bus.devices, p.1 ≠ f.address ∧ p.2.kind = g.kind ∧ p.2.index = g.index

/-- A DEVICE LOAD would take its index from a waiting reader, or its index or hoses from a dispenser that is not IDLE
(08 R145). -/
def deviceBusy (g : DeviceFields) (d : Device) (s : State) : Prop :=
  g.kind = .gate ∧ d.index ≠ g.index ∧ s.queryOf (.gate d.index) ≠ none ∨
  g.kind = .dispenser ∧ ∃ r, s.fuel.dispensers.get d.index = some r ∧ r.state ≠ .idle ∧
    (d.index ≠ g.index ∨ r.hose0 ≠ g.hose0 ∨ r.hose1 ≠ g.hose1)

/-- A device is in use against DEVICE REMOVE (08 R146). -/
def deviceUsed (a : Nat) (d : Device) (s : State) : Prop :=
  d.kind = .pedestal ∧
    ((∃ p ∈ s.outlet.outlets, p.2.address = a ∧ (p.2.session ≠ none ∨ p.2.reservation ≠ none)) ∨
      ∃ p ∈ s.tap.taps, p.2.address = a ∧ p.2.state = .opened) ∨
  d.kind = .dispenser ∧ ∃ r, s.fuel.dispensers.get d.index = some r ∧ r.state ≠ .idle

/-- A device after a miss: its state and its miss count (08 R147). -/
def afterMiss (limit : Nat) (d : Device) : DeviceState × Nat :=
  match d.state with
  | .lost => (.lost, d.misses)
  | .online => if limit ≤ 1 then (.lost, 1) else (.missing, 1)
  | .missing => if limit ≤ d.misses + 1 then (.lost, d.misses + 1) else (.missing, d.misses + 1)
  | .unpolled => if limit ≤ d.misses + 1 then (.lost, d.misses + 1) else (.unpolled, d.misses + 1)

/-- The exchange has ended, and the device at its address has a state and a miss count. -/
def endsWith (x : Exchange) (state : DeviceState) (misses : Nat) (t : State) : Prop :=
  t.bus.exchange = none ∧
    ∃ d, t.bus.devices.get x.address = some d ∧ d.state = state ∧ d.misses = misses

/-- The place a cycle has come to in a stage: the last address served in it (08 R150). -/
def placeIn (c : Cycle) (st : Stage) : Nat := if c.stage = st then c.position else 0

/-- A cycle has come to no later stage than a list of stages names. -/
def within (c : Cycle) (l : List Stage) : Prop := c.stage ∈ l

/-- The poll class a device has in a cycle: the one a DEVICE LOAD replaced in it stands until the next (08 R145, log 48). -/
def classIn (c : Cycle) (a : Nat) (d : Device) : PollClass := (c.classes.get a).getD d.pollClass

/-- A pedestal awaits its image in a cycle, with its difference moment (08 R150). -/
def awaits (s : State) (c : Cycle) (a m : Nat) : Prop :=
  ∃ d, s.bus.devices.get a = some d ∧ d.kind = .pedestal ∧ (d.state = .online ∨ d.state = .missing) ∧
    d.differSince = some m ∧ a ∉ c.imaged

/-- A device's one-shot waits for its turn in a cycle (08 R150, R154). -/
def shotWaits (s : State) (c : Cycle) (a : Nat) : Prop :=
  placeIn c .oneShots < a ∧ ∃ d, s.bus.devices.get a = some d ∧ d.state = .online ∧ d.slot ≠ none

/-- A device waits for its poll in the fast stage of a cycle (08 R150). -/
def fastWaits (s : State) (c : Cycle) (a : Nat) : Prop :=
  placeIn c .fast < a ∧ ∃ d, s.bus.devices.get a = some d ∧
    (d.state = .lost ∧ c.counter = 0 ∨ d.state ≠ .lost ∧
      (classIn c a d = .fast ∨ d.kind = .pedestal ∧ ∃ t, d.lastAddressed = some t ∧ t + 1000 < s.now))

/-- A device may be polled in the slow stage of a cycle (08 R150). -/
def slowWaits (s : State) (c : Cycle) (a : Nat) : Prop :=
  0 < a ∧ a ∉ c.fastPolled ∧ ∃ d, s.bus.devices.get a = some d ∧ classIn c a d = .slow ∧ d.state ≠ .lost

/-- The least number with a property. -/
def least (p : Nat → Prop) (a : Nat) : Prop := p a ∧ ∀ b, p b → a ≤ b

/-- No SET OUTPUTS is left in a cycle: 4 went out, none awaits, or the cycle is past them. -/
def imagesOver (s : State) (c : Cycle) : Prop := c.stage = .outputs → c.imaged.length < 4 → ∀ b n, ¬awaits s c b n

/-- Nor is a one-shot. -/
def shotsOver (s : State) (c : Cycle) : Prop :=
  imagesOver s c ∧ (within c [.outputs, .oneShots] → ∀ b, ¬shotWaits s c b)

/-- Nor is a poll of the fast stage. -/
def fastOver (s : State) (c : Cycle) : Prop :=
  shotsOver s c ∧ (within c [.outputs, .oneShots, .fast] → ∀ b, ¬fastWaits s c b)

/-- A cycle has nothing left to send. -/
def cycleOver (s : State) (c : Cycle) : Prop := fastOver s c ∧ (c.stage ≠ .done → ∀ b, ¬slowWaits s c b)

/-- What is next in a cycle, and the cycle after it: up to 4 SET OUTPUTS by difference moment and address, then the
one-shots by address, then the fast stage by address, then the next SLOW device, wrapping (08 R150). -/
def cycleTurn (s : State) (c : Cycle) (b : BusStep) (c' : Cycle) : Prop :=
  ∃ a,
    (c.stage = .outputs ∧ c.imaged.length < 4 ∧ b = .outputs a ∧ c' = { c with imaged := c.imaged ++ [a] } ∧
      ∃ m, awaits s c a m ∧ ∀ x n, awaits s c x n → m < n ∨ m = n ∧ a ≤ x) ∨
    (imagesOver s c ∧ within c [.outputs, .oneShots] ∧ least (shotWaits s c) a ∧ b = .oneShot a ∧
      c' = { c with stage := .oneShots, position := a }) ∨
    (shotsOver s c ∧ within c [.outputs, .oneShots, .fast] ∧ least (fastWaits s c) a ∧ b = .poll a ∧
      c' = { c with stage := .fast, position := a, fastPolled := c.fastPolled ++ [a] }) ∨
    (fastOver s c ∧ c.stage ≠ .done ∧ b = .poll a ∧
      c' = { c with stage := .done, slowPosition := a, position := placeIn c .slow } ∧
      (least (fun x => slowWaits s c x ∧ c.slowPosition < x) a ∨
        least (slowWaits s c) a ∧ ∀ x, slowWaits s c x → x ≤ c.slowPosition))

/-- The cycle that follows a cycle (08 R150). -/
def cycleAfter (c : Cycle) : Cycle :=
  ⟨(c.counter + 1) % 8, .outputs, [], 0, [], c.slowPosition, false, c.empty, []⟩

/-- What the controller sends next, and the cycle after it: nothing during an exchange; what is next in the present cycle;
where that one has sent something and has nothing left, what is next in the cycle that follows (08 R149, R150; log 39). -/
def busTurn (s : State) (b : BusStep) (c : Cycle) : Prop :=
  s.bus.exchange = none ∧ (cycleTurn s s.bus.cycle b c ∨
    cycleOver s s.bus.cycle ∧ s.bus.cycle.sent = true ∧ cycleTurn s (cycleAfter s.bus.cycle) b c)

/-- A device after a valid status reply: ONLINE with miss count 0, the reply stored, its counters taken; at the re-basing
reply a pedestal's last-sent image goes (08 R147, R148, R155 to R157). -/
def repliedDevice (now : Nat) (fresh : Bool) (st : Status) (d : Device) : Device :=
  let e := { d with state := .online, misses := 0, stored := some st }
  match st with
  | .pedestal a b => { e with
      energyA := some a.energy, energyB := some b.energy, litresA := some a.litres, litresB := some b.litres
      lastSent := if fresh then none else d.lastSent
      differSince := if fresh then some (d.differSince.getD now) else d.differSince }
  | .gate _ _ _ _ => e
  | .dispenser _ _ _ _ _ _ t0 t1 => { e with total0 := some t0, total1 := some t1 }

/-- A device after an answered exchange that brings no status: a MISSING one is ONLINE again (08 R147). -/
def answeredDevice (d : Device) : Device :=
  if d.state = .online ∨ d.state = .missing then { d with state := .online, misses := 0 } else d

/-- Two states differ, of all but the poll list, the exchange, the reference clock and the round, in report marks only. -/
def busOnly (s t : State) : Prop :=
  t = { s with now := t.now, bus := t.bus, trunk := { s.trunk with sources := t.trunk.sources } }

/-- A reply frame is whole: from the device addressed, of the length it names, with its CRC (08 Table 8.6). -/
def whole (x : Exchange) (r : BusReply) : Prop :=
  r.address.toNat = x.address ∧ r.payload.length = r.length.toNat ∧ r.crc = busCrc r

end Sys2Proof.Claim

/-- DEVICE LOAD (08 R145, 07 R126; an absent field by log 23, the present cycle by log 48). -/
def Sys2Proof.Claim.DeviceLoadIsCheckedAndStored : Prop :=
  ∀ (f : DeviceLoad) (fr : IntakeFrame) (s : State), takes (.deviceLoad (.fields f)) fr s →
    let u := s.taken fr
    let refused (c : ReasonCode) : Prop := exec (.deviceLoad (.fields f)) s = done fr (.refused c) u
    let full (g : DeviceFields) : Prop := 32 ≤ s.bus.devices.length ∨
      g.kind = .pedestal ∧ 24 ≤ (s.bus.devices.filter fun p => decide (p.2.kind = .pedestal)).length
    ((∀ g, ¬deviceForm f g) → refused .outOfRange) ∧
    (∀ g, deviceForm f g →
      (deviceExists f g s → refused .exists) ∧
      (¬deviceExists f g s → s.bus.devices.get f.address = none →
        (full g → refused .tableFull) ∧
        (¬full g → ∃ e d, exec (.deviceLoad (.fields f)) s =
            done fr (.accepted [] (.device f.address .unpolled)) e ∧
          e.bus.devices = s.bus.devices.set f.address d ∧ e.bus.roundPolled = [] ∧
          d.kind = g.kind ∧ d.pollClass = g.pollClass ∧ d.watch = g.watch ∧ d.index = g.index ∧ d.state = .unpolled ∧
          d.misses = 0 ∧ d.stored = none ∧ d.slot = none ∧ d.lastSent = none ∧ d.desired = s.imageOf f.address ∧
          (g.kind = .gate →
            e.gate.readers = s.gate.readers.set g.index ⟨f.address, g.side, none, none, .unknown, none⟩) ∧
          (g.kind = .dispenser → e.fuel.dispensers = s.fuel.dispensers.set g.index
            ⟨f.address, g.hose0, g.hose1, .idle, none, none, .unknown, 0, none, none, none, false, false⟩))) ∧
      (∀ d, ¬deviceExists f g s → s.bus.devices.get f.address = some d →
        (deviceBusy g d s → refused .inUse) ∧
        (¬deviceBusy g d s → ∃ e, exec (.deviceLoad (.fields f)) s =
            done fr (.accepted [] (.device f.address d.state)) e ∧
          e.bus.devices = s.bus.devices.set f.address
            { d with pollClass := g.pollClass, watch := g.watch, index := g.index } ∧ e.bus.roundPolled = [] ∧
          (s.bus.cycle.sent = true → ∀ x : Device, x.pollClass = g.pollClass →
            classIn e.bus.cycle f.address x = classIn s.bus.cycle f.address d) ∧
          (s.bus.cycle.sent = false → e.bus.cycle = s.bus.cycle) ∧
          (g.kind = .pedestal → e.gate = s.gate ∧ e.fuel = s.fuel) ∧
          (∀ r, g.kind = .gate → s.gate.readers.get d.index = some r → e.fuel = s.fuel ∧ e.gate = { s.gate with
            readers := (s.gate.readers.erase d.index).set g.index { r with address := f.address, side := g.side } }) ∧
          (∀ r, g.kind = .dispenser → s.fuel.dispensers.get d.index = some r → e.gate = s.gate ∧ e.fuel = { s.fuel with
            dispensers := (s.fuel.dispensers.erase d.index).set g.index
              { r with address := f.address, hose0 := g.hose0, hose1 := g.hose1 } }))))

/-- DEVICE REMOVE (08 R146, 04 R73, 07 R137; log 24). -/
def Sys2Proof.Claim.DeviceRemoveTakesADeviceOff : Prop :=
  ∀ (a : Nat) (fr : IntakeFrame) (s : State), takes (.deviceRemove (.fields a)) fr s →
    let refused (c : ReasonCode) : Prop := exec (.deviceRemove (.fields a)) s = done fr (.refused c) (s.taken fr)
    (¬(1 ≤ a ∧ a ≤ 126) → refused .outOfRange) ∧
    (1 ≤ a → a ≤ 126 → s.bus.devices.get a = none → refused .notFound) ∧
    (∀ d, 1 ≤ a → a ≤ 126 → s.bus.devices.get a = some d →
      (deviceUsed a d s → refused .inUse) ∧
      (¬deviceUsed a d s → s.Ordered → ∃ e, exec (.deviceRemove (.fields a)) s = done fr (.accepted [] .none) e ∧
        e.bus.devices.get a = none ∧ e.bus.roundPolled = [] ∧ (∀ x, e.bus.exchange = some x → x.address ≠ a) ∧
        (∀ b v, b ≠ a → s.bus.devices.get b = some v → ∃ v', e.bus.devices.get b = some v' ∧ v'.kind = v.kind ∧
          v'.state = v.state ∧ v'.misses = v.misses) ∧
        (d.kind = .gate → e.gate.readers.get d.index = none ∧ e.queryOf (.gate d.index) = none) ∧
        (d.kind = .dispenser → e.fuel.dispensers.get d.index = none) ∧
        (d.kind = .pedestal →
          (∀ i p, e.outlet.outlets.get i = some p → p.address = a →
            p.fault.disagreeEnd = none ∧ ∀ k, p.fault.recovery.get k = none) ∧
          (∀ i p, e.tap.taps.get i = some p → p.address = a → ∀ k, p.fault.recovery.get k = none) ∧
          (∀ i p k, e.outlet.outlets.get i = some p → p.address = a → k ∉ [.meter, .leak, .valve] →
            e.outletCondition p k = true) ∧
          (∀ i p, e.tap.taps.get i = some p → p.address = a →
            e.tapCondition p .leak = true ∧ e.tapCondition p .valve = true) ∧
          (∀ i o, s.outletOfSide o.ref = some (i, o) → o.address = a → serving o.state →
            (∀ k, o.fault.latches.get k = false) → ∃ p, e.outlet.outlets.get i = some p ∧ p.state = .off ∧
              p.reason = .linkLost ∧ p.session = none ∧ ∀ q ∈ e.outlet.queue, q.outlet ≠ i))))

/-- DEVICE LOAD adds or changes a poll list entry and its unit's record; DEVICE REMOVE takes it off (logs 23, 24, 48)
-/
def Obligations.DevicesAreLoadedAndRemoved : Prop :=
  Claim.DeviceLoadIsCheckedAndStored ∧ Claim.DeviceRemoveTakesADeviceOff

/-- What is next is what the cycle's order gives (08 R150; a pedestal never addressed by log 22, when a cycle ends by
log 39, one image a pedestal by log 55). -/
def Sys2Proof.Claim.TurnOfTheCycle : Prop :=
  ∀ s : State, s.Ordered →
    (∀ b c, s.nextBus = some (b, c) ↔ busTurn s b c) ∧
    (s.bus.exchange = none → cycleOver s s.bus.cycle →
      s.bus.cycle.sent = false ∨ cycleOver s (cycleAfter s.bus.cycle) → s.nextBus = none)

/-- What POLL, SET_OUTPUTS and a one-shot send in their turn (08 R149 to R154; the bit of an ordinary POLL by log 30).
-/
def Sys2Proof.Claim.BusRequestsAreSent : Prop :=
  ∀ (a : Nat) (c : Cycle) (d : Device) (s : State), s.active = true → s.Ordered → s.bus.devices.get a = some d →
    let sent (r : Request) (bit : Bool) (d' : Device) : Host.Outcome State Fault Refusal := acted { s with
      bus := { s.bus with
        devices := s.bus.devices.set a { d' with lastAddressed := some s.now }
        exchange := some ⟨a, r, bit, s.now⟩, cycle := { c with sent := true, empty := 0 } } }
    let bit := if d.lastTransmitted = some d.desired then d.sequence else !d.sequence
    (busTurn s (.poll a) c → exec (.poll a) s = sent
      (.poll (decide (d.kind ≠ .pedestal ∧ (d.state = .unpolled ∨ d.state = .lost)))) d.sequence d) ∧
    (busTurn s (.outputs a) c → exec (.setOutputs a) s = sent (.setOutputs d.desired) bit
      { d with sequence := bit, lastTransmitted := some d.desired }) ∧
    (∀ x, busTurn s (.oneShot a) c → d.slot = some x → exec (.oneShotTransmit a) s =
      sent (.oneShot x.command) x.bit { d with sequence := x.bit, slot := some { x with count := x.count + 1 } })

/-- A send out of its turn changes nothing (log 2). -/
def Sys2Proof.Claim.CommandsOutOfTurn : Prop :=
  ∀ (a : Nat) (s : State), s.active = true → s.Ordered →
    ((∀ c, ¬busTurn s (.poll a) c) → exec (.poll a) s = acted s) ∧
    ((∀ c, ¬busTurn s (.outputs a) c) → exec (.setOutputs a) s = acted s) ∧
    ((∀ c, ¬busTurn s (.oneShot a) c) → exec (.oneShotTransmit a) s = acted s)

/-- Only what is due is sent (08 R150; a pedestal never addressed by log 22). -/
def Sys2Proof.Claim.BusSendsOnlyWhatIsDue : Prop :=
  ∀ (s : State) (b : BusStep) (c : Cycle), s.nextBus = some (b, c) → s.bus.exchange = none ∧
    (∀ a, b = .outputs a → ∃ d, (a, d) ∈ s.bus.devices ∧ d.kind = .pedestal ∧ d.differSince ≠ none ∧
      (d.state = .online ∨ d.state = .missing)) ∧
    (∀ a, b = .oneShot a → ∃ d, (a, d) ∈ s.bus.devices ∧ d.state = .online ∧ d.slot ≠ none) ∧
    (∀ a, b = .poll a → ∃ d, (a, d) ∈ s.bus.devices ∧ (d.state = .lost → c.counter = 0))

/-- An empty cycle advances the counter (08 R150; the end of a cycle that had sent, and the eight in a row, by log 39;
without its occasion by log 2). -/
def Sys2Proof.Claim.EmptyCycleAdvancesTheCounter : Prop :=
  ∀ s : State, s.active = true → s.Ordered →
    let c := s.bus.cycle
    let spent := cycleOver s c ∧ (c.sent = true → cycleOver s (cycleAfter c))
    (s.bus.exchange = none → spent → c.empty < 8 → ∃ t, exec .cycleWithNothingToSend s = .next t ∧
      t.bus.cycle.counter = (c.counter + if c.sent then 2 else 1) % 8 ∧ t.bus.cycle.stage = .outputs ∧
      t.bus.cycle.imaged = [] ∧ t.bus.cycle.fastPolled = [] ∧ t.bus.cycle.classes = [] ∧ t.bus.cycle.sent = false ∧
      t.bus.cycle.empty = c.empty + 1 ∧ t.bus.cycle.slowPosition = c.slowPosition ∧ t.bus.devices = s.bus.devices ∧
      t.bus.exchange = none) ∧
    (s.bus.exchange ≠ none ∨ (∃ b x, busTurn s b x) ∨ 8 ≤ c.empty → exec .cycleWithNothingToSend s = acted s)

/-- The bus sends a POLL, SET_OUTPUTS or one-shot in its turn of the cycle (logs 22, 30, 55); out of turn nothing (log
2); empty cycles (log 39) -/
def Obligations.BusSendsWhatIsDueInItsTurn : Prop :=
  Claim.TurnOfTheCycle ∧ Claim.BusRequestsAreSent ∧ Claim.CommandsOutOfTurn ∧ Claim.BusSendsOnlyWhatIsDue ∧
    Claim.EmptyCycleAdvancesTheCounter

/-- A STATUS reply brings its device ONLINE (08 R147, R155, R157). -/
def Sys2Proof.Claim.StatusReplyBringsADeviceOnline : Prop :=
  ∀ (r : BusReply) (x : Exchange) (d : Device) (st : Status) (resync : Bool) (s : State), s.active = true →
    s.bus.exchange = some x → x.request = .poll resync → s.bus.devices.get x.address = some d → whole x r →
    r.function = 0x81 → parseStatus d.kind r.payload = some st →
    ∃ t d', exec (.statusReply r) s = .next t ∧ t.bus.exchange = none ∧ t.bus.devices.get x.address = some d' ∧
      d'.kind = d.kind ∧ d'.state = .online ∧ d'.misses = 0 ∧ d'.stored = some st ∧ t.now = s.now ∧
      t.mgmt.config = s.mgmt.config ∧ t.berth = s.berth ∧ t.charge.accounts = s.charge.accounts ∧
      t.outlet.serviceHold = s.outlet.serviceHold ∧ t.outlet.protection = s.outlet.protection ∧
      t.tap.waterSuspend = s.tap.waterSuspend ∧ t.trunk.thru = s.trunk.thru ∧ t.tally.freeze = s.tally.freeze

/-- A STATUS reply is stored with its counters and handed to the units of its device's kind (08 R147, R148, R155 to
R157; the poll counts at its reply by log 52). -/
def Sys2Proof.Claim.StatusReplyReachesTheUnits : Prop :=
  ∀ (r : BusReply) (x : Exchange) (d : Device) (st : Status) (resync : Bool) (s : State), s.active = true →
    s.bus.exchange = some x → x.request = .poll resync → s.bus.devices.get x.address = some d → whole x r →
    r.function = 0x81 → parseStatus d.kind r.payload = some st →
    let fresh := decide (d.state = .unpolled ∨ d.state = .lost)
    let w : State := { s with bus := { s.bus with exchange := none } }
    ∃ v : State, busOnly w v ∧ v.now = s.now ∧
      v.bus = { w.bus with devices := s.bus.devices.set x.address (repliedDevice s.now fresh st d) } ∧
      (∀ a b, st = .pedestal a b → exec (.statusReply r) s =
        acted (w.recoveryEdges ((v.pedestalReply x.address d fresh a b).polled x.address))) ∧
      (∀ c k e o, st = .gate c k e o → exec (.statusReply r) s =
        acted (w.recoveryEdges (v.gateReply d fresh c k e o))) ∧
      (∀ c k g p n l t0 t1, st = .dispenser c k g p n l t0 t1 → exec (.statusReply r) s =
        acted (w.recoveryEdges (v.dispenserStatus d fresh c k g p n l t0 t1)))

/-- Change events and deltas of a pedestal's reply, side by side, and the evaluation at the re-basing reply (08 R148,
R155 to R157; the order by log 10). -/
def Sys2Proof.Claim.PedestalReplyIsDelivered : Prop :=
  (∀ (a : Nat) (d : Device) (fresh : Bool) (x y : SideStatus) (s : State) (plugA pressA plugB pressB : Bool),
    let changed {α : Type} (w : WatchField) (f : SideStatus → SideStatus → α × α) : Prop := fresh = false ∧
      w ∈ d.watch ∧ ∃ p q, d.stored = some (.pedestal p q) ∧ (f p q).1 ≠ (f p q).2
    let delta (last : Option Nat) (v : Nat) : Option Nat :=
      if fresh then none else last.map fun l => (v + 65536 - l) % 65536
    (plugA = true ↔ changed .plugA fun p _ => (p.plug, x.plug)) →
    (pressA = true ↔ changed .buttonA fun p _ => (p.button, x.button)) →
    (plugB = true ↔ changed .plugB fun _ q => (q.plug, y.plug)) →
    (pressB = true ↔ changed .buttonB fun _ q => (q.button, y.button)) →
    let u := (s.sideReply ⟨a, .a⟩ x fresh plugA pressA (delta d.energyA x.energy) (delta d.litresA x.litres)).sideReply
      ⟨a, .b⟩ y fresh plugB pressB (delta d.energyB y.energy) (delta d.litresB y.litres)
    s.pedestalReply a d fresh x y =
      if fresh then (u.evalSide ⟨a, .a⟩ .linkLost).evalSide ⟨a, .b⟩ .linkLost else u) ∧
  (∀ (r : SideRef) (x : SideStatus) (fresh plug pressed : Bool) (wh litres : Option Nat) (s : State),
    let tap (u : State) : State := ((u.tapOfSide r).map fun p => u.tapReply p.1 x fresh pressed litres).getD u
    s.sideReply r x fresh plug pressed wh litres =
      tap (((s.outletOfSide r).map fun p => s.outletReply p.1 x fresh plug wh).getD s)) ∧
  (∀ (r : SideRef) (reason : Reason) (s : State), s.evalSide r reason =
    ((s.outletOfSide r).map fun p => (s.evalOutlet p.1 reason).flushAttempts).getD s)

/-- What a reply brings to an outlet, in its order (08 R155, 03 R54, R57, R65, 04 R73, R84; the order by log 10, a
jump with METER disabled by log 25). -/
def Sys2Proof.Claim.OutletReplyIsDelivered : Prop :=
  ∀ (i : Nat) (o : Outlet) (x : SideStatus) (fresh plugChanged : Bool) (delta : Option Nat) (s : State),
    s.outlet.outlets.get i = some o →
    let q := delta.getD 0
    let jump := decide (s.mgmt.config.energyJumpLimit < q)
    let r := s.examineOutlet o x fresh jump
    let trails (u : State) : Bool :=
      (u.outlet.outlets.get i).any fun p => decide (p.readback = .opened ∧ p.state ≠ .live)
    ∃ v : State, v = { s with
        outlet := { s.outlet with outlets := s.outlet.outlets.set i { o with
          fault := r.1, readback := if x.contactorClosed then .closed else .opened, current := x.current
          leakA := x.leakA, leakB := x.leakB, breaker := x.breaker } }
        trunk := { s.trunk with sources := v.trunk.sources } } ∧
      let detected := (r.2.foldl (fun t k => t.detectOutlet i k) (v.energyDelta i q jump)).flushAttempts
      let freed := if trails detected then (detected.releaseReservation i).flushAttempts else detected
      let plugged := if fresh then freed.storePlug i (if x.plug then .present else .absent)
        else if plugChanged then freed.plugEvent i x.plug else freed
      s.outletReply i x fresh plugChanged delta =
        if x.plug then plugged
        else plugged.unplugRecovery i fun k => r.2.contains k && (plugged.protectionOf k).enable

/-- A whole STATUS reply ends the exchange, brings the device ONLINE, is stored, and reaches the units (logs 10, 25,
52) -/
def Obligations.StatusReplyBringsADeviceOnline : Prop :=
  Claim.StatusReplyBringsADeviceOnline ∧ Claim.StatusReplyReachesTheUnits ∧ Claim.PedestalReplyIsDelivered ∧
    Claim.OutletReplyIsDelivered

/-- Energy deltas, and one discarded as a meter jump (03 R65, 04 R78, 11 R183, 02 R37; energy seen by log 11). -/
def Sys2Proof.Claim.MeterDeltasReachSessionsAndTallies : Prop :=
  ∀ (i q : Nat) (o : Outlet) (s : State), s.outlet.outlets.get i = some o →
    let seen : FaultRecord := { o.fault with energySeen := o.fault.energySeen || decide (0 < q) }
    let kept := s.energyDelta i q true
    let t := s.energyDelta i q false
    kept.outlet.outlets.get i = some { o with fault := seen } ∧ kept.tally = s.tally ∧ kept.charge = s.charge ∧
    t.tally.live.energy.getD i 0 = (s.tally.live.energy.getD i 0 + q) % 4294967296 ∧
    (o.session = none → t.outlet.outlets.get i = some { o with fault := seen } ∧ t.charge = s.charge) ∧
    (∀ x, o.session = some x → 0 < q →
      let y : Session := { x with quantity := (x.quantity + q) % 4294967296 }
      (findPosting i s.charge.power = none →
        t.outlet.outlets.get i = some { o with fault := seen, session := some y } ∧
        t.charge.power = s.charge.power ++ [⟨i, x.account, q, none⟩]) ∧
      (∀ e, findPosting i s.charge.power = some e → e.closing = none →
        t.outlet.outlets.get i = some { o with fault := seen, session := some y } ∧
        t.charge.power = s.charge.power.map fun p => if p.source = i then { e with quantity := e.quantity + q } else p) ∧
      (∀ e z, findPosting i s.charge.power = some e → e.closing = some z →
        t.outlet.outlets.get i =
          some { o with fault := seen, session := some { y with unposted := x.unposted + q } } ∧
        t.charge.power = s.charge.power))

/-- Acknowledgements, by the bit of the frame sent (08 R152 to R154). -/
def Sys2Proof.Claim.AcknowledgementsAreTaken : Prop :=
  ∀ (r : BusReply) (x : Exchange) (d : Device) (s : State), s.active = true → s.bus.exchange = some x →
    s.bus.devices.get x.address = some d → whole x r → r.function = 0x82 → r.payload = [] →
    let bit := r.flags.getLsbD 0
    let e := answeredDevice d
    (∀ m, x.request = .setOutputs m → ∃ t, exec (.ackReceived r) s = .next t ∧ t.bus.exchange = none ∧
      (bit = x.bit → t.bus.devices = s.bus.devices.set x.address { e with
        lastSent := some m, acked := some m, differSince := if d.desired = m then none else some s.now }) ∧
      (bit ≠ x.bit → t.bus.devices = s.bus.devices.set x.address e)) ∧
    (∀ c, x.request = .oneShot c → ∃ t, exec (.ackReceived r) s = .next t ∧ t.bus.exchange = none ∧
      (∀ z, d.slot = some z → bit = x.bit → z.bit = x.bit →
        t.bus.devices = s.bus.devices.set x.address { e with slot := none } ∧
        (d.kind ≠ .dispenser → t.fuel = s.fuel) ∧
        (∀ v, d.kind = .dispenser → s.fuel.dispensers.get d.index = some v →
          (∀ g l p, z.command = .authorise g l p → v.state = .authorised → t.fuel.dispensers.get d.index =
            some { v with nozzleEnd := some (s.now + s.mgmt.config.nozzleTimeout * 1000) }) ∧
          (z.command = .stop → v.stopRequested = true →
            t.fuel.dispensers.get d.index = some { v with stopAcked := true }))) ∧
      (d.slot = none ∨ (∃ z, d.slot = some z ∧ (bit = x.bit ∧ z.bit ≠ x.bit ∨ bit ≠ x.bit ∧ z.count < 3)) →
        t.bus.devices = s.bus.devices.set x.address e ∧ t.fuel = s.fuel ∧ t.gate = s.gate))

/-- What a one-shot slot takes (08 R153). -/
def Sys2Proof.Claim.SlotsTakeOneShots : Prop :=
  ∀ (c : OneShot) (d : Device),
    let stored : Device := { d with slot := some ⟨c, 0, !d.sequence⟩ }
    (d.slot = none → d.writeSlot c = stored) ∧
    (∀ z, d.slot = some z →
      let keeps := (z.command = .stop ∨ ∃ g l p, z.command = .authorise g l p) ∧ ∃ code, c = .refuse code
      (keeps → d.writeSlot c = d) ∧ (¬keeps → d.writeSlot c = stored))

/-- COMMAND_FAILED at the third transmission, and what it does at its unit (08 R154, 06 R119, 07 R139). -/
def Sys2Proof.Claim.OneShotsFail : Prop :=
  (∀ (x : Exchange) (d : Device) (z : Slot) (c : OneShot) (s : State), s.active = true → s.bus.exchange = some x →
    s.bus.devices.get x.address = some d → x.request = .oneShot c → d.slot = some z → 3 ≤ z.count →
    let m := afterMiss s.mgmt.config.missLimit d
    let fails (c : Instr) (e : Device) : Prop := ∃ w v, exec c s = acted (State.recoveryEdges w
        (State.commandFailed e v)) ∧ busOnly s w ∧ w.bus = { s.bus with exchange := none } ∧ busOnly w v ∧
      v.bus = { w.bus with devices := s.bus.devices.set x.address { e with slot := none } } ∧ v.now = w.now
    (∀ r : BusReply, whole x r → r.function = 0x82 → r.payload = [] → r.flags.getLsbD 0 ≠ x.bit →
      fails (.ackReceived r) (answeredDevice d)) ∧
    (d.state = .lost ∨ m.1 ≠ .lost → fails .replyTimeout { d with state := m.1, misses := m.2 })) ∧
  (∀ (d : Device) (s : State), d.kind = .pedestal → s.commandFailed d = s) ∧
  (∀ (d : Device) (r : Reader) (s : State), d.kind = .gate → s.gate.readers.get d.index = some r →
    let t := s.commandFailed d
    journaled ⟨clockNow s, .gate d.index, r.unlock.map (·.token), .commandFailed, false, false, false, false⟩ s t ∧
    t.gate.readers = s.gate.readers.set d.index { r with windowEnd := none, unlock := none } ∧
    (∀ u p e, r.unlock = some u → u.before = some p → s.holder u.token = some e → e.presence = u.given →
      t.gate.cache = s.gate.cache.set (u.token.toNat % 256) { e with presence := p }) ∧
    ((∀ u p e, r.unlock = some u → u.before = some p → s.holder u.token = some e → e.presence ≠ u.given) →
      t.gate.cache = s.gate.cache)) ∧
  (∀ (d : Device) (v : Dispenser) (s : State), d.kind = .dispenser → s.fuel.dispensers.get d.index = some v →
    (v.state = .authorised → s.commandFailed d = s.cancelSale false d.index) ∧
    (∀ x, v.state = .delivering → v.sale = some x → s.commandFailed d = s.enterSettling false d.index x.volume true) ∧
    (v.state ≠ .authorised → v.state ≠ .delivering → s.commandFailed d = s))

/-- What a device that enters LOST does to its units (08 R148, 03 R53, 04 R76, R84, 05 R94, 06 R118, 07 R137; the
order of the sides by log 51, the round by log 52). -/
def Sys2Proof.Claim.LostDevicesLeaveTheirUnits : Prop :=
  (∀ (x : Exchange) (d : Device) (s : State), s.active = true → s.bus.exchange = some x →
    s.bus.devices.get x.address = some d → d.state ≠ .lost → (afterMiss s.mgmt.config.missLimit d).1 = .lost →
    let e : Device := { d with state := .lost, misses := (afterMiss s.mgmt.config.missLimit d).2 }
    ∃ w v, busOnly s w ∧ w.bus = { s.bus with exchange := none } ∧ busOnly w v ∧ v.now = w.now ∧
      v.bus = { w.bus with devices := s.bus.devices.set x.address e } ∧
      exec .replyTimeout s = acted (State.recoveryEdges w
        (if (∃ b, x.request = .poll b) ∧ d.kind = .pedestal then State.polled x.address (State.deviceLost x.address e v)
          else State.deviceLost x.address e v))) ∧
  (∀ (a : Nat) (d : Device) (s : State), s.bus.devices.get a = some d →
    (d.slot = none → s.failSlot a = s) ∧
    (d.slot ≠ none → s.failSlot a = State.commandFailed d (s.setDevice a { d with slot := none }))) ∧
  (∀ (a : Nat) (d : Device) (s : State),
    (d.kind = .pedestal → s.deviceLost a d = (s.pedestalGone a).failSlot a) ∧
    (d.kind = .gate → s.deviceLost a d = (s.readerLost d.index).failSlot a) ∧
    (d.kind = .dispenser →
      s.deviceLost a d = ((s.dropQuery (.dispenser d.index)).saleLost d.index).failSlot a)) ∧
  (∀ (a : Nat) (s : State), s.Ordered → (∀ d, s.bus.devices.get a = some d → d.state = .lost) →
    let t := s.pedestalGone a
    (∀ i p, t.outlet.outlets.get i = some p → p.address = a →
      p.fault.disagreeEnd = none ∧ ∀ k, p.fault.recovery.get k = none) ∧
    (∀ i p, t.tap.taps.get i = some p → p.address = a → ∀ k, p.fault.recovery.get k = none) ∧
    (∀ i o, s.outletOfSide o.ref = some (i, o) → o.address = a → serving o.state →
      (∀ k, o.fault.latches.get k = false) →
      ∃ p, t.outlet.outlets.get i = some p ∧ p.state = .off ∧ p.reason = .linkLost ∧ p.session = none) ∧
    (∀ i q, s.tapOfSide q.ref = some (i, q) → q.address = a → q.state = .opened →
      ∃ p, t.tap.taps.get i = some p ∧ p.state = .closed ∧ p.reason = .linkLost ∧ p.session = none)) ∧
  (∀ (i : Nat) (s : State),
    (s.readerLost i).queryOf (.gate i) = none ∧ (s.readerLost i).gate.journal = s.gate.journal ∧
    (∀ r, s.gate.readers.get i = some r →
      (s.readerLost i).gate.readers.get i = some { r with door := .unknown, windowEnd := none })) ∧
  (∀ (i : Nat) (d : Dispenser) (s : State), s.fuel.dispensers.get i = some d →
    (d.state = .cardWait → s.saleLost i = s.setDispenser i d.idled) ∧
    (d.state = .holding ∨ d.state = .waitPump → s.saleLost i = s.cancelSale false i) ∧
    (∀ x, d.state = .authorised ∨ d.state = .delivering → d.sale = some x →
      s.saleLost i = s.enterSettling false i x.volume true) ∧
    (d.state = .idle ∨ d.state = .settling ∨ d.state = .cancelling → s.saleLost i = s))

/-- Misses (08 R147; the clock at a timeout by log 1, a STATUS_REPLY step with another function by log 2, payload
faults by log 35). -/
def Sys2Proof.Claim.MissesCountTowardsLost : Prop :=
  ∀ (x : Exchange) (d : Device) (s : State), s.active = true → s.bus.exchange = some x →
    s.bus.devices.get x.address = some d →
    let m := afterMiss s.mgmt.config.missLimit d
    (∃ t, exec .replyTimeout s = .next t ∧ endsWith x m.1 m.2 t ∧
      t.now = max s.now (x.started + if s.straps.busRate then 3 else 8)) ∧
    (∀ r : BusReply, ¬whole x r ∨ (∃ b, x.request = .poll b) ∧ r.function ≠ 0x81 ∨
        (∀ b, x.request ≠ .poll b) ∧ r.function ≠ 0x82 →
      ∃ t, exec (.badReply r) s = .next t ∧ endsWith x m.1 m.2 t ∧ t.now = s.now) ∧
    (∀ v : BusReply, whole x v → (∃ b, x.request = .poll b) → v.function ≠ 0x81 → exec (.statusReply v) s = acted s)

/-- ACKs are taken by the sent frame's bit; misses count to LOST; failed one-shots and lost devices reach their units
(logs 1, 2, 35, 51, 52) -/
def Obligations.AcknowledgementsAndMissesAreTaken : Prop :=
  Claim.AcknowledgementsAreTaken ∧ Claim.SlotsTakeOneShots ∧ Claim.OneShotsFail ∧ Claim.MissesCountTowardsLost ∧
    Claim.LostDevicesLeaveTheirUnits

/-- Reply payloads (08 Tables 8.8, 8.10, 8.11; door and nozzle bytes by log 35). -/
def Sys2Proof.Claim.ReplyPayloadsAreReadByTheirTables : Prop :=
  (∀ c t3 t2 t1 t0 e o : Byte, parseStatus .gate [c, t3, t2, t1, t0, e, o] =
    some (.gate c.toNat (t3 ++ t2 ++ t1 ++ t0) e.toNat (o != 0))) ∧
  (∀ c t3 t2 t1 t0 g p3 p2 p1 p0 n v3 v2 v1 v0 a3 a2 a1 a0 b3 b2 b1 b0 : Byte,
    parseStatus .dispenser [c, t3, t2, t1, t0, g, p3, p2, p1, p0, n, v3, v2, v1, v0, a3, a2, a1, a0, b3, b2, b1, b0] =
      some (.dispenser c.toNat (t3 ++ t2 ++ t1 ++ t0) g.toNat (p3 ++ p2 ++ p1 ++ p0).toNat (n != 0)
        (v3 ++ v2 ++ v1 ++ v0).toNat (a3 ++ a2 ++ a1 ++ a0).toNat (b3 ++ b2 ++ b1 ++ b0).toNat)) ∧
  (∀ (f c1 c0 e1 e0 l1 l0 k : Byte) (p : List Byte) (before : List Byte),
    parseSide (before ++ [f, c1, c0, e1, e0, l1, l0, k] ++ p) before.length =
      ⟨f.getLsbD 0, f.getLsbD 1, f.getLsbD 2, f.getLsbD 3, f.getLsbD 4, f.getLsbD 5, min (c1 ++ c0).toNat 4000,
        (e1 ++ e0).toNat, (l1 ++ l0).toNat, k.toNat⟩)

/-- Lifetime tallies, and litre deltas of a session (05 R100, 11 R183, 02 R37). -/
def Sys2Proof.Claim.LitreDeltasReachSessions : Prop :=
  (∀ (k q : Nat) (t : Table Nat),
    (addLifetime k q t).getD k 0 = (t.getD k 0 + q) % 4294967296 ∧
    ∀ j, j ≠ k → (addLifetime k q t).get j = t.get j) ∧
  (∀ (i q : Nat) (o : Tap) (s : State), s.tap.taps.get i = some o →
    let t := s.tapDelta i q
    (o.session = none ∨ q = 0 → t = s) ∧
    (∀ x, o.session = some x → 0 < q →
      let y : Session := { x with quantity := (x.quantity + q) % 4294967296 }
      (findPosting i s.charge.water = none →
        t.tap.taps.get i = some { o with session := some y } ∧
        t.charge.water = s.charge.water ++ [⟨i, x.account, q, none⟩]) ∧
      (∀ e, findPosting i s.charge.water = some e → e.closing = none →
        t.tap.taps.get i = some { o with session := some y } ∧
        t.charge.water = s.charge.water.map fun p => if p.source = i then { e with quantity := e.quantity + q } else p) ∧
      (∀ e z, findPosting i s.charge.water = some e → e.closing = some z →
        t.tap.taps.get i = some { o with session := some { y with unposted := x.unposted + q } } ∧
        t.charge.water = s.charge.water)))

/-- The tallies of a sale (06 R120, 11 R183). -/
def Sys2Proof.Claim.SalesReachTheTallies : Prop :=
  (∀ (i volume : Nat) (incomplete : Bool) (d : Dispenser) (x : Sale) (s : State), s.fuel.dispensers.get i = some d →
    d.sale = some x →
    let full := (volume * x.price * 10 + 500) / 1000
    let l := s.tally.live
    let sold : Tallies := { l with fuelSold := addLifetime (2 * i + x.grade) volume l.fuelSold }
    let cap := 281474976710655
    (∀ n, x.account = some n → (s.enterSettling false i volume incomplete).tally.live = sold) ∧
    (x.account = none → (s.enterSettling false i volume incomplete).tally.live =
      if x.grade = 0 then { sold with
        salesCompleted := (l.salesCompleted + 1) % 4294967296
        cashVolume0 := min (l.cashVolume0 + volume) cap, cashAmount0 := min (l.cashAmount0 + full) cap }
      else { sold with
        salesCompleted := (l.salesCompleted + 1) % 4294967296
        cashVolume1 := min (l.cashVolume1 + volume) cap, cashAmount1 := min (l.cashAmount1 + full) cap })) ∧
  (∀ (r : FuelRequest) (h c : Nat) (d : Dispenser) (x : Sale) (s : State), s.fuel.dispensers.get r.dispenser = some d →
    d.sale = some x →
    (s.serveSettle r h c).tally.live.salesCompleted = (s.tally.live.salesCompleted + 1) % 4294967296)

/-- Energy, litre and sale quantities reach sessions, postings and tallies; reply payloads by their tables (logs 11,
35) -/
def Obligations.MeterDeltasAndPayloadLayouts : Prop :=
  Claim.MeterDeltasReachSessionsAndTallies ∧ Claim.LitreDeltasReachSessions ∧ Claim.SalesReachTheTallies ∧
    Claim.ReplyPayloadsAreReadByTheirTables

/-! ## The trunk and the reports (chapter 9) -/

namespace Sys2Proof.Claim

/-- A received trunk frame is valid (09 R161). -/
def goodFrame (rx : RxFrame) : Prop :=
  rx.length.toNat ≤ 240 ∧ rx.frame.payload.length = rx.length.toNat ∧ rx.frame.dest.toNat < 64 ∧
    rx.crc = trunkCrc rx.frame rx.length

/-- The due moment: the earlier of the moment the mark was first set since the last build and the expiry of the period
timer (09 R168, log 29). -/
def dueAt (r : SourceRecord) : Nat :=
  match r.first, r.periodic with
  | some a, some b => min a b
  | some a, none => a
  | none, some b => b
  | none, none => 0

/-- The segment status source is marked in t, where it exists in s (09 R161, R171). -/
def statusMarked (s t : State) : Prop :=
  ∀ r, s.source ⟨.status, 0⟩ = some r → t.source ⟨.status, 0⟩ = some (pended s.now r)

/-- A frame of the part's own is a source's queued report: its report, or a READ reply that carries journal entries
(09 R167, R169; a source made again is the same one, log 42). -/
def isReportOf (x : SourceId) (f : LocalFrame) : Prop :=
  (∃ r, f = .report r ∧ r.source = x) ∨ x.cls = .journal ∧ ∃ r, f = .reply r ∧ r.journalEntries ≠ []

/-- A source has a report queued until its transmission is over: in the LOCAL queue, in transmission, or in the reply
that waits in the management unit (09 R167, R169). -/
def queuedReport (s : State) (x : SourceId) : Prop :=
  (∃ e ∈ s.trunk.own, isReportOf x e.frame) ∨ (∃ h f, s.trunk.transmitting = some (.ownFrame h f) ∧ isReportOf x f) ∨
    ∃ r, s.mgmt.work = .reply r ∧ isReportOf x (.reply r)

/-- The source of a key is due by its record: its mark or its periodic flag makes it due in its mode, and no report of
it is queued (09 R167, R168). -/
def due (s : State) (k : Nat) (r : SourceRecord) : Prop :=
  let x := sourceOfKey k
  s.trunk.sources.get k = some r ∧ ¬queuedReport s x ∧
    (r.mark = true ∧ (s.mode x.cls = .onChange ∨ s.mode x.cls = .both) ∨
      r.periodic ≠ none ∧ (s.mode x.cls = .periodic ∨ s.mode x.cls = .both))

end Sys2Proof.Claim

/-- A frame received on UP (09 R161, R162, R164, R170; logs 15, 16). -/
def Sys2Proof.Claim.FramesReceivedOnUpAreRouted : Prop :=
  ∀ (rx : RxFrame) (s : State),
    let v : State := s.setPort .up true
    let f := rx.frame
    let ends (p : State → Prop) : Prop := ∃ t, exec (.upFrameReceived rx) s = .next t ∧ t.trunk.upConnected = true ∧
      t.trunk.thru = s.trunk.thru ∧ p t
    let heard (p : State → Prop) : Prop := ends fun t =>
      t.trunk.silenceFrom = s.now ∧ t.trunk.lost = false ∧ p t
    let local_ := f.dest.toNat = s.segment ∨ f.dest = 0
    let down := f.dest.toNat ≠ s.segment
    let open_ := s.straps.chainEnd = false ∧ s.trunk.downConnected = true
    (s.phase ≠ .running → exec (.upFrameReceived rx) s = .next v) ∧
    (s.phase = .running → ¬goodFrame rx → ends fun t => t.trunk.upErrors = s.trunk.upErrors + 1 ∧
      t.trunk.intake = s.trunk.intake ∧ t.trunk.down = s.trunk.down ∧ t.trunk.lost = s.trunk.lost) ∧
    (s.phase = .running → goodFrame rx → f.type = 0xF0 → heard fun t =>
      t.trunk.heldEnd = some (s.now + 500) ∧ t.trunk.intake = s.trunk.intake ∧ t.trunk.down = s.trunk.down) ∧
    (s.phase = .running → goodFrame rx → f.type = 0xF1 → heard fun t =>
      t.trunk.heldEnd = none ∧ t.trunk.intake = s.trunk.intake ∧ t.trunk.down = s.trunk.down) ∧
    (s.phase = .running → goodFrame rx → f.type ≠ 0xF0 → f.type ≠ 0xF1 → f.dest.toNat = 63 → heard fun t =>
      t.trunk.upErrors = s.trunk.upErrors + 1 ∧ t.trunk.intake = s.trunk.intake ∧ t.trunk.down = s.trunk.down) ∧
    (s.phase = .running → goodFrame rx → f.type ≠ 0xF0 → f.type ≠ 0xF1 → f.dest.toNat ≠ 63 →
      (s.transparent = false → local_ → heard fun t =>
        (s.trunk.intake = none →
          t.trunk.intake = some ⟨decide (f.dest = 0), f.type, f.tag, formOf rx⟩ ∧
          t.trunk.localDiscards = s.trunk.localDiscards) ∧
        (s.trunk.intake ≠ none →
          t.trunk.intake = s.trunk.intake ∧ t.trunk.localDiscards = s.trunk.localDiscards + 1)) ∧
      (s.transparent = true ∨ ¬local_ → heard fun t => t.trunk.intake = s.trunk.intake) ∧
      (down ∨ f.dest = 0 → heard fun t =>
        (open_ → s.trunk.down.length < 8 → t.trunk.down = s.trunk.down ++ [f] ∧
          t.trunk.noRoute = s.trunk.noRoute ∧ t.trunk.downDiscards = s.trunk.downDiscards) ∧
        (open_ → 8 ≤ s.trunk.down.length → t.trunk.down = s.trunk.down ∧
          t.trunk.downDiscards = s.trunk.downDiscards + 1) ∧
        (¬open_ → t.trunk.down = s.trunk.down ∧
          (f.dest ≠ 0 → s.transparent = false → t.trunk.noRoute =
            some ⟨f.tag, f.dest, match s.trunk.noRoute with
              | none => 1
              | some r => min 255 (r.count + 1)⟩))))

/-- A frame received on DOWN (09 R163, R164). -/
def Sys2Proof.Claim.FramesReceivedOnDownJoinThru : Prop :=
  ∀ (rx : RxFrame) (s : State),
    let v : State := s.setPort .down true
    (s.phase ≠ .running → exec (.downFrameReceived rx) s = .next v) ∧
    (s.phase = .running → ∃ t, exec (.downFrameReceived rx) s = .next t ∧ t.trunk.downConnected = true ∧
      (¬goodFrame rx ∨ rx.frame.type ≠ 0xF0 ∧ rx.frame.type ≠ 0xF1 ∧ rx.frame.dest.toNat ≠ 63 →
        t.trunk.downErrors = s.trunk.downErrors + 1 ∧ t.trunk.thru = s.trunk.thru) ∧
      (goodFrame rx → rx.frame.type = 0xF0 ∨ rx.frame.type = 0xF1 → t = v) ∧
      (goodFrame rx → rx.frame.type ≠ 0xF0 → rx.frame.type ≠ 0xF1 → rx.frame.dest.toNat = 63 →
        (8 ≤ s.trunk.thru.length → t.trunk.thru = s.trunk.thru ∧
          t.trunk.thruDiscards = s.trunk.thruDiscards + 1 ∧ t.trunk.pauseSent = s.trunk.pauseSent) ∧
        (s.trunk.thru.length < 8 → t.trunk.thru = s.trunk.thru ++ [⟨rx.frame, s.now⟩] ∧
          (s.trunk.pauseSent = false → 5 ≤ s.trunk.thru.length → t.trunk.pauseSent = true ∧
            t.trunk.pauseEnd = some (s.now + 200) ∧ t.trunk.links = s.trunk.links ++ [.pause]) ∧
          (s.trunk.pauseSent = true ∨ s.trunk.thru.length < 5 → t.trunk.pauseSent = s.trunk.pauseSent ∧
            t.trunk.links = s.trunk.links))))

/-- Frames received on UP and DOWN are checked, counted and routed to the intake, the DOWN queue or the THRU queue
(log 15) -/
def Obligations.ReceivedTrunkFramesAreRouted : Prop :=
  Claim.FramesReceivedOnUpAreRouted ∧ Claim.FramesReceivedOnDownJoinThru

/-- PAUSE, RESUME, their timers, and the ports (09 R161, R164; the clock at an expiry by log 1, port states by log 16,
the next repeat by log 40). -/
def Sys2Proof.Claim.PauseResumeAndPorts : Prop :=
  ∀ s : State,
    (s.phase = .running →
      (∃ t, exec .pauseReceived s = .next t ∧ t.trunk.heldEnd = some (s.now + 500) ∧ t.trunk.lost = false ∧
        t.trunk.silenceFrom = s.now ∧ t.trunk.upConnected = true) ∧
      (∃ t, exec .resumeReceived s = .next t ∧ t.trunk.heldEnd = none ∧ t.trunk.lost = false ∧
        t.trunk.silenceFrom = s.now ∧ t.trunk.upConnected = true) ∧
      (∀ e, s.trunk.heldEnd = some e → ∃ t, exec .upstreamHoldExpiry s = .next t ∧ t.trunk.heldEnd = none ∧
        t.now = max s.now e) ∧
      (∀ e, s.trunk.pauseEnd = some e → ∃ t, exec .pauseRepeat s = .next t ∧
        t.trunk.links = s.trunk.links ++ [.pause] ∧ t.trunk.pauseEnd = some (e + 200) ∧ t.now = max s.now e)) ∧
    (s.phase ≠ .held → ∀ b : Bool,
      let up : Instr := if b then .portConnected .up else .portDisconnected .up
      let down : Instr := if b then .portConnected .down else .portDisconnected .down
      (∃ t, exec up s = .next t ∧ t.trunk.upConnected = b ∧ t.trunk.downConnected = s.trunk.downConnected ∧
        (s.trunk.upConnected = b → t = s) ∧ (s.trunk.upConnected ≠ b → statusMarked s t)) ∧
      (∃ t, exec down s = .next t ∧ t.trunk.downConnected = b ∧ t.trunk.upConnected = s.trunk.upConnected ∧
        (s.trunk.downConnected = b → t = s) ∧ (s.trunk.downConnected ≠ b → statusMarked s t)))

/-- The upstream transmitter chooses (09 R165; log 13). -/
def Sys2Proof.Claim.UpstreamTransmitterChooses : Prop :=
  ∀ s : State, s.phase = .running →
    let free := s.trunk.transmitting = none ∧ s.trunk.heldEnd = none
    let aged (entered : Nat) := s.mgmt.config.promoteAge < s.now - entered
    let sendsThru := ∃ e rest, s.trunk.thru = e :: rest ∧
      (s.trunk.own = [] ∨ ∃ o l, s.trunk.own = o :: l ∧
        (s.mgmt.config.upstreamPriority = .thruFirst ∧ ¬aged o.entered ∨
          s.mgmt.config.upstreamPriority = .localFirst ∧ aged e.entered))
    (∀ e rest, free → s.trunk.thru = e :: rest → sendsThru → ∃ t, exec .upstreamTransmit s = .next t ∧
      t.trunk.transmitting = some (.thru e.frame) ∧ t.trunk.thru = rest ∧ t.trunk.own = s.trunk.own ∧
      (s.trunk.pauseSent = true → rest.length ≤ 2 → t.trunk.pauseSent = false ∧
        t.trunk.links = s.trunk.links ++ [.resume])) ∧
    (∀ o l, free → s.trunk.own = o :: l → ¬sendsThru → ∃ t, exec .upstreamTransmit s = .next t ∧
      t.trunk.transmitting = some (.ownFrame o.head o.frame) ∧ t.trunk.thru = s.trunk.thru ∧ ∃ m, t.trunk.own = l ++ m) ∧
    (¬free ∨ s.trunk.thru = [] ∧ s.trunk.own = [] → exec .upstreamTransmit s = .next s.refreshActive)

/-- Transmissions end (09 R164, R165, 07 R141; log 14). -/
def Sys2Proof.Claim.TransmissionsEnd : Prop :=
  ∀ s : State, s.phase = .running →
    (∀ f, s.trunk.transmitting = some (.thru f) → ∃ t, exec .upstreamFrameSent s = .next t ∧
      t.trunk.transmitting = none ∧ t.gate = s.gate) ∧
    (∀ h f, s.trunk.transmitting = some (.ownFrame h f) → ∃ t, exec .upstreamFrameSent s = .next t ∧
      t.trunk.transmitting = none ∧ (f.journal? = none → t.gate = s.gate) ∧
      (∀ entries gap, f.journal? = some (entries, gap) → t.gate.journal = s.gate.journal.drop entries.length ∧
        t.gate.gap = (s.gate.gap && !gap) ∧ t.gate.cache = s.gate.cache)) ∧
    (∀ l rest, s.trunk.links = l :: rest → ∃ t, exec .downTransmit s = .next t ∧ t.trunk.links = rest ∧
      t.trunk.down = s.trunk.down ∧ ∃ f, t.trunk.lastDown = some f ∧ f.dest = 0 ∧ f.payload = [] ∧
        (l = .pause → f.type = 0xF0) ∧ (l = .resume → f.type = 0xF1)) ∧
    (∀ f rest, s.trunk.links = [] → s.trunk.down = f :: rest → ∃ t, exec .downTransmit s = .next t ∧
      t.trunk.links = [] ∧ t.trunk.down = rest ∧ t.trunk.lastDown = some f)

/-- PAUSE, RESUME and the ports, the choice of the upstream transmitter, and the ends of transmissions (logs 1, 2, 13,
14, 16, 40) -/
def Obligations.TrunkPortsAndTransmitters : Prop :=
  Claim.PauseResumeAndPorts ∧ Claim.UpstreamTransmitterChooses ∧ Claim.TransmissionsEnd

/-- A LOCAL slot is filled in order (09 R167, 10 R177). -/
def Sys2Proof.Claim.LocalSlotIsFilledInOrder : Prop :=
  ∀ s : State, s.active = true →
    (16 ≤ s.trunk.own.length → exec .localSlotFill s = acted s) ∧
    (s.trunk.own.length < 16 →
      (∀ r, s.mgmt.work = .reply r → exec .localSlotFill s = acted { s with
        trunk := { s.trunk with own := s.trunk.own ++ [joined s r.type r.tag (.reply r)] }
        mgmt := { s.mgmt with work := .idle } }) ∧
      (∀ n, (∀ r, s.mgmt.work ≠ .reply r) → s.trunk.noRoute = some n → exec .localSlotFill s = acted { s with
        trunk := { s.trunk with
          noRoute := none, own := s.trunk.own ++ [joined s 0xF2 n.tag (.noRoute n.tag n.dest n.count)] } }) ∧
      ((∀ r, s.mgmt.work ≠ .reply r) → s.trunk.noRoute = none → exec .localSlotFill s = acted s.fillReport))

/-- The report of the source due first (09 R167, R168; logs 29, 40, 42). -/
def Sys2Proof.Claim.ReportOfTheSourceDueFirst : Prop :=
  ∀ s : State, s.Ordered →
    ((∀ k r, ¬due s k r) → s.fillReport = s) ∧
    (∀ x r body, x.wf = true → due s (sourceKey x) r →
      (∀ k q, due s k q → dueAt r < dueAt q ∨ dueAt r = dueAt q ∧ sourceKey x ≤ k) →
      s.bodyOf x = some body →
      let marked := r.mark = true ∧ (s.mode x.cls = .onChange ∨ s.mode x.cls = .both)
      let builds := ¬marked ∨ x.cls = .account ∨ x.cls = .query ∨ x.cls = .journal ∨ r.image ≠ some body.image
      let report (cause : Cause) : Report := ⟨x, cause, s.mgmt.clock, s.mgmt.timeValid, s.trunk.lost, body⟩
      let sent (cause : Cause) : Prop := s.fillReport.trunk.own = s.trunk.own ++ [joined s 0xF8 0 (.report (report cause))] ∧
        (x.cls ≠ .journal →
          s.fillReport.source x = some ⟨false, none, none, s.freshTimer x.cls, some body.image⟩) ∧
        (x.cls = .journal → s.fillReport.gate.copied = s.gate.copied + s.gate.batch.length) ∧
        (∀ y, sourceKey y ≠ sourceKey x → s.fillReport.source y = s.source y)
      (builds → marked → sent .change) ∧
      (builds → ¬marked → sent .periodic) ∧
      (¬builds → s.fillReport = State.fillReport (s.modSource x fun q => { q with mark := false })))

/-- A free LOCAL slot takes the waiting reply, then NO_ROUTE, then the report of the source due first (logs 29, 40,
42) -/
def Obligations.LocalSlotsAndReportsAreBuilt : Prop :=
  Claim.LocalSlotIsFilledInOrder ∧ Claim.ReportOfTheSourceDueFirst

/-- READ returns a report of its source with cause READ, or REPORT_QUEUED, or is refused (queued: logs 40, 42) -/
def Obligations.ReadReturnsTheReport : Prop :=
  ∀ (f : ReadFields) (fr : IntakeFrame) (s : State), takes (.read (.fields f)) fr s →
    let u := s.taken fr
    (ReportClass.ofCode f.cls = none → exec (.read (.fields f)) s = done fr (.refused .outOfRange) u) ∧
    (∀ c, ReportClass.ofCode f.cls = some c →
      let x : SourceId := ⟨c, f.ident⟩
      (x.wf = false → exec (.read (.fields f)) s = done fr (.refused .outOfRange) u) ∧
      (x.wf = true → s.source x = none → exec (.read (.fields f)) s = done fr (.refused .notFound) u) ∧
      (x.wf = true → s.source x ≠ none → queuedReport s x →
        exec (.read (.fields f)) s = done fr (.accepted [.reportQueued] .none) u) ∧
      (∀ r body, x.wf = true → s.source x = some r → ¬queuedReport s x → u.bodyOf x = some body →
        ∃ e, exec (.read (.fields f)) s =
            done fr (.accepted [] (.report ⟨x, .read, s.mgmt.clock, s.mgmt.timeValid, s.trunk.lost, body⟩)) e ∧
          (c ≠ .journal → e.source x = some ⟨false, none, none, u.freshTimer c, some body.image⟩) ∧
          (∀ o, c = .outlet → s.outlet.outlets.get f.ident = some o →
            e.outlet.outlets.get f.ident = some { o with ends := [], endsDropped := false }) ∧
          (∀ q, c = .tap → s.tap.taps.get f.ident = some q →
            e.tap.taps.get f.ident = some { q with ends := [], endsDropped := false }) ∧
          (c = .journal → e.gate.copied = s.gate.copied + s.gate.batch.length ∧ e.gate.journal = s.gate.journal)))

/-- Marks, the alarm refresh and period timers (09 R168, 04 R89, R90; the clock at an expiry by log 1, no timer by log
2, the idle timer by log 29). -/
def Sys2Proof.Claim.MarksAndPeriodTimers : Prop :=
  (∀ (c : ReportClass) (i : Nat) (s : State),
    (s.source ⟨c, i⟩ = none → (s.mark c i).trunk.sources = s.trunk.sources) ∧
    (∀ r, s.source ⟨c, i⟩ = some r → (s.mark c i).source ⟨c, i⟩ = some (pended s.now r)) ∧
    (∀ k, k ≠ sourceKey ⟨c, i⟩ → (s.mark c i).trunk.sources.get k = s.trunk.sources.get k) ∧
    s.mark c i = { s with trunk := { s.trunk with sources := (s.mark c i).trunk.sources } }) ∧
  (∀ s : State,
    (s.outlet.raw = s.conditions → s.refreshAlarm = s) ∧
    (s.outlet.raw ≠ s.conditions →
      s.refreshAlarm = State.mark .alarm 0 { s with outlet := { s.outlet with raw := s.conditions } }) ∧
    (s.alarmDrivenLow = true ↔ s.active = true ∧ s.outlet.raw.meets s.mgmt.config.alarmMask = false)) ∧
  (∀ (x : SourceId) (s : State), s.active = true →
    (∀ r e, s.source x = some r → r.timerEnd = some e → ∃ t, exec (.periodTimerExpiry x) s = .next t ∧
      t.now = max s.now e ∧ ∃ q, t.source x = some q ∧ q.periodic = r.periodic.or (some e) ∧ q.timerEnd = none ∧
        q.image = r.image ∧ (sourceKey x ≠ sourceKey ⟨.alarm, 0⟩ → q.mark = r.mark)) ∧
    (s.source x = none ∨ (∃ r, s.source x = some r ∧ r.timerEnd = none) →
      exec (.periodTimerExpiry x) s = acted s))

/-- The silence time, and the queries it fails (09 R170, 07 R137; the clock at it by log 1, while lost by log 2, the
order of the queries by log 51). -/
def Sys2Proof.Claim.SilenceEntersUpstreamLoss : Prop :=
  ∀ s : State, s.active = true →
    (s.trunk.lost = false → ∃ t, exec .upstreamSilenceExpiry s = .next t ∧ t.trunk.lost = true ∧ t.gate.queries = [] ∧
      t.gate.cache = s.gate.cache ∧ t.now = max s.now (s.trunk.silenceFrom + s.mgmt.config.silenceLimit * 1000) ∧
      t.outlet.raw.upstreamLost = true ∧ queriesRefused s.gate.queries .officeTimeout false s t) ∧
    (s.trunk.lost = true → exec .upstreamSilenceExpiry s = acted s)

/-- Marks, the alarm refresh and its pin, period timers, and the entry into upstream loss (logs 1, 2, 29, 51) -/
def Obligations.MarksTimersAndSilence : Prop :=
  Claim.MarksAndPeriodTimers ∧ Claim.SilenceEntersUpstreamLoss

/-! ## Tallies (chapter 11) -/

/-- FREEZE RELEASE and auto-release (clock: log 1; no freeze: log 2) end a freeze; READ TALLY returns the pages of the
frozen view -/
def Obligations.FreezeEndsAndPagesAreRead : Prop :=
  ∀ s : State,
    let ended (u : State) (c : FreezeEnd) : State :=
      State.markStatus { u with tally := { u.tally with freeze := none, lastEnd := some c } }
    (∀ fr, takes (.freezeRelease (.fields ())) fr s →
      let u := s.taken fr
      (s.tally.freeze = none → exec (.freezeRelease (.fields ())) s = done fr (.refused .notFrozen) u) ∧
      (s.tally.freeze ≠ none →
        exec (.freezeRelease (.fields ())) s = done fr (.accepted [] .none) (ended u .release))) ∧
    (∀ f, s.active = true → s.tally.freeze = some f →
      exec .freezeAutoRelease s = acted (ended { s with now := max s.now f.releaseEnd } .autoRelease)) ∧
    (s.active = true → s.tally.freeze = none → exec .freezeAutoRelease s = acted s) ∧
    (∀ n fr, takes (.readTally (.fields n)) fr s →
      let u := s.taken fr
      (s.tally.freeze = none → exec (.readTally (.fields n)) s = done fr (.refused .notFrozen) u) ∧
      (∀ f, s.tally.freeze = some f →
        let pages := 4 + (f.accounts.length + 7) / 8
        let values (t : Table Nat) (first count : Nat) : List Nat :=
          (List.range count).map fun i => (t.get (first + i)).getD 0
        let answers (p : TallyPage) : Prop :=
          exec (.readTally (.fields n)) s = done fr (.accepted [] (.page p)) u
        (pages ≤ n → exec (.readTally (.fields n)) s = done fr (.refused .outOfRange) u) ∧
        (n = 0 → answers (.head ⟨s.tally.period, f.moment, pages, f.level0, f.level1, f.tallies.salesCompleted,
          f.tallies.cashVolume0, f.tallies.cashAmount0, f.tallies.chargedFuel0, f.tallies.cashVolume1,
          f.tallies.cashAmount1, f.tallies.chargedFuel1, f.tallies.chargedPower, f.tallies.chargedWater⟩)) ∧
        (n = 1 → answers (.energy (values f.tallies.energy 1 48))) ∧
        (n = 2 → answers (.litres (values f.tallies.litres 1 48))) ∧
        (n = 3 → answers (.fuel (values f.tallies.fuelSold 0 8) (values f.tallies.totaliser 0 8))) ∧
        (4 ≤ n → n < pages → answers (.accounts ((f.accounts.drop (8 * (n - 4))).take 8)))))

/-! ## Invariants of every step -/

/-- Every table stays in strict order of its key. -/
def Sys2Proof.Claim.TablesStayOrdered : Prop := KeptByStep State.Ordered

/-- Every queue stays within its places (09 Table 9.1, 07 R134, R140). -/
def Sys2Proof.Claim.QueuesStayBounded : Prop := KeptByStep State.Bounded

/-- Every step keeps: tables in strict order of key, and queues within the places the manual gives them -/
def Obligations.TablesStayOrderedAndQueuesBounded : Prop :=
  Claim.TablesStayOrdered ∧ Claim.QueuesStayBounded

/-- Every step keeps law L12: at most one report frame of any one source in the LOCAL queue -/
def Obligations.OneReportPerSource : Prop := KeptByStep State.OneReport
end

