-- ==== Sys2Proof/Laws/State.lean ====
section
/-! SUPPORT. What each record update leaves and what it writes, field by field, so that no proof unfolds an update. -/

namespace Sys2Proof.Machine

open Sys2Proof

variable (s : State)

/-! ### advanceTo -/

@[simp] theorem State.advanceTo_pending (t : Nat) : (s.advanceTo t).pending = s.pending := rfl
@[simp] theorem State.advanceTo_phase (t : Nat) : (s.advanceTo t).phase = s.phase := rfl
@[simp] theorem State.advanceTo_straps (t : Nat) : (s.advanceTo t).straps = s.straps := rfl
@[simp] theorem State.advanceTo_now (t : Nat) : (s.advanceTo t).now = max s.now t := rfl
@[simp] theorem State.advanceTo_mgmt (t : Nat) : (s.advanceTo t).mgmt = s.mgmt := rfl
@[simp] theorem State.advanceTo_berth (t : Nat) : (s.advanceTo t).berth = s.berth := rfl
@[simp] theorem State.advanceTo_charge (t : Nat) : (s.advanceTo t).charge = s.charge := rfl
@[simp] theorem State.advanceTo_outlet (t : Nat) : (s.advanceTo t).outlet = s.outlet := rfl
@[simp] theorem State.advanceTo_tap (t : Nat) : (s.advanceTo t).tap = s.tap := rfl
@[simp] theorem State.advanceTo_fuel (t : Nat) : (s.advanceTo t).fuel = s.fuel := rfl
@[simp] theorem State.advanceTo_gate (t : Nat) : (s.advanceTo t).gate = s.gate := rfl
@[simp] theorem State.advanceTo_bus (t : Nat) : (s.advanceTo t).bus = s.bus := rfl
@[simp] theorem State.advanceTo_trunk (t : Nat) : (s.advanceTo t).trunk = s.trunk := rfl
@[simp] theorem State.advanceTo_tally (t : Nat) : (s.advanceTo t).tally = s.tally := rfl

/-! ### tick -/

@[simp] theorem State.tick_pending : (s.tick).pending = s.pending := rfl
@[simp] theorem State.tick_phase : (s.tick).phase = s.phase := rfl
@[simp] theorem State.tick_straps : (s.tick).straps = s.straps := rfl
@[simp] theorem State.tick_now : (s.tick).now = s.now + 1 := rfl
@[simp] theorem State.tick_mgmt : (s.tick).mgmt = s.mgmt := rfl
@[simp] theorem State.tick_berth : (s.tick).berth = s.berth := rfl
@[simp] theorem State.tick_charge : (s.tick).charge = s.charge := rfl
@[simp] theorem State.tick_outlet : (s.tick).outlet = s.outlet := rfl
@[simp] theorem State.tick_tap : (s.tick).tap = s.tap := rfl
@[simp] theorem State.tick_fuel : (s.tick).fuel = s.fuel := rfl
@[simp] theorem State.tick_gate : (s.tick).gate = s.gate := rfl
@[simp] theorem State.tick_bus : (s.tick).bus = s.bus := rfl
@[simp] theorem State.tick_trunk : (s.tick).trunk = s.trunk := rfl
@[simp] theorem State.tick_tally : (s.tick).tally = s.tally := rfl

/-! ### entryOf -/

@[simp] theorem State.entryOf_frame (f : LocalFrame) : (s.entryOf f).frame = f := rfl
@[simp] theorem State.entryOf_entered (f : LocalFrame) : (s.entryOf f).entered = s.now := rfl
@[simp] theorem State.entryOf_head (f : LocalFrame) :
    (s.entryOf f).head = ⟨63, BitVec.ofNat 8 s.segment, f.type, f.tag⟩ := rfl

/-! ### setBerth -/

@[simp] theorem State.setBerth_pending (i : Nat) (b : Berth) : (s.setBerth i b).pending = s.pending := rfl
@[simp] theorem State.setBerth_phase (i : Nat) (b : Berth) : (s.setBerth i b).phase = s.phase := rfl
@[simp] theorem State.setBerth_straps (i : Nat) (b : Berth) : (s.setBerth i b).straps = s.straps := rfl
@[simp] theorem State.setBerth_now (i : Nat) (b : Berth) : (s.setBerth i b).now = s.now := rfl
@[simp] theorem State.setBerth_mgmt (i : Nat) (b : Berth) : (s.setBerth i b).mgmt = s.mgmt := rfl
@[simp] theorem State.setBerth_berth (i : Nat) (b : Berth) :
    (s.setBerth i b).berth = { s.berth with berths := s.berth.berths.set i b } := rfl
@[simp] theorem State.setBerth_charge (i : Nat) (b : Berth) : (s.setBerth i b).charge = s.charge := rfl
@[simp] theorem State.setBerth_outlet (i : Nat) (b : Berth) : (s.setBerth i b).outlet = s.outlet := rfl
@[simp] theorem State.setBerth_tap (i : Nat) (b : Berth) : (s.setBerth i b).tap = s.tap := rfl
@[simp] theorem State.setBerth_fuel (i : Nat) (b : Berth) : (s.setBerth i b).fuel = s.fuel := rfl
@[simp] theorem State.setBerth_gate (i : Nat) (b : Berth) : (s.setBerth i b).gate = s.gate := rfl
@[simp] theorem State.setBerth_bus (i : Nat) (b : Berth) : (s.setBerth i b).bus = s.bus := rfl
@[simp] theorem State.setBerth_trunk (i : Nat) (b : Berth) : (s.setBerth i b).trunk = s.trunk := rfl
@[simp] theorem State.setBerth_tally (i : Nat) (b : Berth) : (s.setBerth i b).tally = s.tally := rfl

/-! ### setAccount -/

@[simp] theorem State.setAccount_pending (n : Nat) (a : Account) : (s.setAccount n a).pending = s.pending := rfl
@[simp] theorem State.setAccount_phase (n : Nat) (a : Account) : (s.setAccount n a).phase = s.phase := rfl
@[simp] theorem State.setAccount_straps (n : Nat) (a : Account) : (s.setAccount n a).straps = s.straps := rfl
@[simp] theorem State.setAccount_now (n : Nat) (a : Account) : (s.setAccount n a).now = s.now := rfl
@[simp] theorem State.setAccount_mgmt (n : Nat) (a : Account) : (s.setAccount n a).mgmt = s.mgmt := rfl
@[simp] theorem State.setAccount_berth (n : Nat) (a : Account) : (s.setAccount n a).berth = s.berth := rfl
@[simp] theorem State.setAccount_charge (n : Nat) (a : Account) :
    (s.setAccount n a).charge = { s.charge with accounts := s.charge.accounts.set n a } := rfl
@[simp] theorem State.setAccount_outlet (n : Nat) (a : Account) : (s.setAccount n a).outlet = s.outlet := rfl
@[simp] theorem State.setAccount_tap (n : Nat) (a : Account) : (s.setAccount n a).tap = s.tap := rfl
@[simp] theorem State.setAccount_fuel (n : Nat) (a : Account) : (s.setAccount n a).fuel = s.fuel := rfl
@[simp] theorem State.setAccount_gate (n : Nat) (a : Account) : (s.setAccount n a).gate = s.gate := rfl
@[simp] theorem State.setAccount_bus (n : Nat) (a : Account) : (s.setAccount n a).bus = s.bus := rfl
@[simp] theorem State.setAccount_trunk (n : Nat) (a : Account) : (s.setAccount n a).trunk = s.trunk := rfl
@[simp] theorem State.setAccount_tally (n : Nat) (a : Account) : (s.setAccount n a).tally = s.tally := rfl

/-! ### setOutlet -/

@[simp] theorem State.setOutlet_pending (i : Nat) (o : Outlet) : (s.setOutlet i o).pending = s.pending := rfl
@[simp] theorem State.setOutlet_phase (i : Nat) (o : Outlet) : (s.setOutlet i o).phase = s.phase := rfl
@[simp] theorem State.setOutlet_straps (i : Nat) (o : Outlet) : (s.setOutlet i o).straps = s.straps := rfl
@[simp] theorem State.setOutlet_now (i : Nat) (o : Outlet) : (s.setOutlet i o).now = s.now := rfl
@[simp] theorem State.setOutlet_mgmt (i : Nat) (o : Outlet) : (s.setOutlet i o).mgmt = s.mgmt := rfl
@[simp] theorem State.setOutlet_berth (i : Nat) (o : Outlet) : (s.setOutlet i o).berth = s.berth := rfl
@[simp] theorem State.setOutlet_charge (i : Nat) (o : Outlet) : (s.setOutlet i o).charge = s.charge := rfl
@[simp] theorem State.setOutlet_outlet (i : Nat) (o : Outlet) :
    (s.setOutlet i o).outlet = { s.outlet with outlets := s.outlet.outlets.set i o } := rfl
@[simp] theorem State.setOutlet_tap (i : Nat) (o : Outlet) : (s.setOutlet i o).tap = s.tap := rfl
@[simp] theorem State.setOutlet_fuel (i : Nat) (o : Outlet) : (s.setOutlet i o).fuel = s.fuel := rfl
@[simp] theorem State.setOutlet_gate (i : Nat) (o : Outlet) : (s.setOutlet i o).gate = s.gate := rfl
@[simp] theorem State.setOutlet_bus (i : Nat) (o : Outlet) : (s.setOutlet i o).bus = s.bus := rfl
@[simp] theorem State.setOutlet_trunk (i : Nat) (o : Outlet) : (s.setOutlet i o).trunk = s.trunk := rfl
@[simp] theorem State.setOutlet_tally (i : Nat) (o : Outlet) : (s.setOutlet i o).tally = s.tally := rfl

/-! ### modOutlet -/

@[simp] theorem State.modOutlet_pending (i : Nat) (f : Outlet → Outlet) : (s.modOutlet i f).pending = s.pending := rfl
@[simp] theorem State.modOutlet_phase (i : Nat) (f : Outlet → Outlet) : (s.modOutlet i f).phase = s.phase := rfl
@[simp] theorem State.modOutlet_straps (i : Nat) (f : Outlet → Outlet) : (s.modOutlet i f).straps = s.straps := rfl
@[simp] theorem State.modOutlet_now (i : Nat) (f : Outlet → Outlet) : (s.modOutlet i f).now = s.now := rfl
@[simp] theorem State.modOutlet_mgmt (i : Nat) (f : Outlet → Outlet) : (s.modOutlet i f).mgmt = s.mgmt := rfl
@[simp] theorem State.modOutlet_berth (i : Nat) (f : Outlet → Outlet) : (s.modOutlet i f).berth = s.berth := rfl
@[simp] theorem State.modOutlet_charge (i : Nat) (f : Outlet → Outlet) : (s.modOutlet i f).charge = s.charge := rfl
@[simp] theorem State.modOutlet_outlet (i : Nat) (f : Outlet → Outlet) :
    (s.modOutlet i f).outlet = { s.outlet with outlets := s.outlet.outlets.modify i f } := rfl
@[simp] theorem State.modOutlet_tap (i : Nat) (f : Outlet → Outlet) : (s.modOutlet i f).tap = s.tap := rfl
@[simp] theorem State.modOutlet_fuel (i : Nat) (f : Outlet → Outlet) : (s.modOutlet i f).fuel = s.fuel := rfl
@[simp] theorem State.modOutlet_gate (i : Nat) (f : Outlet → Outlet) : (s.modOutlet i f).gate = s.gate := rfl
@[simp] theorem State.modOutlet_bus (i : Nat) (f : Outlet → Outlet) : (s.modOutlet i f).bus = s.bus := rfl
@[simp] theorem State.modOutlet_trunk (i : Nat) (f : Outlet → Outlet) : (s.modOutlet i f).trunk = s.trunk := rfl
@[simp] theorem State.modOutlet_tally (i : Nat) (f : Outlet → Outlet) : (s.modOutlet i f).tally = s.tally := rfl

/-! ### setFeeder -/

@[simp] theorem State.setFeeder_pending (i : Nat) (f : Feeder) : (s.setFeeder i f).pending = s.pending := rfl
@[simp] theorem State.setFeeder_phase (i : Nat) (f : Feeder) : (s.setFeeder i f).phase = s.phase := rfl
@[simp] theorem State.setFeeder_straps (i : Nat) (f : Feeder) : (s.setFeeder i f).straps = s.straps := rfl
@[simp] theorem State.setFeeder_now (i : Nat) (f : Feeder) : (s.setFeeder i f).now = s.now := rfl
@[simp] theorem State.setFeeder_mgmt (i : Nat) (f : Feeder) : (s.setFeeder i f).mgmt = s.mgmt := rfl
@[simp] theorem State.setFeeder_berth (i : Nat) (f : Feeder) : (s.setFeeder i f).berth = s.berth := rfl
@[simp] theorem State.setFeeder_charge (i : Nat) (f : Feeder) : (s.setFeeder i f).charge = s.charge := rfl
@[simp] theorem State.setFeeder_outlet (i : Nat) (f : Feeder) :
    (s.setFeeder i f).outlet = { s.outlet with feeders := s.outlet.feeders.set i f } := rfl
@[simp] theorem State.setFeeder_tap (i : Nat) (f : Feeder) : (s.setFeeder i f).tap = s.tap := rfl
@[simp] theorem State.setFeeder_fuel (i : Nat) (f : Feeder) : (s.setFeeder i f).fuel = s.fuel := rfl
@[simp] theorem State.setFeeder_gate (i : Nat) (f : Feeder) : (s.setFeeder i f).gate = s.gate := rfl
@[simp] theorem State.setFeeder_bus (i : Nat) (f : Feeder) : (s.setFeeder i f).bus = s.bus := rfl
@[simp] theorem State.setFeeder_trunk (i : Nat) (f : Feeder) : (s.setFeeder i f).trunk = s.trunk := rfl
@[simp] theorem State.setFeeder_tally (i : Nat) (f : Feeder) : (s.setFeeder i f).tally = s.tally := rfl

/-! ### setTap -/

@[simp] theorem State.setTap_pending (i : Nat) (t : Tap) : (s.setTap i t).pending = s.pending := rfl
@[simp] theorem State.setTap_phase (i : Nat) (t : Tap) : (s.setTap i t).phase = s.phase := rfl
@[simp] theorem State.setTap_straps (i : Nat) (t : Tap) : (s.setTap i t).straps = s.straps := rfl
@[simp] theorem State.setTap_now (i : Nat) (t : Tap) : (s.setTap i t).now = s.now := rfl
@[simp] theorem State.setTap_mgmt (i : Nat) (t : Tap) : (s.setTap i t).mgmt = s.mgmt := rfl
@[simp] theorem State.setTap_berth (i : Nat) (t : Tap) : (s.setTap i t).berth = s.berth := rfl
@[simp] theorem State.setTap_charge (i : Nat) (t : Tap) : (s.setTap i t).charge = s.charge := rfl
@[simp] theorem State.setTap_outlet (i : Nat) (t : Tap) : (s.setTap i t).outlet = s.outlet := rfl
@[simp] theorem State.setTap_tap (i : Nat) (t : Tap) :
    (s.setTap i t).tap = { s.tap with taps := s.tap.taps.set i t } := rfl
@[simp] theorem State.setTap_fuel (i : Nat) (t : Tap) : (s.setTap i t).fuel = s.fuel := rfl
@[simp] theorem State.setTap_gate (i : Nat) (t : Tap) : (s.setTap i t).gate = s.gate := rfl
@[simp] theorem State.setTap_bus (i : Nat) (t : Tap) : (s.setTap i t).bus = s.bus := rfl
@[simp] theorem State.setTap_trunk (i : Nat) (t : Tap) : (s.setTap i t).trunk = s.trunk := rfl
@[simp] theorem State.setTap_tally (i : Nat) (t : Tap) : (s.setTap i t).tally = s.tally := rfl

/-! ### modTap -/

@[simp] theorem State.modTap_pending (i : Nat) (f : Tap → Tap) : (s.modTap i f).pending = s.pending := rfl
@[simp] theorem State.modTap_phase (i : Nat) (f : Tap → Tap) : (s.modTap i f).phase = s.phase := rfl
@[simp] theorem State.modTap_straps (i : Nat) (f : Tap → Tap) : (s.modTap i f).straps = s.straps := rfl
@[simp] theorem State.modTap_now (i : Nat) (f : Tap → Tap) : (s.modTap i f).now = s.now := rfl
@[simp] theorem State.modTap_mgmt (i : Nat) (f : Tap → Tap) : (s.modTap i f).mgmt = s.mgmt := rfl
@[simp] theorem State.modTap_berth (i : Nat) (f : Tap → Tap) : (s.modTap i f).berth = s.berth := rfl
@[simp] theorem State.modTap_charge (i : Nat) (f : Tap → Tap) : (s.modTap i f).charge = s.charge := rfl
@[simp] theorem State.modTap_outlet (i : Nat) (f : Tap → Tap) : (s.modTap i f).outlet = s.outlet := rfl
@[simp] theorem State.modTap_tap (i : Nat) (f : Tap → Tap) :
    (s.modTap i f).tap = { s.tap with taps := s.tap.taps.modify i f } := rfl
@[simp] theorem State.modTap_fuel (i : Nat) (f : Tap → Tap) : (s.modTap i f).fuel = s.fuel := rfl
@[simp] theorem State.modTap_gate (i : Nat) (f : Tap → Tap) : (s.modTap i f).gate = s.gate := rfl
@[simp] theorem State.modTap_bus (i : Nat) (f : Tap → Tap) : (s.modTap i f).bus = s.bus := rfl
@[simp] theorem State.modTap_trunk (i : Nat) (f : Tap → Tap) : (s.modTap i f).trunk = s.trunk := rfl
@[simp] theorem State.modTap_tally (i : Nat) (f : Tap → Tap) : (s.modTap i f).tally = s.tally := rfl

/-! ### setDispenser -/

@[simp] theorem State.setDispenser_pending (i : Nat) (d : Dispenser) : (s.setDispenser i d).pending = s.pending := rfl
@[simp] theorem State.setDispenser_phase (i : Nat) (d : Dispenser) : (s.setDispenser i d).phase = s.phase := rfl
@[simp] theorem State.setDispenser_straps (i : Nat) (d : Dispenser) : (s.setDispenser i d).straps = s.straps := rfl
@[simp] theorem State.setDispenser_now (i : Nat) (d : Dispenser) : (s.setDispenser i d).now = s.now := rfl
@[simp] theorem State.setDispenser_mgmt (i : Nat) (d : Dispenser) : (s.setDispenser i d).mgmt = s.mgmt := rfl
@[simp] theorem State.setDispenser_berth (i : Nat) (d : Dispenser) : (s.setDispenser i d).berth = s.berth := rfl
@[simp] theorem State.setDispenser_charge (i : Nat) (d : Dispenser) : (s.setDispenser i d).charge = s.charge := rfl
@[simp] theorem State.setDispenser_outlet (i : Nat) (d : Dispenser) : (s.setDispenser i d).outlet = s.outlet := rfl
@[simp] theorem State.setDispenser_tap (i : Nat) (d : Dispenser) : (s.setDispenser i d).tap = s.tap := rfl
@[simp] theorem State.setDispenser_fuel (i : Nat) (d : Dispenser) :
    (s.setDispenser i d).fuel = { s.fuel with dispensers := s.fuel.dispensers.set i d } := rfl
@[simp] theorem State.setDispenser_gate (i : Nat) (d : Dispenser) : (s.setDispenser i d).gate = s.gate := rfl
@[simp] theorem State.setDispenser_bus (i : Nat) (d : Dispenser) : (s.setDispenser i d).bus = s.bus := rfl
@[simp] theorem State.setDispenser_trunk (i : Nat) (d : Dispenser) : (s.setDispenser i d).trunk = s.trunk := rfl
@[simp] theorem State.setDispenser_tally (i : Nat) (d : Dispenser) : (s.setDispenser i d).tally = s.tally := rfl

/-! ### modDispenser -/

@[simp] theorem State.modDispenser_pending (i : Nat) (f : Dispenser → Dispenser) :
    (s.modDispenser i f).pending = s.pending := rfl
@[simp] theorem State.modDispenser_phase (i : Nat) (f : Dispenser → Dispenser) :
    (s.modDispenser i f).phase = s.phase := rfl
@[simp] theorem State.modDispenser_straps (i : Nat) (f : Dispenser → Dispenser) :
    (s.modDispenser i f).straps = s.straps := rfl
@[simp] theorem State.modDispenser_now (i : Nat) (f : Dispenser → Dispenser) : (s.modDispenser i f).now = s.now := rfl
@[simp] theorem State.modDispenser_mgmt (i : Nat) (f : Dispenser → Dispenser) :
    (s.modDispenser i f).mgmt = s.mgmt := rfl
@[simp] theorem State.modDispenser_berth (i : Nat) (f : Dispenser → Dispenser) :
    (s.modDispenser i f).berth = s.berth := rfl
@[simp] theorem State.modDispenser_charge (i : Nat) (f : Dispenser → Dispenser) :
    (s.modDispenser i f).charge = s.charge := rfl
@[simp] theorem State.modDispenser_outlet (i : Nat) (f : Dispenser → Dispenser) :
    (s.modDispenser i f).outlet = s.outlet := rfl
@[simp] theorem State.modDispenser_tap (i : Nat) (f : Dispenser → Dispenser) : (s.modDispenser i f).tap = s.tap := rfl
@[simp] theorem State.modDispenser_fuel (i : Nat) (f : Dispenser → Dispenser) :
    (s.modDispenser i f).fuel = { s.fuel with dispensers := s.fuel.dispensers.modify i f } := rfl
@[simp] theorem State.modDispenser_gate (i : Nat) (f : Dispenser → Dispenser) :
    (s.modDispenser i f).gate = s.gate := rfl
@[simp] theorem State.modDispenser_bus (i : Nat) (f : Dispenser → Dispenser) : (s.modDispenser i f).bus = s.bus := rfl
@[simp] theorem State.modDispenser_trunk (i : Nat) (f : Dispenser → Dispenser) :
    (s.modDispenser i f).trunk = s.trunk := rfl
@[simp] theorem State.modDispenser_tally (i : Nat) (f : Dispenser → Dispenser) :
    (s.modDispenser i f).tally = s.tally := rfl

/-! ### setReader -/

@[simp] theorem State.setReader_pending (i : Nat) (r : Reader) : (s.setReader i r).pending = s.pending := rfl
@[simp] theorem State.setReader_phase (i : Nat) (r : Reader) : (s.setReader i r).phase = s.phase := rfl
@[simp] theorem State.setReader_straps (i : Nat) (r : Reader) : (s.setReader i r).straps = s.straps := rfl
@[simp] theorem State.setReader_now (i : Nat) (r : Reader) : (s.setReader i r).now = s.now := rfl
@[simp] theorem State.setReader_mgmt (i : Nat) (r : Reader) : (s.setReader i r).mgmt = s.mgmt := rfl
@[simp] theorem State.setReader_berth (i : Nat) (r : Reader) : (s.setReader i r).berth = s.berth := rfl
@[simp] theorem State.setReader_charge (i : Nat) (r : Reader) : (s.setReader i r).charge = s.charge := rfl
@[simp] theorem State.setReader_outlet (i : Nat) (r : Reader) : (s.setReader i r).outlet = s.outlet := rfl
@[simp] theorem State.setReader_tap (i : Nat) (r : Reader) : (s.setReader i r).tap = s.tap := rfl
@[simp] theorem State.setReader_fuel (i : Nat) (r : Reader) : (s.setReader i r).fuel = s.fuel := rfl
@[simp] theorem State.setReader_gate (i : Nat) (r : Reader) :
    (s.setReader i r).gate = { s.gate with readers := s.gate.readers.set i r } := rfl
@[simp] theorem State.setReader_bus (i : Nat) (r : Reader) : (s.setReader i r).bus = s.bus := rfl
@[simp] theorem State.setReader_trunk (i : Nat) (r : Reader) : (s.setReader i r).trunk = s.trunk := rfl
@[simp] theorem State.setReader_tally (i : Nat) (r : Reader) : (s.setReader i r).tally = s.tally := rfl

/-! ### modReader -/

@[simp] theorem State.modReader_pending (i : Nat) (f : Reader → Reader) : (s.modReader i f).pending = s.pending := rfl
@[simp] theorem State.modReader_phase (i : Nat) (f : Reader → Reader) : (s.modReader i f).phase = s.phase := rfl
@[simp] theorem State.modReader_straps (i : Nat) (f : Reader → Reader) : (s.modReader i f).straps = s.straps := rfl
@[simp] theorem State.modReader_now (i : Nat) (f : Reader → Reader) : (s.modReader i f).now = s.now := rfl
@[simp] theorem State.modReader_mgmt (i : Nat) (f : Reader → Reader) : (s.modReader i f).mgmt = s.mgmt := rfl
@[simp] theorem State.modReader_berth (i : Nat) (f : Reader → Reader) : (s.modReader i f).berth = s.berth := rfl
@[simp] theorem State.modReader_charge (i : Nat) (f : Reader → Reader) : (s.modReader i f).charge = s.charge := rfl
@[simp] theorem State.modReader_outlet (i : Nat) (f : Reader → Reader) : (s.modReader i f).outlet = s.outlet := rfl
@[simp] theorem State.modReader_tap (i : Nat) (f : Reader → Reader) : (s.modReader i f).tap = s.tap := rfl
@[simp] theorem State.modReader_fuel (i : Nat) (f : Reader → Reader) : (s.modReader i f).fuel = s.fuel := rfl
@[simp] theorem State.modReader_gate (i : Nat) (f : Reader → Reader) :
    (s.modReader i f).gate = { s.gate with readers := s.gate.readers.modify i f } := rfl
@[simp] theorem State.modReader_bus (i : Nat) (f : Reader → Reader) : (s.modReader i f).bus = s.bus := rfl
@[simp] theorem State.modReader_trunk (i : Nat) (f : Reader → Reader) : (s.modReader i f).trunk = s.trunk := rfl
@[simp] theorem State.modReader_tally (i : Nat) (f : Reader → Reader) : (s.modReader i f).tally = s.tally := rfl

/-! ### setDevice -/

@[simp] theorem State.setDevice_pending (a : Nat) (d : Device) : (s.setDevice a d).pending = s.pending := rfl
@[simp] theorem State.setDevice_phase (a : Nat) (d : Device) : (s.setDevice a d).phase = s.phase := rfl
@[simp] theorem State.setDevice_straps (a : Nat) (d : Device) : (s.setDevice a d).straps = s.straps := rfl
@[simp] theorem State.setDevice_now (a : Nat) (d : Device) : (s.setDevice a d).now = s.now := rfl
@[simp] theorem State.setDevice_mgmt (a : Nat) (d : Device) : (s.setDevice a d).mgmt = s.mgmt := rfl
@[simp] theorem State.setDevice_berth (a : Nat) (d : Device) : (s.setDevice a d).berth = s.berth := rfl
@[simp] theorem State.setDevice_charge (a : Nat) (d : Device) : (s.setDevice a d).charge = s.charge := rfl
@[simp] theorem State.setDevice_outlet (a : Nat) (d : Device) : (s.setDevice a d).outlet = s.outlet := rfl
@[simp] theorem State.setDevice_tap (a : Nat) (d : Device) : (s.setDevice a d).tap = s.tap := rfl
@[simp] theorem State.setDevice_fuel (a : Nat) (d : Device) : (s.setDevice a d).fuel = s.fuel := rfl
@[simp] theorem State.setDevice_gate (a : Nat) (d : Device) : (s.setDevice a d).gate = s.gate := rfl
@[simp] theorem State.setDevice_bus (a : Nat) (d : Device) :
    (s.setDevice a d).bus = { s.bus with devices := s.bus.devices.set a d } := rfl
@[simp] theorem State.setDevice_trunk (a : Nat) (d : Device) : (s.setDevice a d).trunk = s.trunk := rfl
@[simp] theorem State.setDevice_tally (a : Nat) (d : Device) : (s.setDevice a d).tally = s.tally := rfl

/-! ### modDevice -/

@[simp] theorem State.modDevice_pending (a : Nat) (f : Device → Device) : (s.modDevice a f).pending = s.pending := rfl
@[simp] theorem State.modDevice_phase (a : Nat) (f : Device → Device) : (s.modDevice a f).phase = s.phase := rfl
@[simp] theorem State.modDevice_straps (a : Nat) (f : Device → Device) : (s.modDevice a f).straps = s.straps := rfl
@[simp] theorem State.modDevice_now (a : Nat) (f : Device → Device) : (s.modDevice a f).now = s.now := rfl
@[simp] theorem State.modDevice_mgmt (a : Nat) (f : Device → Device) : (s.modDevice a f).mgmt = s.mgmt := rfl
@[simp] theorem State.modDevice_berth (a : Nat) (f : Device → Device) : (s.modDevice a f).berth = s.berth := rfl
@[simp] theorem State.modDevice_charge (a : Nat) (f : Device → Device) : (s.modDevice a f).charge = s.charge := rfl
@[simp] theorem State.modDevice_outlet (a : Nat) (f : Device → Device) : (s.modDevice a f).outlet = s.outlet := rfl
@[simp] theorem State.modDevice_tap (a : Nat) (f : Device → Device) : (s.modDevice a f).tap = s.tap := rfl
@[simp] theorem State.modDevice_fuel (a : Nat) (f : Device → Device) : (s.modDevice a f).fuel = s.fuel := rfl
@[simp] theorem State.modDevice_gate (a : Nat) (f : Device → Device) : (s.modDevice a f).gate = s.gate := rfl
@[simp] theorem State.modDevice_bus (a : Nat) (f : Device → Device) :
    (s.modDevice a f).bus = { s.bus with devices := s.bus.devices.modify a f } := rfl
@[simp] theorem State.modDevice_trunk (a : Nat) (f : Device → Device) : (s.modDevice a f).trunk = s.trunk := rfl
@[simp] theorem State.modDevice_tally (a : Nat) (f : Device → Device) : (s.modDevice a f).tally = s.tally := rfl

/-! ### modLive -/

@[simp] theorem State.modLive_pending (f : Tallies → Tallies) : (s.modLive f).pending = s.pending := rfl
@[simp] theorem State.modLive_phase (f : Tallies → Tallies) : (s.modLive f).phase = s.phase := rfl
@[simp] theorem State.modLive_straps (f : Tallies → Tallies) : (s.modLive f).straps = s.straps := rfl
@[simp] theorem State.modLive_now (f : Tallies → Tallies) : (s.modLive f).now = s.now := rfl
@[simp] theorem State.modLive_mgmt (f : Tallies → Tallies) : (s.modLive f).mgmt = s.mgmt := rfl
@[simp] theorem State.modLive_berth (f : Tallies → Tallies) : (s.modLive f).berth = s.berth := rfl
@[simp] theorem State.modLive_charge (f : Tallies → Tallies) : (s.modLive f).charge = s.charge := rfl
@[simp] theorem State.modLive_outlet (f : Tallies → Tallies) : (s.modLive f).outlet = s.outlet := rfl
@[simp] theorem State.modLive_tap (f : Tallies → Tallies) : (s.modLive f).tap = s.tap := rfl
@[simp] theorem State.modLive_fuel (f : Tallies → Tallies) : (s.modLive f).fuel = s.fuel := rfl
@[simp] theorem State.modLive_gate (f : Tallies → Tallies) : (s.modLive f).gate = s.gate := rfl
@[simp] theorem State.modLive_bus (f : Tallies → Tallies) : (s.modLive f).bus = s.bus := rfl
@[simp] theorem State.modLive_trunk (f : Tallies → Tallies) : (s.modLive f).trunk = s.trunk := rfl
@[simp] theorem State.modLive_tally (f : Tallies → Tallies) :
    (s.modLive f).tally = { s.tally with live := f s.tally.live } := rfl

/-! ### setWork -/

@[simp] theorem State.setWork_pending (w : Work) : (s.setWork w).pending = s.pending := rfl
@[simp] theorem State.setWork_phase (w : Work) : (s.setWork w).phase = s.phase := rfl
@[simp] theorem State.setWork_straps (w : Work) : (s.setWork w).straps = s.straps := rfl
@[simp] theorem State.setWork_now (w : Work) : (s.setWork w).now = s.now := rfl
@[simp] theorem State.setWork_mgmt (w : Work) : (s.setWork w).mgmt = { s.mgmt with work := w } := rfl
@[simp] theorem State.setWork_berth (w : Work) : (s.setWork w).berth = s.berth := rfl
@[simp] theorem State.setWork_charge (w : Work) : (s.setWork w).charge = s.charge := rfl
@[simp] theorem State.setWork_outlet (w : Work) : (s.setWork w).outlet = s.outlet := rfl
@[simp] theorem State.setWork_tap (w : Work) : (s.setWork w).tap = s.tap := rfl
@[simp] theorem State.setWork_fuel (w : Work) : (s.setWork w).fuel = s.fuel := rfl
@[simp] theorem State.setWork_gate (w : Work) : (s.setWork w).gate = s.gate := rfl
@[simp] theorem State.setWork_bus (w : Work) : (s.setWork w).bus = s.bus := rfl
@[simp] theorem State.setWork_trunk (w : Work) : (s.setWork w).trunk = s.trunk := rfl
@[simp] theorem State.setWork_tally (w : Work) : (s.setWork w).tally = s.tally := rfl

/-! ### modSource -/

@[simp] theorem State.modSource_pending (x : SourceId) (f : SourceRecord → SourceRecord) :
    (s.modSource x f).pending = s.pending := rfl
@[simp] theorem State.modSource_phase (x : SourceId) (f : SourceRecord → SourceRecord) :
    (s.modSource x f).phase = s.phase := rfl
@[simp] theorem State.modSource_straps (x : SourceId) (f : SourceRecord → SourceRecord) :
    (s.modSource x f).straps = s.straps := rfl
@[simp] theorem State.modSource_now (x : SourceId) (f : SourceRecord → SourceRecord) :
    (s.modSource x f).now = s.now := rfl
@[simp] theorem State.modSource_mgmt (x : SourceId) (f : SourceRecord → SourceRecord) :
    (s.modSource x f).mgmt = s.mgmt := rfl
@[simp] theorem State.modSource_berth (x : SourceId) (f : SourceRecord → SourceRecord) :
    (s.modSource x f).berth = s.berth := rfl
@[simp] theorem State.modSource_charge (x : SourceId) (f : SourceRecord → SourceRecord) :
    (s.modSource x f).charge = s.charge := rfl
@[simp] theorem State.modSource_outlet (x : SourceId) (f : SourceRecord → SourceRecord) :
    (s.modSource x f).outlet = s.outlet := rfl
@[simp] theorem State.modSource_tap (x : SourceId) (f : SourceRecord → SourceRecord) :
    (s.modSource x f).tap = s.tap := rfl
@[simp] theorem State.modSource_fuel (x : SourceId) (f : SourceRecord → SourceRecord) :
    (s.modSource x f).fuel = s.fuel := rfl
@[simp] theorem State.modSource_gate (x : SourceId) (f : SourceRecord → SourceRecord) :
    (s.modSource x f).gate = s.gate := rfl
@[simp] theorem State.modSource_bus (x : SourceId) (f : SourceRecord → SourceRecord) :
    (s.modSource x f).bus = s.bus := rfl
@[simp] theorem State.modSource_trunk (x : SourceId) (f : SourceRecord → SourceRecord) :
    (s.modSource x f).trunk = { s.trunk with sources := s.trunk.sources.modify (sourceKey x) f } := rfl
@[simp] theorem State.modSource_tally (x : SourceId) (f : SourceRecord → SourceRecord) :
    (s.modSource x f).tally = s.tally := rfl

/-! ### mark -/

@[simp] theorem State.mark_pending (c : ReportClass) (n : Nat) : (s.mark c n).pending = s.pending := rfl
@[simp] theorem State.mark_phase (c : ReportClass) (n : Nat) : (s.mark c n).phase = s.phase := rfl
@[simp] theorem State.mark_straps (c : ReportClass) (n : Nat) : (s.mark c n).straps = s.straps := rfl
@[simp] theorem State.mark_now (c : ReportClass) (n : Nat) : (s.mark c n).now = s.now := rfl
@[simp] theorem State.mark_mgmt (c : ReportClass) (n : Nat) : (s.mark c n).mgmt = s.mgmt := rfl
@[simp] theorem State.mark_berth (c : ReportClass) (n : Nat) : (s.mark c n).berth = s.berth := rfl
@[simp] theorem State.mark_charge (c : ReportClass) (n : Nat) : (s.mark c n).charge = s.charge := rfl
@[simp] theorem State.mark_outlet (c : ReportClass) (n : Nat) : (s.mark c n).outlet = s.outlet := rfl
@[simp] theorem State.mark_tap (c : ReportClass) (n : Nat) : (s.mark c n).tap = s.tap := rfl
@[simp] theorem State.mark_fuel (c : ReportClass) (n : Nat) : (s.mark c n).fuel = s.fuel := rfl
@[simp] theorem State.mark_gate (c : ReportClass) (n : Nat) : (s.mark c n).gate = s.gate := rfl
@[simp] theorem State.mark_bus (c : ReportClass) (n : Nat) : (s.mark c n).bus = s.bus := rfl
@[simp] theorem State.mark_trunk (c : ReportClass) (n : Nat) :
    (s.mark c n).trunk = { s.trunk with sources := s.trunk.sources.modify (sourceKey ⟨c, n⟩) (SourceRecord.marked s.now) } := rfl
@[simp] theorem State.mark_tally (c : ReportClass) (n : Nat) : (s.mark c n).tally = s.tally := rfl

/-! ### removeSource -/

@[simp] theorem State.removeSource_pending (c : ReportClass) (n : Nat) :
    (s.removeSource c n).pending = s.pending := rfl
@[simp] theorem State.removeSource_phase (c : ReportClass) (n : Nat) : (s.removeSource c n).phase = s.phase := rfl
@[simp] theorem State.removeSource_straps (c : ReportClass) (n : Nat) : (s.removeSource c n).straps = s.straps := rfl
@[simp] theorem State.removeSource_now (c : ReportClass) (n : Nat) : (s.removeSource c n).now = s.now := rfl
@[simp] theorem State.removeSource_mgmt (c : ReportClass) (n : Nat) : (s.removeSource c n).mgmt = s.mgmt := rfl
@[simp] theorem State.removeSource_berth (c : ReportClass) (n : Nat) : (s.removeSource c n).berth = s.berth := rfl
@[simp] theorem State.removeSource_charge (c : ReportClass) (n : Nat) : (s.removeSource c n).charge = s.charge := rfl
@[simp] theorem State.removeSource_outlet (c : ReportClass) (n : Nat) : (s.removeSource c n).outlet = s.outlet := rfl
@[simp] theorem State.removeSource_tap (c : ReportClass) (n : Nat) : (s.removeSource c n).tap = s.tap := rfl
@[simp] theorem State.removeSource_fuel (c : ReportClass) (n : Nat) : (s.removeSource c n).fuel = s.fuel := rfl
@[simp] theorem State.removeSource_gate (c : ReportClass) (n : Nat) : (s.removeSource c n).gate = s.gate := rfl
@[simp] theorem State.removeSource_bus (c : ReportClass) (n : Nat) : (s.removeSource c n).bus = s.bus := rfl
@[simp] theorem State.removeSource_trunk (c : ReportClass) (n : Nat) :
    (s.removeSource c n).trunk = { s.trunk with sources := s.trunk.sources.erase (sourceKey ⟨c, n⟩) } := rfl
@[simp] theorem State.removeSource_tally (c : ReportClass) (n : Nat) : (s.removeSource c n).tally = s.tally := rfl

end Sys2Proof.Machine
end

