-- ==== Sys2Proof/Laws/Ops.lean ====
section
/-! SUPPORT. What the shared operations do: replies, report sources, the alarm raw status, and the two shapes of a command.
Proofs about commands cite these instead of unfolding the operations. -/

namespace Sys2Proof.Machine

open Sys2Proof

/-! ## Report sources -/

/-- A source coming to exist changes the report sources alone. -/
theorem State.createSource_eq (c : ReportClass) (n : Nat) (s : State) :
    s.createSource c n = { s with trunk := { s.trunk with sources := (s.createSource c n).trunk.sources } } := by
  unfold State.createSource
  dsimp only
  split <;> rfl

theorem State.createSource_of_has {c : ReportClass} {n : Nat} {s : State}
    (h : s.trunk.sources.has (sourceKey ⟨c, n⟩) = true) : s.createSource c n = s := by
  simp [State.createSource, h]

/-! ## Replies -/

theorem State.enterReply_room {r : Reply} {s : State} (h : s.trunk.own.length < Config.localCapacity) :
    s.enterReply r = { s with
      trunk := { s.trunk with own := s.trunk.own ++ [s.entryOf (.reply r)] }
      mgmt := { s.mgmt with work := .idle } } := by simp [State.enterReply, h]

theorem State.enterReply_full {r : Reply} {s : State} (h : Config.localCapacity ≤ s.trunk.own.length) :
    s.enterReply r = s.setWork (.reply r) := by simp [State.enterReply, Nat.not_lt.2 h]

/-- A reply changes the LOCAL queue and what the management unit does, and nothing else. -/
theorem State.enterReply_eq (r : Reply) (s : State) :
    s.enterReply r = { s with
      trunk := { s.trunk with own := (s.enterReply r).trunk.own }
      mgmt := { s.mgmt with work := (s.enterReply r).mgmt.work } } := by
  unfold State.enterReply
  split <;> rfl

/-- An answer changes the LOCAL queue and what the management unit does, and nothing else. -/
theorem State.answer_eq (fr : IntakeFrame) (a : Answer) (s : State) :
    s.answer fr a = { s with
      trunk := { s.trunk with own := (s.answer fr a).trunk.own }
      mgmt := { s.mgmt with work := (s.answer fr a).mgmt.work } } := by
  unfold State.answer
  split
  · rfl
  · exact State.enterReply_eq _ _

theorem State.answer_broadcast {fr : IntakeFrame} (a : Answer) (s : State) (h : fr.broadcast = true) :
    s.answer fr a = s.setWork .idle := by simp [State.answer, h]

theorem State.answer_addressed {fr : IntakeFrame} (a : Answer) (s : State) (h : fr.broadcast = false) :
    s.answer fr a = s.enterReply ⟨fr.type + 0x80, fr.tag, s.mgmt.accepted, a⟩ := by simp [State.answer, h]

/-! ## The alarm raw status (04 R89) -/

/-- The conditions do not read the raw status, the report sources, the LOCAL queue or the management unit's work. -/
theorem State.conditions_answer (fr : IntakeFrame) (a : Answer) (s : State) :
    (s.answer fr a).conditions = s.conditions := by rw [State.answer_eq]; rfl

theorem State.refreshAlarm_of_eq {s : State} (h : s.outlet.raw = s.conditions) : s.refreshAlarm = s := by
  simp [State.refreshAlarm, h]

/-- Passing the conditions on leaves every block but the raw status and the alarm source's mark. -/
theorem State.refreshAlarm_eq (s : State) :
    s.refreshAlarm = { s with
      outlet := { s.outlet with raw := s.conditions }
      trunk := { s.trunk with sources := s.refreshAlarm.trunk.sources } } := by
  unfold State.refreshAlarm
  split
  · next h => rw [← h]
  · rfl

/-- After the conditions are passed on, the raw status is the conditions. -/
theorem State.refreshAlarm_raw (s : State) : s.refreshAlarm.outlet.raw = s.refreshAlarm.conditions := by
  rw [State.refreshAlarm_eq]; rfl

theorem State.refreshAlarm_conditions (s : State) : s.refreshAlarm.conditions = s.conditions := by
  rw [State.refreshAlarm_eq]; rfl

theorem State.refreshAlarm_active (s : State) : s.refreshAlarm.active = s.active := by
  rw [State.refreshAlarm_eq]; rfl

/-! ## The shapes of a command -/

/-- The frame of a local command is the intake's, where the part is active and the management unit idle. -/
theorem State.localFrame_of {s : State} {fr : IntakeFrame} {type : Byte} {body : Option LocalBody}
    (ha : s.active = true) (hw : s.mgmt.work = .idle) (hi : s.trunk.intake = some fr) (ht : fr.type = type)
    (hf : fr.form = body) : s.localFrame type body = some fr := by
  simp [State.localFrame, ha, hw, hi, ht, hf, Option.filter]

/-- A local frame that carries its fields is given to the owning block (10 R173 step 3). -/
theorem localCommand_fields {α : Type} {type : Byte} {mk : α → LocalBody} {a : α} {s : State} {fr : IntakeFrame}
    (act : IntakeFrame → α → State → State) (ha : s.active = true) (hw : s.mgmt.work = .idle)
    (hi : s.trunk.intake = some fr) (ht : fr.type = type) (hf : fr.form = some (mk a))
    (hb : fr.broadcast = true → type ∈ broadcastTypes) :
    localCommand type mk (.fields a) act s = .next (act fr a (s.taken fr)).refreshAlarm := by
  have hl := State.localFrame_of ha hw hi ht (body := (Form.fields a).body mk) hf
  unfold localCommand
  rw [hl]
  subst ht
  cases hbb : fr.broadcast with
  | false => simp [handleLocal, hbb]
  | true => simp [handleLocal, hbb, hb hbb]

/-- A length that matches no form is refused (10 R173 step 2). -/
theorem localCommand_badLength {α : Type} {type : Byte} {mk : α → LocalBody} {s : State} {fr : IntakeFrame}
    (act : IntakeFrame → α → State → State) (ha : s.active = true) (hw : s.mgmt.work = .idle)
    (hi : s.trunk.intake = some fr) (ht : fr.type = type) (hf : fr.form = none)
    (hb : fr.broadcast = true → type ∈ broadcastTypes) :
    localCommand type mk .badLength act s = .next ((s.taken fr).refuse fr .badLength).refreshAlarm := by
  have hl := State.localFrame_of ha hw hi ht (body := (Form.badLength (α := α)).body mk) hf
  unfold localCommand
  rw [hl]
  subst ht
  cases hbb : fr.broadcast with
  | false => simp [handleLocal, hbb]
  | true => simp [handleLocal, hbb, hb hbb]

/-- A broadcast of a type not acted on when broadcast is discarded and counted (10 R173). -/
theorem localCommand_discard {α : Type} {type : Byte} {mk : α → LocalBody} {f : Form α} {s : State} {fr : IntakeFrame}
    (act : IntakeFrame → α → State → State) (ha : s.active = true) (hw : s.mgmt.work = .idle)
    (hi : s.trunk.intake = some fr) (ht : fr.type = type) (hf : fr.form = f.body mk) (hb : fr.broadcast = true)
    (hn : type ∉ broadcastTypes) :
    localCommand type mk f act s = .next ((s.taken fr).countLocalDiscard).refreshAlarm := by
  have hl := State.localFrame_of ha hw hi ht hf
  unfold localCommand
  rw [hl]
  subst ht
  simp [handleLocal, hb, hn]

/-- A local command whose frame is not in the intake does nothing (log 2). -/
theorem localCommand_absent {α : Type} {type : Byte} {mk : α → LocalBody} {f : Form α} {s : State}
    (act : IntakeFrame → α → State → State) (h : s.localFrame type (f.body mk) = none) :
    localCommand type mk f act s = .next s := by simp [localCommand, h]

/-- A local command answers a next state always. -/
theorem localCommand_next {α : Type} (type : Byte) (mk : α → LocalBody) (f : Form α)
    (act : IntakeFrame → α → State → State) (s : State) : ∃ t, localCommand type mk f act s = .next t := by
  unfold localCommand
  split <;> exact ⟨_, rfl⟩

theorem unitEvent_active {act : State → State} {s : State} (h : s.active = true) :
    unitEvent act s = .next (act s).refreshAlarm := by simp [unitEvent, h]

theorem unitEvent_inactive {act : State → State} {s : State} (h : s.active = false) : unitEvent act s = .next s := by
  simp [unitEvent, h]

/-- A unit's event answers a next state always. -/
theorem unitEvent_next (act : State → State) (s : State) : ∃ t, unitEvent act s = .next t := by
  unfold unitEvent
  split <;> exact ⟨_, rfl⟩

/-- A local command does nothing in a part that is not active. -/
theorem localCommand_inactive {α : Type} {type : Byte} {mk : α → LocalBody} {f : Form α} {s : State}
    (act : IntakeFrame → α → State → State) (h : s.active = false) : localCommand type mk f act s = .next s :=
  localCommand_absent act (by simp [State.localFrame, h])

/-- Whatever a local command does, the raw status then follows the conditions, or the state is as it was. -/
theorem localCommand_cases {α : Type} (type : Byte) (mk : α → LocalBody) (f : Form α)
    (act : IntakeFrame → α → State → State) (s : State) :
    localCommand type mk f act s = .next s ∨ ∃ u : State, localCommand type mk f act s = .next u.refreshAlarm := by
  unfold localCommand
  split
  · exact .inr ⟨_, rfl⟩
  · exact .inl rfl

/-- Whatever a unit's event does, the raw status then follows the conditions, or the state is as it was. -/
theorem unitEvent_cases (act : State → State) (s : State) :
    unitEvent act s = .next s ∨ ∃ u : State, unitEvent act s = .next u.refreshAlarm := by
  unfold unitEvent
  split
  · exact .inr ⟨_, rfl⟩
  · exact .inl rfl

/-! ## Period totals -/

/-- A debit never lowers a total. -/
theorem addTotal_ge (n x c : Nat) : x ≤ addTotal n x c := by
  unfold addTotal
  split <;> omega

/-- A debit leaves a total in its range there. -/
theorem addTotal_le {n x c : Nat} (h : x ≤ Config.maxPeriodTotal) : addTotal n x c ≤ Config.maxPeriodTotal := by
  unfold addTotal
  split
  · assumption
  · have h' := Nat.mod_lt (Config.periodTotalBeyond n (x + c)) (Nat.zero_lt_succ (Config.maxPeriodTotal - x))
    exact Nat.le_trans (Nat.add_le_add_left (Nat.le_of_lt_succ h') x) (Nat.add_sub_cancel' h).le

/-- Within the range a debit adds the charge. -/
theorem addTotal_in {n x c : Nat} (h : x + c ≤ Config.maxPeriodTotal) : addTotal n x c = x + c := by simp [addTotal, h]

/-! ## The step -/

/-- The front command acts on the state with the queue's rest. -/
theorem step_cons {c : Instr} {rest : List Instr} {s : State} (h : s.pending = c :: rest) :
    step s = exec c { s with pending := rest } := by simp [step, h]

/-- An empty queue lets one millisecond pass. -/
theorem step_nil {s : State} (h : s.pending = []) : step s = .next s.tick := by simp [step, h]

end Sys2Proof.Machine
end

