-- ==== Sys2Proof/Laws/Table.lean ====
section
/-! SUPPORT. What the operations of a table do: what each reads as afterwards, and that the keys stay in rising order. -/

namespace Sys2Proof.Machine.Table

variable {α : Type}

@[simp] theorem get_nil (n : Nat) : get ([] : Table α) n = none := rfl

/-- A stored entry reads as stored. -/
@[simp] theorem get_set_self (t : Table α) (n : Nat) (a : α) : (t.set n a).get n = some a := by
  induction t with
  | nil => simp [set, get]
  | cons p t ih =>
    obtain ⟨k, b⟩ := p
    unfold set
    split
    · simp [get]
    · split
      · simp [get]
      · next h => simp [get, h, ih]

/-- Storing one entry leaves the others. -/
theorem get_set_ne (t : Table α) {n m : Nat} (a : α) (h : m ≠ n) : (t.set n a).get m = t.get m := by
  induction t with
  | nil => simp [set, get, Ne.symm h]
  | cons p t ih =>
    obtain ⟨k, b⟩ := p
    unfold set
    split
    · simp [get, Ne.symm h]
    · split
      · next e => subst e; simp [get, Ne.symm h]
      · simp [get, ih]

/-- What a table reads as after a store. -/
theorem get_set (t : Table α) (n m : Nat) (a : α) : (t.set n a).get m = if m = n then some a else t.get m := by
  split
  · next h => subst h; simp
  · next h => exact get_set_ne t a h

/-- Removing one entry leaves the others. -/
theorem get_erase_ne (t : Table α) {n m : Nat} (h : m ≠ n) : (t.erase n).get m = t.get m := by
  induction t with
  | nil => rfl
  | cons p t ih =>
    obtain ⟨k, b⟩ := p
    unfold erase
    split
    · next e => subst e; simp [get, Ne.symm h]
    · simp [get, ih]

/-- What a table reads as after a change of one entry. -/
theorem get_modify (t : Table α) (n m : Nat) (f : α → α) :
    (t.modify n f).get m = if m = n then (t.get n).map f else t.get m := by
  unfold modify
  cases h : t.get n with
  | none =>
    by_cases e : m = n
    · subst e; simp [h]
    · simp [e]
  | some a => simp [get_set]

@[simp] theorem get_modify_self (t : Table α) (n : Nat) (f : α → α) : (t.modify n f).get n = (t.get n).map f := by
  simp [get_modify]

theorem get_modify_ne (t : Table α) {n m : Nat} (f : α → α) (h : m ≠ n) : (t.modify n f).get m = t.get m := by
  simp [get_modify, h]

/-- A change of an entry that is there is a store. -/
theorem modify_of_some {t : Table α} {n : Nat} {a : α} (f : α → α) (h : t.get n = some a) :
    t.modify n f = t.set n (f a) := by simp [modify, h]

/-- The head of a table is below the keys that follow. -/
theorem sorted_cons_iff (k : Nat) (b : α) (t : Table α) :
    sorted ((k, b) :: t) = true ↔ (∀ p, t.head? = some p → k < p.1) ∧ sorted t = true := by
  cases t with
  | nil => simp [sorted]
  | cons p t => obtain ⟨k', b'⟩ := p; simp [sorted]

theorem sorted_tail {p : Nat × α} {t : Table α} (h : sorted (p :: t) = true) : sorted t = true :=
  ((sorted_cons_iff p.1 p.2 t).1 h).2

/-- Every key of the rest is above the head's. -/
theorem lt_of_sorted {k : Nat} {b : α} {t : Table α} (h : sorted ((k, b) :: t) = true) : ∀ p ∈ t, k < p.1 := by
  induction t generalizing k b with
  | nil => simp
  | cons q t ih =>
    obtain ⟨k', b'⟩ := q
    have hk := (sorted_cons_iff k b _).1 h
    have h1 : k < k' := hk.1 (k', b') rfl
    intro p hp
    rcases List.mem_cons.1 hp with e | hp
    · subst e; exact h1
    · exact lt_trans h1 (ih hk.2 p hp)

/-- The head of a table after a store. -/
theorem head_set (t : Table α) (n : Nat) (a : α) :
    ∀ p, (t.set n a).head? = some p → p.1 = n ∨ t.head? = some p := by
  cases t with
  | nil => intro p h; simp [set] at h; subst h; exact .inl rfl
  | cons q t =>
    obtain ⟨k, b⟩ := q
    intro p h
    unfold set at h
    split at h
    · simp at h; subst h; exact .inl rfl
    · split at h
      · simp at h; subst h; exact .inl rfl
      · simp at h; subst h; exact .inr rfl

/-- A store keeps the keys in order. -/
theorem sorted_set (t : Table α) (n : Nat) (a : α) (h : sorted t = true) : sorted (t.set n a) = true := by
  induction t with
  | nil => simp [set, sorted]
  | cons q t ih =>
    obtain ⟨k, b⟩ := q
    have hk := (sorted_cons_iff k b t).1 h
    unfold set
    split
    · next hn => exact (sorted_cons_iff _ _ _).2 ⟨fun p e => by simp at e; subst e; exact hn, h⟩
    · next hn =>
      split
      · next e => subst e; exact (sorted_cons_iff _ _ _).2 hk
      · next e =>
        refine (sorted_cons_iff _ _ _).2 ⟨fun p hp => ?_, ih hk.2⟩
        rcases head_set t n a p hp with e' | e'
        · rw [e']; omega
        · exact hk.1 p e'

/-- A change of one entry keeps the keys in order. -/
theorem sorted_modify (t : Table α) (n : Nat) (f : α → α) (h : sorted t = true) : sorted (t.modify n f) = true := by
  unfold modify
  split
  · exact sorted_set t n _ h
  · exact h

/-- Keys above a bound are never read at the bound. -/
theorem get_eq_none_of_lt (t : Table α) (n : Nat) (h : ∀ p ∈ t, n < p.1) : t.get n = none := by
  induction t with
  | nil => rfl
  | cons q t ih =>
    obtain ⟨k, b⟩ := q
    have : k ≠ n := by have := h (k, b) (by simp); simp at this; omega
    simp [get, this, ih fun p hp => h p (List.mem_cons_of_mem _ hp)]

/-- A removed entry is absent. -/
theorem get_erase_self (t : Table α) (n : Nat) (h : sorted t = true) : (t.erase n).get n = none := by
  induction t with
  | nil => rfl
  | cons q t ih =>
    obtain ⟨k, b⟩ := q
    unfold erase
    split
    · next e => subst e; exact get_eq_none_of_lt t k (lt_of_sorted h)
    · next e => simp [get, e, ih (sorted_tail h)]

/-- A removal brings no new entry. -/
theorem mem_of_mem_erase (t : Table α) (n : Nat) (p : Nat × α) (h : p ∈ Table.erase t n) : p ∈ t := by
  induction t with
  | nil => simp [erase] at h
  | cons q t ih =>
    obtain ⟨k, b⟩ := q
    unfold erase at h
    split at h
    · exact List.mem_cons_of_mem _ h
    · rcases List.mem_cons.1 h with e | h
      · subst e; exact List.mem_cons_self
      · exact List.mem_cons_of_mem _ (ih h)

/-- A removal keeps the keys in order. -/
theorem sorted_erase (t : Table α) (n : Nat) (h : sorted t = true) : sorted (t.erase n) = true := by
  induction t with
  | nil => rfl
  | cons q t ih =>
    obtain ⟨k, b⟩ := q
    unfold erase
    split
    · exact sorted_tail h
    · refine (sorted_cons_iff _ _ _).2 ⟨fun p hp => ?_, ih (sorted_tail h)⟩
      exact lt_of_sorted h p (mem_of_mem_erase t n p (List.mem_of_mem_head? hp))

/-- A change of every entry's value keeps the keys in order. -/
theorem sorted_map {β : Type} (t : Table α) (f : Nat × α → β) (h : sorted t = true) :
    sorted (t.map fun p => (p.1, f p)) = true := by
  induction t with
  | nil => rfl
  | cons q t ih =>
    obtain ⟨k, b⟩ := q
    have hk := (sorted_cons_iff k b t).1 h
    refine (sorted_cons_iff _ _ _).2 ⟨fun p hp => ?_, ih hk.2⟩
    cases t with
    | nil => simp at hp
    | cons r t => simp at hp; subst hp; exact hk.1 r rfl

end Sys2Proof.Machine.Table
end

