-- ==== Sys2Proof/Laws/Kept.lean ====
section
/-! SUPPORT. What no operation of a unit touches, and the properties every operation keeps: phase, straps and command queue
stay; tables stay ordered, queues stay within their slots, and the LOCAL queue keeps at most one report of a source. One
lemma for each operation, in the order of the model's files. -/

namespace Sys2Proof.Machine

open Sys2Proof

set_option Elab.async false
set_option linter.unusedTactic false
set_option linter.unreachableTactic false

/-- What every operation of a unit keeps. -/
structure State.Keeps (s t : State) : Prop where
  phase : t.phase = s.phase
  straps : t.straps = s.straps
  pending : t.pending = s.pending
  ordered : s.Ordered → t.Ordered
  bounded : s.Bounded → t.Bounded
  oneReport : s.OneReport → t.OneReport

theorem State.Keeps.refl (s : State) : s.Keeps s := ⟨rfl, rfl, rfl, id, id, id⟩

theorem State.Keeps.trans {s t u : State} (h : s.Keeps t) (k : t.Keeps u) : s.Keeps u :=
  ⟨k.phase.trans h.phase, k.straps.trans h.straps, k.pending.trans h.pending, k.ordered ∘ h.ordered,
    k.bounded ∘ h.bounded, k.oneReport ∘ h.oneReport⟩

/-- A table filtered stays ordered. -/
theorem Table.sorted_filter {α : Type} (t : Table α) (p : Nat × α → Bool) (h : Table.sorted t = true) :
    Table.sorted (List.filter p t) = true := by
  induction t with
  | nil => rfl
  | cons q t ih =>
    obtain ⟨k, b⟩ := q
    have ih := ih (Table.sorted_tail h)
    rw [List.filter_cons]
    split
    · refine (Table.sorted_cons_iff _ _ _).2 ⟨fun r hr => ?_, ih⟩
      exact Table.lt_of_sorted h r (List.mem_filter.1 (List.mem_of_mem_head? hr)).1
    · exact ih

/-- What an operation does to a table keeps its order. -/
def TableKept {α : Type} (t u : Table α) : Prop := Table.sorted t = true → Table.sorted u = true

theorem TableKept.refl {α : Type} (t : Table α) : TableKept t t := id

theorem TableKept.set {α : Type} (t : Table α) (n : Nat) (a : α) : TableKept t (t.set n a) := Table.sorted_set t n a
theorem TableKept.modify {α : Type} (t : Table α) (n : Nat) (f : α → α) : TableKept t (t.modify n f) :=
  Table.sorted_modify t n f
theorem TableKept.erase {α : Type} (t : Table α) (n : Nat) : TableKept t (t.erase n) := Table.sorted_erase t n
theorem TableKept.map {α : Type} (t : Table α) (f : Nat × α → α) : TableKept t (t.map fun p => (p.1, f p)) :=
  Table.sorted_map t f
theorem TableKept.filter {α : Type} (t : Table α) (p : Nat × α → Bool) : TableKept t (List.filter p t) :=
  Table.sorted_filter t p

/-- What a record update keeps, by what it does to the tables and queues. -/
theorem State.keeps_mk {s t : State} {now : Nat} {mgmt : ManagementUnit} {berth : BerthUnit}
    {charge : ChargeEngine} {outlet : OutletUnit} {tap : TapUnit} {fuel : FuelUnit} {gate : GateUnit}
    {bus : BusController} {trunk : TrunkUnit} {tally : TallyUnit} (h : s.Keeps t)
    (h1 : TableKept t.berth.berths berth.berths := by first | exact .refl _ | exact .set _ _ _ | exact .modify _ _ _ | exact .erase _ _ | exact .map _ _ | exact .filter _ _)
    (h2 : TableKept t.charge.accounts charge.accounts := by first | exact .refl _ | exact .set _ _ _ | exact .modify _ _ _ | exact .erase _ _ | exact .map _ _ | exact .filter _ _)
    (h3 : TableKept t.charge.tariff charge.tariff := by first | exact .refl _ | exact .set _ _ _ | exact .modify _ _ _ | exact .erase _ _ | exact .map _ _ | exact .filter _ _)
    (h4 : TableKept t.outlet.outlets outlet.outlets := by first | exact .refl _ | exact .set _ _ _ | exact .modify _ _ _ | exact .erase _ _ | exact .map _ _ | exact .filter _ _)
    (h5 : TableKept t.outlet.feeders outlet.feeders := by first | exact .refl _ | exact .set _ _ _ | exact .modify _ _ _ | exact .erase _ _ | exact .map _ _ | exact .filter _ _)
    (h6 : TableKept t.tap.taps tap.taps := by first | exact .refl _ | exact .set _ _ _ | exact .modify _ _ _ | exact .erase _ _ | exact .map _ _ | exact .filter _ _)
    (h7 : TableKept t.fuel.dispensers fuel.dispensers := by first | exact .refl _ | exact .set _ _ _ | exact .modify _ _ _ | exact .erase _ _ | exact .map _ _ | exact .filter _ _)
    (h8 : TableKept t.gate.readers gate.readers := by first | exact .refl _ | exact .set _ _ _ | exact .modify _ _ _ | exact .erase _ _ | exact .map _ _ | exact .filter _ _)
    (h9 : TableKept t.gate.cache gate.cache := by first | exact .refl _ | exact .set _ _ _ | exact .modify _ _ _ | exact .erase _ _ | exact .map _ _ | exact .filter _ _)
    (h10 : TableKept t.bus.devices bus.devices := by first | exact .refl _ | exact .set _ _ _ | exact .modify _ _ _ | exact .erase _ _ | exact .map _ _ | exact .filter _ _)
    (h11 : TableKept t.trunk.sources trunk.sources := by first | exact .refl _ | exact .set _ _ _ | exact .modify _ _ _ | exact .erase _ _ | exact .map _ _ | exact .filter _ _)
    (h12 : t.trunk.thru.length ≤ 8 → trunk.thru.length ≤ 8 := by exact id)
    (h13 : t.trunk.down.length ≤ 8 → trunk.down.length ≤ 8 := by exact id)
    (h14 : t.trunk.own.length ≤ 16 → trunk.own.length ≤ 16 := by exact id)
    (h15 : t.gate.journal.length ≤ 32 → gate.journal.length ≤ 32 := by exact id)
    (h17 : t.gate.queries.length ≤ 4 → gate.queries.length ≤ 4 := by exact id)
    (h16 : (t.trunk.own.filterMap fun e => e.frame.reportSource).Nodup →
      (trunk.own.filterMap fun e => e.frame.reportSource).Nodup := by exact id) :
    s.Keeps (State.mk t.pending t.phase t.straps now mgmt berth charge outlet tap fuel gate bus trunk tally) := by
  refine h.trans ⟨rfl, rfl, rfl, fun o => ?_, fun b => ?_, h16⟩
  · exact ⟨h1 o.berths, h2 o.accounts, h3 o.tariff, h4 o.outlets, h5 o.feeders, h6 o.taps, h7 o.dispensers, h8 o.readers,
      h9 o.cache, h10 o.devices, h11 o.sources⟩
  · exact ⟨h12 b.thru, h13 b.down, h14 b.own, h15 b.journal, h17 b.queries⟩

/-- A run of operations over a list. -/
theorem State.keeps_foldl {β : Type} {s t : State} (l : List β) (g : State → β → State) (h : s.Keeps t)
    (hg : ∀ (u : State) (x : β), u.Keeps (g u x)) : s.Keeps (l.foldl g t) := by
  induction l generalizing t with
  | nil => exact h
  | cons x l ih => exact ih (h.trans (hg t x))



theorem State.advanceTo_keeps {before s : State} (t : Nat) (hk : before.Keeps s) :
    before.Keeps (State.advanceTo t s) := by
  unfold State.advanceTo
  try dsimp only
  with_reducible repeat' first
    | assumption | refine State.keeps_mk ?_

theorem State.setBerth_keeps {before s : State} (i : Nat) (b : Berth) (hk : before.Keeps s) :
    before.Keeps (State.setBerth i b s) := by
  unfold State.setBerth
  try dsimp only
  with_reducible repeat' first
    | assumption | refine State.keeps_mk ?_

theorem State.setAccount_keeps {before s : State} (n : Nat) (a : Account) (hk : before.Keeps s) :
    before.Keeps (State.setAccount n a s) := by
  unfold State.setAccount
  try dsimp only
  with_reducible repeat' first
    | assumption | refine State.keeps_mk ?_

theorem State.setOutlet_keeps {before s : State} (i : Nat) (o : Outlet) (hk : before.Keeps s) :
    before.Keeps (State.setOutlet i o s) := by
  unfold State.setOutlet
  try dsimp only
  with_reducible repeat' first
    | assumption | refine State.keeps_mk ?_

theorem State.modOutlet_keeps {before s : State} (i : Nat) (f : Outlet → Outlet) (hk : before.Keeps s) :
    before.Keeps (State.modOutlet i f s) := by
  unfold State.modOutlet
  try dsimp only
  with_reducible repeat' first
    | assumption | refine State.keeps_mk ?_

theorem State.setFeeder_keeps {before s : State} (i : Nat) (f : Feeder) (hk : before.Keeps s) :
    before.Keeps (State.setFeeder i f s) := by
  unfold State.setFeeder
  try dsimp only
  with_reducible repeat' first
    | assumption | refine State.keeps_mk ?_

theorem State.setTap_keeps {before s : State} (i : Nat) (t : Tap) (hk : before.Keeps s) :
    before.Keeps (State.setTap i t s) := by
  unfold State.setTap
  try dsimp only
  with_reducible repeat' first
    | assumption | refine State.keeps_mk ?_

theorem State.modTap_keeps {before s : State} (i : Nat) (f : Tap → Tap) (hk : before.Keeps s) :
    before.Keeps (State.modTap i f s) := by
  unfold State.modTap
  try dsimp only
  with_reducible repeat' first
    | assumption | refine State.keeps_mk ?_

theorem State.setDispenser_keeps {before s : State} (i : Nat) (d : Dispenser) (hk : before.Keeps s) :
    before.Keeps (State.setDispenser i d s) := by
  unfold State.setDispenser
  try dsimp only
  with_reducible repeat' first
    | assumption | refine State.keeps_mk ?_

theorem State.modDispenser_keeps {before s : State} (i : Nat) (f : Dispenser → Dispenser) (hk : before.Keeps s) :
    before.Keeps (State.modDispenser i f s) := by
  unfold State.modDispenser
  try dsimp only
  with_reducible repeat' first
    | assumption | refine State.keeps_mk ?_

theorem State.setReader_keeps {before s : State} (i : Nat) (r : Reader) (hk : before.Keeps s) :
    before.Keeps (State.setReader i r s) := by
  unfold State.setReader
  try dsimp only
  with_reducible repeat' first
    | assumption | refine State.keeps_mk ?_

theorem State.modReader_keeps {before s : State} (i : Nat) (f : Reader → Reader) (hk : before.Keeps s) :
    before.Keeps (State.modReader i f s) := by
  unfold State.modReader
  try dsimp only
  with_reducible repeat' first
    | assumption | refine State.keeps_mk ?_

theorem State.setDevice_keeps {before s : State} (a : Nat) (d : Device) (hk : before.Keeps s) :
    before.Keeps (State.setDevice a d s) := by
  unfold State.setDevice
  try dsimp only
  with_reducible repeat' first
    | assumption | refine State.keeps_mk ?_

theorem State.modDevice_keeps {before s : State} (a : Nat) (f : Device → Device) (hk : before.Keeps s) :
    before.Keeps (State.modDevice a f s) := by
  unfold State.modDevice
  try dsimp only
  with_reducible repeat' first
    | assumption | refine State.keeps_mk ?_

theorem State.modLive_keeps {before s : State} (f : Tallies → Tallies) (hk : before.Keeps s) :
    before.Keeps (State.modLive f s) := by
  unfold State.modLive
  try dsimp only
  with_reducible repeat' first
    | assumption | refine State.keeps_mk ?_

theorem State.setWork_keeps {before s : State} (w : Work) (hk : before.Keeps s) :
    before.Keeps (State.setWork w s) := by
  unfold State.setWork
  try dsimp only
  with_reducible repeat' first
    | assumption | refine State.keeps_mk ?_

theorem State.modSource_keeps {before s : State} (x : SourceId) (f : SourceRecord → SourceRecord)
    (hk : before.Keeps s) :
    before.Keeps (State.modSource x f s) := by
  unfold State.modSource
  try dsimp only
  with_reducible repeat' first
    | assumption | refine State.keeps_mk ?_

theorem State.mark_keeps {before s : State} (cls : ReportClass) (ident : Nat) (hk : before.Keeps s) :
    before.Keeps (State.mark cls ident s) := by
  unfold State.mark
  try dsimp only
  with_reducible repeat' first
    | assumption | apply State.modSource_keeps

theorem State.markStatus_keeps {before s : State} (hk : before.Keeps s) : before.Keeps (State.markStatus s) := by
  unfold State.markStatus
  try dsimp only
  with_reducible repeat' first
    | assumption | apply State.mark_keeps | apply State.status_keeps

theorem State.createSource_keeps {before s : State} (cls : ReportClass) (ident : Nat) (hk : before.Keeps s) :
    before.Keeps (State.createSource cls ident s) := by
  unfold State.createSource
  try dsimp only
  with_reducible repeat' first
    | assumption | split | refine State.keeps_mk ?_

theorem State.removeSource_keeps {before s : State} (cls : ReportClass) (ident : Nat) (hk : before.Keeps s) :
    before.Keeps (State.removeSource cls ident s) := by
  unfold State.removeSource
  try dsimp only
  with_reducible repeat' first
    | assumption | refine State.keeps_mk ?_

theorem State.enterReply_keeps {before s : State} (r : Reply) (h : before.Keeps s) :
    before.Keeps (State.enterReply r s) := by
  unfold State.enterReply
  split
  · next hl =>
    refine State.keeps_mk h (h14 := fun _ => ?_) (h16 := fun k => ?_)
    · simp only [List.length_append, List.length_singleton]; exact hl
    · rw [List.filterMap_append, show List.filterMap (fun e => e.frame.reportSource) [s.entryOf (.reply r)] = [] from rfl,
        List.append_nil]
      exact k
  · exact State.setWork_keeps _ h

theorem State.answer_keeps {before s : State} (fr : IntakeFrame) (a : Answer) (hk : before.Keeps s) :
    before.Keeps (State.answer fr a s) := by
  unfold State.answer
  try dsimp only
  with_reducible repeat' first
    | assumption | apply State.setWork_keeps | apply State.enterReply_keeps | split

theorem State.refuse_keeps {before s : State} (fr : IntakeFrame) (c : ReasonCode) (hk : before.Keeps s) :
    before.Keeps (State.refuse fr c s) := by
  unfold State.refuse
  try dsimp only
  with_reducible repeat' first
    | assumption | apply State.answer_keeps

theorem State.accept_keeps {before s : State} (fr : IntakeFrame) (flags : List ReplyFlag) (r : ResultFields)
    (hk : before.Keeps s) :
    before.Keeps (State.accept fr flags r s) := by
  unfold State.accept
  try dsimp only
  with_reducible repeat' first
    | assumption | apply State.answer_keeps

theorem State.countUpError_keeps {before s : State} (hk : before.Keeps s) : before.Keeps (State.countUpError s) := by
  unfold State.countUpError
  try dsimp only
  with_reducible repeat' first
    | assumption | apply State.markStatus_keeps | refine State.keeps_mk ?_

theorem State.countDownError_keeps {before s : State} (hk : before.Keeps s) :
    before.Keeps (State.countDownError s) := by
  unfold State.countDownError
  try dsimp only
  with_reducible repeat' first
    | assumption | apply State.markStatus_keeps | refine State.keeps_mk ?_

theorem State.countThruDiscard_keeps {before s : State} (hk : before.Keeps s) :
    before.Keeps (State.countThruDiscard s) := by
  unfold State.countThruDiscard
  try dsimp only
  with_reducible repeat' first
    | assumption | apply State.markStatus_keeps | refine State.keeps_mk ?_

theorem State.countDownDiscard_keeps {before s : State} (hk : before.Keeps s) :
    before.Keeps (State.countDownDiscard s) := by
  unfold State.countDownDiscard
  try dsimp only
  with_reducible repeat' first
    | assumption | apply State.markStatus_keeps | refine State.keeps_mk ?_

theorem State.countLocalDiscard_keeps {before s : State} (hk : before.Keeps s) :
    before.Keeps (State.countLocalDiscard s) := by
  unfold State.countLocalDiscard
  try dsimp only
  with_reducible repeat' first
    | assumption | apply State.markStatus_keeps | refine State.keeps_mk ?_

theorem State.journalAdd_keeps {before s : State} (r : Requester) (t : Option Token) (d : Decision)
    (passback queried notStored clockFlag : Bool) (h : before.Keeps s) :
    before.Keeps (State.journalAdd r t d passback queried notStored clockFlag s) := by
  unfold State.journalAdd
  dsimp only
  refine State.mark_keeps _ _ (State.keeps_mk h (h8 := ?_) (h9 := ?_) (h15 := fun k => ?_) (h17 := ?_))
  · split <;> exact id
  · split <;> exact id
  · split
    · next hl => simp only [List.length_append, List.length_singleton]; exact hl
    · exact k
  · split <;> exact id

theorem State.writeOneShot_keeps {before s : State} (a : Nat) (c : OneShot) (hk : before.Keeps s) :
    before.Keeps (State.writeOneShot a c s) := by
  unfold State.writeOneShot
  try dsimp only
  with_reducible repeat' first
    | assumption | apply State.modDevice_keeps

theorem State.writeImage_keeps {before s : State} (address : Nat) (hk : before.Keeps s) :
    before.Keeps (State.writeImage address s) := by
  unfold State.writeImage
  try dsimp only
  with_reducible repeat' first
    | assumption | apply State.modDevice_keeps

theorem State.recoveryEdges_keeps {before s : State} (was : State) (h : before.Keeps s) :
    before.Keeps (State.recoveryEdges was s) := by
  unfold State.recoveryEdges
  exact State.keeps_mk h

theorem State.testTide_keeps {before s : State} (hk : before.Keeps s) : before.Keeps (State.testTide s) := by
  unfold State.testTide
  try dsimp only
  with_reducible repeat' first
    | assumption | apply State.markStatus_keeps | split | refine State.keeps_mk ?_

theorem State.refreshAlarm_keeps {before s : State} (hk : before.Keeps s) : before.Keeps (State.refreshAlarm s) := by
  unfold State.refreshAlarm
  try dsimp only
  with_reducible repeat' first
    | assumption | apply State.mark_keeps | split | refine State.keeps_mk ?_

theorem State.refreshActive_keeps {before s : State} (hk : before.Keeps s) :
    before.Keeps (State.refreshActive s) := by
  unfold State.refreshActive
  try dsimp only
  with_reducible repeat' first
    | assumption | apply State.refreshAlarm_keeps | split

theorem State.taken_keeps {before s : State} (fr : IntakeFrame) (hk : before.Keeps s) :
    before.Keeps (State.taken fr s) := by
  unfold State.taken
  try dsimp only
  with_reducible repeat' first
    | assumption | split | refine State.keeps_mk ?_

theorem handleLocal_keeps {α : Type} {before s : State} (fr : IntakeFrame) (f : Form α)
    (act : IntakeFrame → α → State → State) (ha : ∀ fr a t, State.Keeps t (act fr a t)) (h : before.Keeps s) :
    before.Keeps (handleLocal fr f act s) := by
  unfold handleLocal
  split
  · exact State.countLocalDiscard_keeps h
  · split
    · exact State.refuse_keeps _ _ h
    · exact h.trans (ha _ _ _)

theorem State.endOutletSession_keeps {before s : State} (i : Nat) (reason : Reason) (hk : before.Keeps s) :
    before.Keeps (State.endOutletSession i reason s) := by
  unfold State.endOutletSession
  try dsimp only
  with_reducible repeat' first
    | assumption | apply State.setOutlet_keeps | apply State.mark_keeps | split | refine State.keeps_mk ?_

theorem State.outletDelta_keeps {before s : State} (i : Nat) (q : Nat) (hk : before.Keeps s) :
    before.Keeps (State.outletDelta i q s) := by
  unfold State.outletDelta
  try dsimp only
  with_reducible repeat' first
    | assumption | apply State.setOutlet_keeps | split | refine State.keeps_mk ?_

theorem State.attempt_keeps {before s : State} (f : Nat) (hk : before.Keeps s) :
    before.Keeps (State.attempt f s) := by
  unfold State.attempt
  try dsimp only
  with_reducible repeat' first
    | assumption | split | refine State.keeps_mk ?_

theorem State.dequeue_keeps {before s : State} (i : Nat) (hk : before.Keeps s) :
    before.Keeps (State.dequeue i s) := by
  unfold State.dequeue
  try dsimp only
  with_reducible repeat' first
    | assumption | apply State.mark_keeps | split | refine State.keeps_mk ?_

theorem State.enqueue_keeps {before s : State} (i : Nat) (o : Outlet) (shed : Bool) (hk : before.Keeps s) :
    before.Keeps (State.enqueue i o shed s) := by
  unfold State.enqueue
  try dsimp only
  with_reducible repeat' first
    | assumption | apply State.mark_keeps | apply State.attempt_keeps | refine State.keeps_mk ?_

theorem State.releaseReservation_keeps {before s : State} (i : Nat) (hk : before.Keeps s) :
    before.Keeps (State.releaseReservation i s) := by
  unfold State.releaseReservation
  try dsimp only
  with_reducible repeat' first
    | assumption | apply State.setOutlet_keeps | apply State.mark_keeps | apply State.attempt_keeps | split

theorem State.grantOutlet_keeps {before s : State} (i : Nat) (o : Outlet) (figure : Nat) (acct : Nat)
    (hk : before.Keeps s) :
    before.Keeps (State.grantOutlet i o figure acct s) := by
  unfold State.grantOutlet
  try dsimp only
  with_reducible repeat' first
    | assumption | apply State.mark_keeps | apply State.attempt_keeps | apply State.dequeue_keeps
    | apply State.setOutlet_keeps | apply State.writeImage_keeps | split

theorem State.admissionCheck_keeps {before s : State} (i : Nat) (hk : before.Keeps s) :
    before.Keeps (State.admissionCheck i s) := by
  unfold State.admissionCheck
  try dsimp only
  with_reducible repeat' first
    | assumption | apply State.grantOutlet_keeps | apply State.setOutlet_keeps | apply State.mark_keeps
    | apply State.enqueue_keeps | apply State.writeImage_keeps | split

theorem State.tryHead_keeps {before s t : State} (f : Nat) (h : before.Keeps s) (ht : s.tryHead f = some t) :
    before.Keeps t := by
  unfold State.tryHead at ht
  split at ht
  · split at ht
    · split at ht
      · split at ht
        · cases ht; exact State.grantOutlet_keeps _ _ _ _ h
        · cases ht
      · cases ht
    · cases ht
  · cases ht

theorem State.runAttempts_keeps {before : State} (n : Nat) {s : State} (h : before.Keeps s) :
    before.Keeps (State.runAttempts n s) := by
  induction n generalizing s with
  | zero => exact State.keeps_mk h
  | succ n ih =>
    rw [State.runAttempts]
    split
    · exact h
    · split
      · next ht => exact ih (State.tryHead_keeps _ h ht)
      · exact ih (State.keeps_mk h)

theorem State.flushAttempts_keeps {before s : State} (hk : before.Keeps s) :
    before.Keeps (State.flushAttempts s) := by
  unfold State.flushAttempts
  try dsimp only
  with_reducible repeat' first
    | assumption | apply State.runAttempts_keeps

theorem State.vacate_keeps {before s : State} (i : Nat) (target : OutletState) (reason : Reason)
    (hk : before.Keeps s) :
    before.Keeps (State.vacate i target reason s) := by
  unfold State.vacate
  try dsimp only
  with_reducible repeat' first
    | assumption | apply State.endOutletSession_keeps | apply State.dequeue_keeps | apply State.setOutlet_keeps
    | apply State.mark_keeps | apply State.releaseReservation_keeps | apply State.writeImage_keeps | split

theorem State.checkClosings_keeps {before s : State} (i : Nat) (hk : before.Keeps s) :
    before.Keeps (State.checkClosings i s) := by
  unfold State.checkClosings
  try dsimp only
  with_reducible repeat' first
    | assumption | apply State.vacate_keeps | split

theorem State.evalOutlet_keeps {before s : State} (i : Nat) (reason : Reason) (hk : before.Keeps s) :
    before.Keeps (State.evalOutlet i reason s) := by
  unfold State.evalOutlet
  try dsimp only
  with_reducible repeat' first
    | assumption | apply State.setOutlet_keeps | apply State.mark_keeps | apply State.writeImage_keeps
    | apply State.admissionCheck_keeps | apply State.vacate_keeps | split

theorem State.evalAndFlush_keeps {before s : State} (i : Nat) (reason : Reason) (hk : before.Keeps s) :
    before.Keeps (State.evalAndFlush i reason s) := by
  unfold State.evalAndFlush
  try dsimp only
  with_reducible repeat' first
    | assumption | apply State.evalOutlet_keeps | apply State.flushAttempts_keeps

theorem State.evalSide_keeps {before s : State} (r : SideRef) (reason : Reason) (hk : before.Keeps s) :
    before.Keeps (State.evalSide r reason s) := by
  unfold State.evalSide
  try dsimp only
  with_reducible repeat' first
    | assumption | apply State.evalAndFlush_keeps | split

theorem State.storePlug_keeps {before s : State} (i : Nat) (p : Plug) (hk : before.Keeps s) :
    before.Keeps (State.storePlug i p s) := by
  unfold State.storePlug
  try dsimp only
  with_reducible repeat' first
    | assumption | apply State.setOutlet_keeps | apply State.mark_keeps | split

theorem State.plugEvent_keeps {before s : State} (i : Nat) (present : Bool) (hk : before.Keeps s) :
    before.Keeps (State.plugEvent i present s) := by
  unfold State.plugEvent
  try dsimp only
  with_reducible repeat' first
    | assumption | apply State.storePlug_keeps | apply State.admissionCheck_keeps | apply State.flushAttempts_keeps
    | apply State.vacate_keeps | apply State.checkClosings_keeps | split

theorem State.shedOutlet_keeps {before s : State} (i : Nat) (hk : before.Keeps s) :
    before.Keeps (State.shedOutlet i s) := by
  unfold State.shedOutlet
  try dsimp only
  with_reducible repeat' first
    | assumption | apply State.setOutlet_keeps | apply State.mark_keeps | apply State.releaseReservation_keeps
    | apply State.enqueue_keeps | apply State.writeImage_keeps | split

theorem State.setCongested_keeps {before s : State} (f : Nat) (b : Bool) (hk : before.Keeps s) :
    before.Keeps (State.setCongested f b s) := by
  unfold State.setCongested
  try dsimp only
  with_reducible repeat' first
    | assumption | apply State.setFeeder_keeps | apply State.mark_keeps | split

theorem State.compareMean_keeps {before s : State} (f : Nat) (hk : before.Keeps s) :
    before.Keeps (State.compareMean f s) := by
  unfold State.compareMean
  try dsimp only
  with_reducible repeat' first
    | assumption | apply State.setCongested_keeps | apply State.setFeeder_keeps | apply State.mark_keeps
    | apply State.shedOutlet_keeps | apply State.flushAttempts_keeps | apply State.attempt_keeps | split

theorem State.feederRounds_keeps {before s : State} (hk : before.Keeps s) : before.Keeps (State.feederRounds s) := by
  unfold State.feederRounds
  try dsimp only
  with_reducible repeat' first
    | assumption | exact .refl _ | intro _ _ | apply State.compareMean_keeps | apply State.keeps_foldl
    | refine State.keeps_mk ?_

theorem State.reloadOutlet_keeps {before s : State} (o : Outlet) (f : OutletLoad) (side : Side) (hk : before.Keeps s) :
    before.Keeps (State.reloadOutlet o f side s) := by
  unfold State.reloadOutlet
  try dsimp only
  with_reducible repeat' first
    | assumption | apply State.setOutlet_keeps | apply State.modDevice_keeps | apply State.writeImage_keeps
    | apply State.mark_keeps | apply State.attempt_keeps | split

theorem outletLoadAct_keeps {before s : State} (fr : IntakeFrame) (f : OutletLoad) (hk : before.Keeps s) :
    before.Keeps (outletLoadAct fr f s) := by
  unfold outletLoadAct
  try dsimp only
  with_reducible repeat' first
    | assumption | apply State.refuse_keeps | apply State.recoveryEdges_keeps | apply State.mark_keeps
    | apply State.evalOutlet_keeps | apply State.flushAttempts_keeps | apply State.accept_keeps
    | apply State.setOutlet_keeps | apply State.createSource_keeps | apply State.writeImage_keeps
    | apply State.reloadOutlet_keeps | split

theorem feederLoadAct_keeps {before s : State} (fr : IntakeFrame) (f : FeederLoad) (hk : before.Keeps s) :
    before.Keeps (feederLoadAct fr f s) := by
  unfold feederLoadAct
  try dsimp only
  with_reducible repeat' first
    | assumption | apply State.setFeeder_keeps | apply State.createSource_keeps | apply State.mark_keeps
    | apply State.attempt_keeps | apply State.flushAttempts_keeps | apply State.accept_keeps
    | apply State.refuse_keeps | split

theorem State.setLock_keeps {before s : State} (i : Nat) (b : Bool) (hk : before.Keeps s) :
    before.Keeps (State.setLock i b s) := by
  unfold State.setLock
  try dsimp only
  with_reducible repeat' first
    | assumption | apply State.setOutlet_keeps | apply State.mark_keeps | split

theorem lockAct_keeps {before s : State} (set : Bool) (fr : IntakeFrame) (i : Nat) (hk : before.Keeps s) :
    before.Keeps (lockAct set fr i s) := by
  unfold lockAct
  try dsimp only
  with_reducible repeat' first
    | assumption | apply State.refuse_keeps | apply State.setLock_keeps | apply State.evalAndFlush_keeps
    | apply State.accept_keeps | split

theorem State.clearLocks_keeps {before s : State} (hk : before.Keeps s) : before.Keeps (State.clearLocks s) := by
  unfold State.clearLocks
  try dsimp only
  with_reducible repeat' first
    | assumption | exact .refl _ | intro _ _ | apply State.setLock_keeps | apply State.evalAndFlush_keeps
    | apply State.keeps_foldl

theorem State.endTapSession_keeps {before s : State} (i : Nat) (reason : Reason) (hk : before.Keeps s) :
    before.Keeps (State.endTapSession i reason s) := by
  unfold State.endTapSession
  try dsimp only
  with_reducible repeat' first
    | assumption | apply State.setTap_keeps | apply State.mark_keeps | split | refine State.keeps_mk ?_

theorem State.tapDelta_keeps {before s : State} (i : Nat) (q : Nat) (hk : before.Keeps s) :
    before.Keeps (State.tapDelta i q s) := by
  unfold State.tapDelta
  try dsimp only
  with_reducible repeat' first
    | assumption | apply State.setTap_keeps | split | refine State.keeps_mk ?_

theorem State.shutTap_keeps {before s : State} (i : Nat) (target : TapState) (reason : Reason) (hk : before.Keeps s) :
    before.Keeps (State.shutTap i target reason s) := by
  unfold State.shutTap
  try dsimp only
  with_reducible repeat' first
    | assumption | apply State.endTapSession_keeps | apply State.setTap_keeps | apply State.mark_keeps
    | apply State.writeImage_keeps | split

theorem State.closeIfOpen_keeps {before s : State} (i : Nat) (reason : Reason) (hk : before.Keeps s) :
    before.Keeps (State.closeIfOpen i reason s) := by
  unfold State.closeIfOpen
  try dsimp only
  with_reducible repeat' first
    | assumption | apply State.shutTap_keeps | split

theorem State.evalTapSide_keeps {before s : State} (r : SideRef) (reason : Reason) (hk : before.Keeps s) :
    before.Keeps (State.evalTapSide r reason s) := by
  unfold State.evalTapSide
  try dsimp only
  with_reducible repeat' first
    | assumption | apply State.shutTap_keeps | split

theorem State.lockTap_keeps {before s : State} (i : Nat) (hk : before.Keeps s) :
    before.Keeps (State.lockTap i s) := by
  unfold State.lockTap
  try dsimp only
  with_reducible repeat' first
    | assumption | apply State.shutTap_keeps | apply State.setTap_keeps | apply State.mark_keeps | split
    | refine State.keeps_mk ?_

theorem State.openTap_keeps {before s : State} (i : Nat) (t : Tap) (acct : Nat) (hk : before.Keeps s) :
    before.Keeps (State.openTap i t acct s) := by
  unfold State.openTap
  try dsimp only
  with_reducible repeat' first
    | assumption | apply State.setTap_keeps | apply State.mark_keeps | apply State.writeImage_keeps
    | refine State.keeps_mk ?_

theorem State.buttonPress_keeps {before s : State} (r : SideRef) (hk : before.Keeps s) :
    before.Keeps (State.buttonPress r s) := by
  unfold State.buttonPress
  try dsimp only
  with_reducible repeat' first
    | assumption | apply State.shutTap_keeps | apply State.openTap_keeps | split

theorem tapLoadAct_keeps {before s : State} (fr : IntakeFrame) (f : TapLoad) (hk : before.Keeps s) :
    before.Keeps (tapLoadAct fr f s) := by
  unfold tapLoadAct
  try dsimp only
  with_reducible repeat' first
    | assumption | apply State.refuse_keeps | apply State.mark_keeps | apply State.accept_keeps
    | apply State.setTap_keeps | apply State.createSource_keeps | apply State.modDevice_keeps
    | apply State.writeImage_keeps | split | refine State.keeps_mk ?_

theorem State.closeAllTaps_keeps {before s : State} (reason : Reason) (hk : before.Keeps s) :
    before.Keeps (State.closeAllTaps reason s) := by
  unfold State.closeAllTaps
  try dsimp only
  with_reducible repeat' first
    | assumption | exact .refl _ | intro _ _ | apply State.closeIfOpen_keeps | apply State.keeps_foldl

theorem State.setWaterSuspend_keeps {before s : State} (b : Bool) (hk : before.Keeps s) :
    before.Keeps (State.setWaterSuspend b s) := by
  unfold State.setWaterSuspend
  try dsimp only
  with_reducible repeat' first
    | assumption | apply State.markStatus_keeps | split | refine State.keeps_mk ?_

theorem waterSuspendAct_keeps {before s : State} (fr : IntakeFrame) (u : Unit) (hk : before.Keeps s) :
    before.Keeps (waterSuspendAct fr u s) := by
  unfold waterSuspendAct
  try dsimp only
  with_reducible repeat' first
    | assumption | apply State.setWaterSuspend_keeps | apply State.closeAllTaps_keeps | apply State.accept_keeps

theorem waterResumeAct_keeps {before s : State} (fr : IntakeFrame) (u : Unit) (hk : before.Keeps s) :
    before.Keeps (waterResumeAct fr u s) := by
  unfold waterResumeAct
  try dsimp only
  with_reducible repeat' first
    | assumption | apply State.setWaterSuspend_keeps | apply State.accept_keeps

theorem State.putServiceHold_keeps {before s : State} (b : Bool) (hk : before.Keeps s) :
    before.Keeps (State.putServiceHold b s) := by
  unfold State.putServiceHold
  try dsimp only
  with_reducible repeat' first
    | assumption | refine State.keeps_mk ?_

theorem State.holdOutlets_keeps {before s : State} (hk : before.Keeps s) : before.Keeps (State.holdOutlets s) := by
  unfold State.holdOutlets
  try dsimp only
  with_reducible repeat' first
    | assumption | exact .refl _ | intro _ _ | apply State.vacate_keeps | apply State.flushAttempts_keeps
    | apply State.keeps_foldl

theorem serviceHoldAct_keeps {before s : State} (fr : IntakeFrame) (u : Unit) (hk : before.Keeps s) :
    before.Keeps (serviceHoldAct fr u s) := by
  unfold serviceHoldAct
  try dsimp only
  with_reducible repeat' first
    | assumption | apply State.putServiceHold_keeps | apply State.holdOutlets_keeps | apply State.closeAllTaps_keeps
    | apply State.accept_keeps

theorem serviceReleaseAct_keeps {before s : State} (fr : IntakeFrame) (u : Unit) (hk : before.Keeps s) :
    before.Keeps (serviceReleaseAct fr u s) := by
  unfold serviceReleaseAct
  try dsimp only
  with_reducible repeat' first
    | assumption | exact .refl _ | intro _ _ | apply State.putServiceHold_keeps | apply State.evalAndFlush_keeps
    | apply State.accept_keeps | apply State.keeps_foldl | split

theorem State.dispenseExpiry_keeps {before s : State} (i : Nat) (hk : before.Keeps s) :
    before.Keeps (State.dispenseExpiry i s) := by
  unfold State.dispenseExpiry
  try dsimp only
  with_reducible repeat' first
    | assumption | apply State.advanceTo_keeps | apply State.shutTap_keeps | split

theorem State.settleExpiry_keeps {before s : State} (i : Nat) (hk : before.Keeps s) :
    before.Keeps (State.settleExpiry i s) := by
  unfold State.settleExpiry
  try dsimp only
  with_reducible repeat' first
    | assumption | apply State.advanceTo_keeps | apply State.setTap_keeps | split | refine State.keeps_mk ?_

theorem State.tripOutlet_keeps {before s : State} (i : Nat) (hk : before.Keeps s) :
    before.Keeps (State.tripOutlet i s) := by
  unfold State.tripOutlet
  try dsimp only
  with_reducible repeat' first
    | assumption | apply State.setOutlet_keeps | apply State.vacate_keeps | split

theorem State.tripTap_keeps {before s : State} (i : Nat) (hk : before.Keeps s) :
    before.Keeps (State.tripTap i s) := by
  unfold State.tripTap
  try dsimp only
  with_reducible repeat' first
    | assumption | apply State.setTap_keeps | apply State.mark_keeps | apply State.lockTap_keeps | split
    | refine State.keeps_mk ?_

theorem State.detectOutlet_keeps {before s : State} (i : Nat) (k : FaultKind) (hk : before.Keeps s) :
    before.Keeps (State.detectOutlet i k s) := by
  unfold State.detectOutlet
  try dsimp only
  with_reducible repeat' first
    | assumption | apply State.setOutlet_keeps | apply State.mark_keeps | apply State.vacate_keeps
    | apply State.tripOutlet_keeps | apply State.checkClosings_keeps | split

theorem State.detectTap_keeps {before s : State} (i : Nat) (k : FaultKind) (hk : before.Keeps s) :
    before.Keeps (State.detectTap i k s) := by
  unfold State.detectTap
  try dsimp only
  with_reducible repeat' first
    | assumption | apply State.setTap_keeps | apply State.mark_keeps | apply State.lockTap_keeps
    | apply State.tripTap_keeps | apply State.shutTap_keeps | split | refine State.keeps_mk ?_

theorem State.clearOutlet_keeps {before s : State} (i : Nat) (named : FaultKind → Bool) (hk : before.Keeps s) :
    before.Keeps (State.clearOutlet i named s) := by
  unfold State.clearOutlet
  try dsimp only
  with_reducible repeat' first
    | assumption | apply State.setOutlet_keeps | apply State.mark_keeps | apply State.writeImage_keeps
    | apply State.evalAndFlush_keeps | split

theorem State.clearTap_keeps {before s : State} (i : Nat) (named : FaultKind → Bool) (hk : before.Keeps s) :
    before.Keeps (State.clearTap i named s) := by
  unfold State.clearTap
  try dsimp only
  with_reducible repeat' first
    | assumption | apply State.setTap_keeps | apply State.mark_keeps | split | refine State.keeps_mk ?_

theorem State.unplugRecovery_keeps {before s : State} (i : Nat) (detected : FaultKind → Bool) (hk : before.Keeps s) :
    before.Keeps (State.unplugRecovery i detected s) := by
  unfold State.unplugRecovery
  try dsimp only
  with_reducible repeat' first
    | assumption | apply State.clearOutlet_keeps | split

theorem State.timeRecoveryOutlet_keeps {before s : State} (i : Nat) (k : FaultKind) (hk : before.Keeps s) :
    before.Keeps (State.timeRecoveryOutlet i k s) := by
  unfold State.timeRecoveryOutlet
  try dsimp only
  with_reducible repeat' first
    | assumption | apply State.advanceTo_keeps | apply State.setOutlet_keeps | apply State.clearOutlet_keeps | split

theorem State.timeRecoveryTap_keeps {before s : State} (i : Nat) (k : FaultKind) (hk : before.Keeps s) :
    before.Keeps (State.timeRecoveryTap i k s) := by
  unfold State.timeRecoveryTap
  try dsimp only
  with_reducible repeat' first
    | assumption | apply State.advanceTo_keeps | apply State.setTap_keeps | apply State.clearTap_keeps | split
    | refine State.keeps_mk ?_

theorem State.measureOutlet_keeps {before s : State} (i : Nat) (x : SideStatus) (hk : before.Keeps s) :
    before.Keeps (State.measureOutlet i x s) := by
  unfold State.measureOutlet
  try dsimp only
  with_reducible repeat' first
    | assumption | apply State.setOutlet_keeps | apply State.mark_keeps | split

theorem State.energyDelta_keeps {before s : State} (i : Nat) (q : Nat) (jump : Bool) (hk : before.Keeps s) :
    before.Keeps (State.energyDelta i q jump s) := by
  unfold State.energyDelta
  try dsimp only
  with_reducible repeat' first
    | assumption | apply State.modOutlet_keeps | apply State.modLive_keeps | apply State.outletDelta_keeps | split
    | refine State.keeps_mk ?_

theorem State.trailingRelease_keeps {before s : State} (i : Nat) (hk : before.Keeps s) :
    before.Keeps (State.trailingRelease i s) := by
  unfold State.trailingRelease
  try dsimp only
  with_reducible repeat' first
    | assumption | apply State.releaseReservation_keeps | apply State.flushAttempts_keeps | split

theorem State.outletReply_keeps {before s : State} (i : Nat) (x : SideStatus) (fresh : Bool) (plugChanged : Bool) (delta : Option Nat)
    (hk : before.Keeps s) :
    before.Keeps (State.outletReply i x fresh plugChanged delta s) := by
  unfold State.outletReply
  try dsimp only
  with_reducible repeat' first
    | assumption | exact .refl _ | intro _ _ | apply State.setOutlet_keeps | apply State.measureOutlet_keeps
    | apply State.energyDelta_keeps | apply State.detectOutlet_keeps | apply State.flushAttempts_keeps
    | apply State.trailingRelease_keeps | apply State.storePlug_keeps | apply State.plugEvent_keeps
    | apply State.unplugRecovery_keeps | apply State.keeps_foldl | split

theorem State.tapReply_keeps {before s : State} (i : Nat) (x : SideStatus) (fresh : Bool) (pressed : Bool) (delta : Option Nat)
    (hk : before.Keeps s) :
    before.Keeps (State.tapReply i x fresh pressed delta s) := by
  unfold State.tapReply
  try dsimp only
  with_reducible repeat' first
    | assumption | exact .refl _ | intro _ _ | apply State.setTap_keeps | apply State.mark_keeps
    | apply State.modLive_keeps | apply State.tapDelta_keeps | apply State.detectTap_keeps
    | apply State.buttonPress_keeps | apply State.keeps_foldl | split | refine State.keeps_mk ?_

theorem State.stuckDetect_keeps {before s : State} (i : Nat) (hk : before.Keeps s) :
    before.Keeps (State.stuckDetect i s) := by
  unfold State.stuckDetect
  try dsimp only
  with_reducible repeat' first
    | assumption | apply State.setOutlet_keeps | apply State.detectOutlet_keeps | apply State.flushAttempts_keeps
    | split

theorem State.completeRound_keeps {before s : State} (hk : before.Keeps s) :
    before.Keeps (State.completeRound s) := by
  unfold State.completeRound
  try dsimp only
  with_reducible repeat' first
    | assumption | exact .refl _ | intro _ _ | apply State.stuckDetect_keeps | apply State.feederRounds_keeps
    | apply State.keeps_foldl | refine State.keeps_mk ?_

theorem State.setCheckPoints_keeps {before s : State} (address : Nat) (m : Image) (hk : before.Keeps s) :
    before.Keeps (State.setCheckPoints address m s) := by
  unfold State.setCheckPoints
  try dsimp only
  with_reducible repeat' first
    | assumption | split | refine State.keeps_mk ?_

theorem State.idleKind_keeps {before s : State} (k : FaultKind) (hk : before.Keeps s) :
    before.Keeps (State.idleKind k s) := by
  unfold State.idleKind
  try dsimp only
  with_reducible repeat' first
    | assumption | split | refine State.keeps_mk ?_

theorem protectionLoadAct_keeps {before s : State} (fr : IntakeFrame) (f : ProtectionLoad) (hk : before.Keeps s) :
    before.Keeps (protectionLoadAct fr f s) := by
  unfold protectionLoadAct
  try dsimp only
  with_reducible repeat' first
    | assumption | apply State.refuse_keeps | apply State.idleKind_keeps | apply State.accept_keeps | split
    | refine State.keeps_mk ?_

theorem clearFaultAct_keeps {before s : State} (fr : IntakeFrame) (f : ClearFault) (hk : before.Keeps s) :
    before.Keeps (clearFaultAct fr f s) := by
  unfold clearFaultAct
  try dsimp only
  with_reducible repeat' first
    | assumption | apply State.refuse_keeps | apply State.clearOutlet_keeps | apply State.accept_keeps
    | apply State.clearTap_keeps | split

theorem returnToServiceAct_keeps {before s : State} (fr : IntakeFrame) (f : ReturnToService) (hk : before.Keeps s) :
    before.Keeps (returnToServiceAct fr f s) := by
  unfold returnToServiceAct
  try dsimp only
  with_reducible repeat' first
    | assumption | apply State.refuse_keeps | apply State.setOutlet_keeps | apply State.mark_keeps
    | apply State.writeImage_keeps | apply State.evalAndFlush_keeps | apply State.accept_keeps
    | apply State.setTap_keeps | split

theorem State.disagreeExpiry_keeps {before s : State} (i : Nat) (hk : before.Keeps s) :
    before.Keeps (State.disagreeExpiry i s) := by
  unfold State.disagreeExpiry
  try dsimp only
  with_reducible repeat' first
    | assumption | apply State.advanceTo_keeps | apply State.setOutlet_keeps | apply State.detectOutlet_keeps
    | apply State.flushAttempts_keeps | split

theorem State.timeRecovery_keeps {before s : State} (t : Target) (i : Nat) (k : FaultKind) (hk : before.Keeps s) :
    before.Keeps (State.timeRecovery t i k s) := by
  unfold State.timeRecovery
  try dsimp only
  with_reducible repeat' first
    | assumption | apply State.timeRecoveryOutlet_keeps | apply State.timeRecoveryTap_keeps | split

theorem State.relamp_keeps {before s : State} (r : SideRef) (hk : before.Keeps s) :
    before.Keeps (State.relamp r s) := by
  unfold State.relamp
  try dsimp only
  with_reducible repeat' first
    | assumption | apply State.writeImage_keeps | split

theorem State.cutSide_keeps {before s : State} (r : SideRef) (reason : Reason) (hk : before.Keeps s) :
    before.Keeps (State.cutSide r reason s) := by
  unfold State.cutSide
  try dsimp only
  with_reducible repeat' first
    | assumption | apply State.evalOutlet_keeps | apply State.evalTapSide_keeps | split

theorem State.passStanding_keeps {before s : State} (n : Nat) (was : Standing) (now : Standing) (hk : before.Keeps s) :
    before.Keeps (State.passStanding n was now s) := by
  unfold State.passStanding
  try dsimp only
  with_reducible repeat' first
    | assumption | exact .refl _ | intro _ _ | apply State.cutSide_keeps | apply State.flushAttempts_keeps
    | apply State.evalSide_keeps | apply State.relamp_keeps | apply State.keeps_foldl | split

theorem State.restand_keeps {before s : State} (n : Nat) (a : Account) (hk : before.Keeps s) :
    before.Keeps (State.restand n a s) := by
  unfold State.restand
  try dsimp only
  with_reducible repeat' first
    | assumption | apply State.setAccount_keeps | apply State.mark_keeps | apply State.passStanding_keeps | split

theorem State.grant_keeps {before s : State} (a : ArbiterClass) (hk : before.Keeps s) :
    before.Keeps (State.grant a s) := by
  unfold State.grant
  try dsimp only
  with_reducible repeat' first
    | assumption | refine State.keeps_mk ?_

theorem State.debit_keeps {before s : State} (v : Service) (n : Nat) (c : Nat) (hk : before.Keeps s) :
    before.Keeps (State.debit v n c s) := by
  unfold State.debit
  try dsimp only
  with_reducible repeat' first
    | assumption | apply State.modLive_keeps | apply State.mark_keeps | apply State.restand_keeps | split

theorem State.setSlots_keeps {before s : State} (v : Service) (l : List Posting) (hk : before.Keeps s) :
    before.Keeps (State.setSlots v l s) := by
  unfold State.setSlots
  try dsimp only
  with_reducible repeat' first
    | assumption | split | refine State.keeps_mk ?_

theorem State.modSession_keeps {before s : State} (v : Service) (i : Nat) (f : Session → Session)
    (hk : before.Keeps s) :
    before.Keeps (State.modSession v i f s) := by
  unfold State.modSession
  try dsimp only
  with_reducible repeat' first
    | assumption | apply State.modOutlet_keeps | apply State.modTap_keeps | split | refine State.keeps_mk ?_

theorem State.setWaiting_keeps {before s : State} (v : Service) (i : Nat) (l : List WaitingClosing)
    (hk : before.Keeps s) :
    before.Keeps (State.setWaiting v i l s) := by
  unfold State.setWaiting
  try dsimp only
  with_reducible repeat' first
    | assumption | apply State.modOutlet_keeps | apply State.modTap_keeps | split | refine State.keeps_mk ?_

theorem State.completeEnd_keeps {before s : State} (v : Service) (i : Nat) (e : EndRecord) (hk : before.Keeps s) :
    before.Keeps (State.completeEnd v i e s) := by
  unfold State.completeEnd
  try dsimp only
  with_reducible repeat' first
    | assumption | apply State.modOutlet_keeps | apply State.mark_keeps | apply State.modTap_keeps | split
    | refine State.keeps_mk ?_

theorem State.refill_keeps {before s : State} (v : Service) (i : Nat) (hk : before.Keeps s) :
    before.Keeps (State.refill v i s) := by
  unfold State.refill
  try dsimp only
  with_reducible repeat' first
    | assumption | apply State.setSlots_keeps | apply State.setWaiting_keeps | apply State.evalAndFlush_keeps
    | apply State.modSession_keeps | split

theorem State.serveOpen_keeps {before s : State} (v : Service) (e : Posting) (hk : before.Keeps s) :
    before.Keeps (State.serveOpen v e s) := by
  unfold State.serveOpen
  try dsimp only
  with_reducible repeat' first
    | assumption | apply State.setSlots_keeps | apply State.modSession_keeps | apply State.debit_keeps
    | apply State.refill_keeps

theorem State.serveClosing_keeps {before s : State} (v : Service) (e : Posting) (c : Closing) (hk : before.Keeps s) :
    before.Keeps (State.serveClosing v e c s) := by
  unfold State.serveClosing
  try dsimp only
  with_reducible repeat' first
    | assumption | apply State.debit_keeps | apply State.setSlots_keeps | apply State.completeEnd_keeps
    | apply State.refill_keeps | split

theorem State.servePosting_keeps {before s : State} (v : Service) (hk : before.Keeps s) :
    before.Keeps (State.servePosting v s) := by
  unfold State.servePosting
  try dsimp only
  with_reducible repeat' first
    | assumption | apply State.grant_keeps | apply State.serveOpen_keeps | apply State.serveClosing_keeps | split

theorem State.handOffice_keeps {before s : State} (fr : IntakeFrame) (op : OfficeOp) (hk : before.Keeps s) :
    before.Keeps (State.handOffice fr op s) := by
  unfold State.handOffice
  try dsimp only
  with_reducible repeat' first
    | assumption | apply State.setWork_keeps | refine State.keeps_mk ?_

theorem accountLoadAct_keeps {before s : State} (fr : IntakeFrame) (f : AccountLoad) (hk : before.Keeps s) :
    before.Keeps (accountLoadAct fr f s) := by
  unfold accountLoadAct
  try dsimp only
  with_reducible repeat' first
    | assumption | apply State.handOffice_keeps | apply State.refuse_keeps | split

theorem accountUpdateAct_keeps {before s : State} (fr : IntakeFrame) (f : AccountUpdate) (hk : before.Keeps s) :
    before.Keeps (accountUpdateAct fr f s) := by
  unfold accountUpdateAct
  try dsimp only
  with_reducible repeat' first
    | assumption | apply State.handOffice_keeps | apply State.refuse_keeps | split

theorem topUpAct_keeps {before s : State} (fr : IntakeFrame) (f : TopUp) (hk : before.Keeps s) :
    before.Keeps (topUpAct fr f s) := by
  unfold topUpAct
  try dsimp only
  with_reducible repeat' first
    | assumption | apply State.handOffice_keeps | apply State.refuse_keeps | split

theorem accountRemoveAct_keeps {before s : State} (fr : IntakeFrame) (n : Nat) (hk : before.Keeps s) :
    before.Keeps (accountRemoveAct fr n s) := by
  unfold accountRemoveAct
  try dsimp only
  with_reducible repeat' first
    | assumption | apply State.handOffice_keeps | apply State.refuse_keeps | split

theorem tariffLoadAct_keeps {before s : State} (fr : IntakeFrame) (f : TariffLoad) (hk : before.Keeps s) :
    before.Keeps (tariffLoadAct fr f s) := by
  unfold tariffLoadAct
  try dsimp only
  with_reducible repeat' first
    | assumption | apply State.handOffice_keeps | apply State.refuse_keeps | split

theorem accountReadAct_keeps {before s : State} (fr : IntakeFrame) (f : AccountRead) (hk : before.Keeps s) :
    before.Keeps (accountReadAct fr f s) := by
  unfold accountReadAct
  try dsimp only
  with_reducible repeat' first
    | assumption | apply State.refuse_keeps | apply State.accept_keeps | split

theorem berthLoadAct_keeps {before s : State} (fr : IntakeFrame) (f : BerthLoad) (hk : before.Keeps s) :
    before.Keeps (berthLoadAct fr f s) := by
  unfold berthLoadAct
  try dsimp only
  with_reducible repeat' first
    | assumption | apply State.refuse_keeps | apply State.setBerth_keeps | apply State.createSource_keeps
    | apply State.mark_keeps | apply State.accept_keeps | split

theorem berthReadAct_keeps {before s : State} (fr : IntakeFrame) (i : Nat) (hk : before.Keeps s) :
    before.Keeps (berthReadAct fr i s) := by
  unfold berthReadAct
  try dsimp only
  with_reducible repeat' first
    | assumption | apply State.refuse_keeps | apply State.accept_keeps | split

theorem State.changeBerth_keeps {before s : State} (i : Nat) (b : Berth) (reason : BerthReason) (hk : before.Keeps s) :
    before.Keeps (State.changeBerth i b reason s) := by
  unfold State.changeBerth
  try dsimp only
  with_reducible repeat' first
    | assumption | apply State.setBerth_keeps | apply State.mark_keeps

theorem State.freeBerth_keeps {before s : State} (i : Nat) (b : Berth) (reason : BerthReason) (hk : before.Keeps s) :
    before.Keeps (State.freeBerth i b reason s) := by
  unfold State.freeBerth
  try dsimp only
  with_reducible repeat' first
    | assumption | apply State.changeBerth_keeps

theorem State.acceptBerth_keeps {before s : State} (fr : IntakeFrame) (i : Nat) (hk : before.Keeps s) :
    before.Keeps (State.acceptBerth fr i s) := by
  unfold State.acceptBerth
  try dsimp only
  with_reducible repeat' first
    | assumption | apply State.accept_keeps | apply State.refuse_keeps | split

theorem State.withBerth_keeps {before s : State} (fr : IntakeFrame) (i : Nat) (act : Berth → State)
    (h : before.Keeps s) (ha : ∀ b, before.Keeps (act b)) : before.Keeps (State.withBerth fr i act s) := by
  unfold State.withBerth
  split
  · exact State.refuse_keeps _ _ h
  · split
    · exact State.refuse_keeps _ _ h
    · exact ha _

theorem openBerthAct_keeps {before s : State} (fr : IntakeFrame) (i : Nat) (h : before.Keeps s) :
    before.Keeps (openBerthAct fr i s) := by
  unfold openBerthAct
  try dsimp only
  repeat' first
    | with_reducible assumption
    | with_reducible apply State.withBerth_keeps
    | with_reducible apply State.acceptBerth_keeps
    | with_reducible apply State.changeBerth_keeps
    | with_reducible apply State.freeBerth_keeps
    | with_reducible apply State.refuse_keeps
    | with_reducible apply State.evalSide_keeps
    | with_reducible apply State.flushAttempts_keeps
    | with_reducible apply State.cutSide_keeps
    | intro _
    | split

theorem closeBerthAct_keeps {before s : State} (fr : IntakeFrame) (i : Nat) (h : before.Keeps s) :
    before.Keeps (closeBerthAct fr i s) := by
  unfold closeBerthAct
  try dsimp only
  repeat' first
    | with_reducible assumption
    | with_reducible apply State.withBerth_keeps
    | with_reducible apply State.acceptBerth_keeps
    | with_reducible apply State.changeBerth_keeps
    | with_reducible apply State.freeBerth_keeps
    | with_reducible apply State.refuse_keeps
    | with_reducible apply State.evalSide_keeps
    | with_reducible apply State.flushAttempts_keeps
    | with_reducible apply State.cutSide_keeps
    | intro _
    | split

theorem bookAct_keeps {before s : State} (fr : IntakeFrame) (f : Book) (h : before.Keeps s) :
    before.Keeps (bookAct fr f s) := by
  unfold bookAct
  try dsimp only
  repeat' first
    | with_reducible assumption
    | with_reducible apply State.withBerth_keeps
    | with_reducible apply State.acceptBerth_keeps
    | with_reducible apply State.changeBerth_keeps
    | with_reducible apply State.freeBerth_keeps
    | with_reducible apply State.refuse_keeps
    | with_reducible apply State.evalSide_keeps
    | with_reducible apply State.flushAttempts_keeps
    | with_reducible apply State.cutSide_keeps
    | intro _
    | split

theorem confirmAct_keeps {before s : State} (fr : IntakeFrame) (f : Confirm) (h : before.Keeps s) :
    before.Keeps (confirmAct fr f s) := by
  unfold confirmAct
  try dsimp only
  repeat' first
    | with_reducible assumption
    | with_reducible apply State.withBerth_keeps
    | with_reducible apply State.acceptBerth_keeps
    | with_reducible apply State.changeBerth_keeps
    | with_reducible apply State.freeBerth_keeps
    | with_reducible apply State.refuse_keeps
    | with_reducible apply State.evalSide_keeps
    | with_reducible apply State.flushAttempts_keeps
    | with_reducible apply State.cutSide_keeps
    | intro _
    | split

theorem declineAct_keeps {before s : State} (fr : IntakeFrame) (i : Nat) (h : before.Keeps s) :
    before.Keeps (declineAct fr i s) := by
  unfold declineAct
  try dsimp only
  repeat' first
    | with_reducible assumption
    | with_reducible apply State.withBerth_keeps
    | with_reducible apply State.acceptBerth_keeps
    | with_reducible apply State.changeBerth_keeps
    | with_reducible apply State.freeBerth_keeps
    | with_reducible apply State.refuse_keeps
    | with_reducible apply State.evalSide_keeps
    | with_reducible apply State.flushAttempts_keeps
    | with_reducible apply State.cutSide_keeps
    | intro _
    | split

theorem departAct_keeps {before s : State} (fr : IntakeFrame) (i : Nat) (h : before.Keeps s) :
    before.Keeps (departAct fr i s) := by
  unfold departAct
  try dsimp only
  repeat' first
    | with_reducible assumption
    | with_reducible apply State.withBerth_keeps
    | with_reducible apply State.acceptBerth_keeps
    | with_reducible apply State.changeBerth_keeps
    | with_reducible apply State.freeBerth_keeps
    | with_reducible apply State.refuse_keeps
    | with_reducible apply State.evalSide_keeps
    | with_reducible apply State.flushAttempts_keeps
    | with_reducible apply State.cutSide_keeps
    | intro _
    | split

theorem State.noShowTest_keeps {before s : State} (i : Nat) (hk : before.Keeps s) :
    before.Keeps (State.noShowTest i s) := by
  unfold State.noShowTest
  try dsimp only
  with_reducible repeat' first
    | assumption | apply State.freeBerth_keeps | split

theorem State.noShowAll_keeps {before s : State} (hk : before.Keeps s) : before.Keeps (State.noShowAll s) := by
  unfold State.noShowAll
  try dsimp only
  with_reducible repeat' first
    | assumption | exact .refl _ | intro _ _ | apply State.noShowTest_keeps | apply State.keeps_foldl

theorem State.offerExpiry_keeps {before s : State} (i : Nat) (hk : before.Keeps s) :
    before.Keeps (State.offerExpiry i s) := by
  unfold State.offerExpiry
  try dsimp only
  with_reducible repeat' first
    | assumption | apply State.advanceTo_keeps | apply State.freeBerth_keeps | split

theorem tideAct_keeps {before s : State} (fr : IntakeFrame) (f : TideFields) (hk : before.Keeps s) :
    before.Keeps (tideAct fr f s) := by
  unfold tideAct
  try dsimp only
  with_reducible repeat' first
    | assumption | apply State.testTide_keeps | apply State.markStatus_keeps | apply State.accept_keeps
    | refine State.keeps_mk ?_

theorem State.tideExpiry_keeps {before s : State} (hk : before.Keeps s) : before.Keeps (State.tideExpiry s) := by
  unfold State.tideExpiry
  try dsimp only
  with_reducible repeat' first
    | assumption | apply State.advanceTo_keeps | apply State.taken_keeps | apply State.testTide_keeps | split

theorem allocateAct_keeps {before s : State} (fr : IntakeFrame) (f : Allocate) (hk : before.Keeps s) :
    before.Keeps (allocateAct fr f s) := by
  unfold allocateAct
  try dsimp only
  with_reducible repeat' first
    | assumption | apply State.refuse_keeps | apply State.testTide_keeps | apply State.changeBerth_keeps
    | apply State.accept_keeps | split

theorem State.setTank_keeps {before s : State} (grade : Nat) (t : Tank) (hk : before.Keeps s) :
    before.Keeps (State.setTank grade t s) := by
  unfold State.setTank
  try dsimp only
  with_reducible repeat' first
    | assumption | split | refine State.keeps_mk ?_

theorem State.authorise_keeps {before s : State} (i : Nat) (hk : before.Keeps s) :
    before.Keeps (State.authorise i s) := by
  unfold State.authorise
  try dsimp only
  with_reducible repeat' first
    | assumption | apply State.setDispenser_keeps | apply State.writeOneShot_keeps | split

theorem State.grantHeads_keeps {before : State} (n : Nat) {s : State} (h : before.Keeps s) :
    before.Keeps (State.grantHeads n s) := by
  induction n generalizing s with
  | zero => exact h
  | succ n ih =>
    rw [State.grantHeads]
    split
    · exact h
    · split
      · exact ih (State.authorise_keeps _ (State.keeps_mk h))
      · exact h

theorem State.grantPumps_keeps {before s : State} (hk : before.Keeps s) : before.Keeps (State.grantPumps s) := by
  unfold State.grantPumps
  try dsimp only
  with_reducible repeat' first
    | assumption | apply State.grantHeads_keeps

theorem State.enterWaitPump_keeps {before s : State} (i : Nat) (hk : before.Keeps s) :
    before.Keeps (State.enterWaitPump i s) := by
  unfold State.enterWaitPump
  try dsimp only
  with_reducible repeat' first
    | assumption | apply State.modDispenser_keeps | apply State.grantPumps_keeps | refine State.keeps_mk ?_

theorem State.request_keeps {before s : State} (toOffice : Bool) (r : FuelRequest) (hk : before.Keeps s) :
    before.Keeps (State.request toOffice r s) := by
  unfold State.request
  try dsimp only
  with_reducible repeat' first
    | assumption | split | refine State.keeps_mk ?_

theorem State.withdrawHold_keeps {before s : State} (i : Nat) (hk : before.Keeps s) :
    before.Keeps (State.withdrawHold i s) := by
  unfold State.withdrawHold
  try dsimp only
  with_reducible repeat' first
    | assumption | refine State.keeps_mk ?_

theorem State.answerHold_keeps {before s : State} (i : Nat) (a : Answer) (hk : before.Keeps s) :
    before.Keeps (State.answerHold i a s) := by
  unfold State.answerHold
  try dsimp only
  with_reducible repeat' first
    | assumption | apply State.answer_keeps | split

theorem State.startSale_keeps {before s : State} (i : Nat) (d : Dispenser) (acct : Option Nat) (token : Option Token) (grade : Nat) (preset : Nat)
    (hk : before.Keeps s) :
    before.Keeps (State.startSale i d acct token grade preset s) := by
  unfold State.startSale
  try dsimp only
  with_reducible repeat' first
    | assumption | apply State.setDispenser_keeps | apply State.mark_keeps | apply State.request_keeps
    | apply State.enterWaitPump_keeps | split

theorem State.cancelSale_keeps {before s : State} (toOffice : Bool) (i : Nat) (hk : before.Keeps s) :
    before.Keeps (State.cancelSale toOffice i s) := by
  unfold State.cancelSale
  try dsimp only
  with_reducible repeat' first
    | assumption | apply State.withdrawHold_keeps | apply State.answerHold_keeps | apply State.setDispenser_keeps
    | apply State.request_keeps | apply State.mark_keeps | apply State.grantPumps_keeps | split
    | refine State.keeps_mk ?_

theorem State.completeSale_keeps {before s : State} (i : Nat) (hk : before.Keeps s) :
    before.Keeps (State.completeSale i s) := by
  unfold State.completeSale
  try dsimp only
  with_reducible repeat' first
    | assumption | apply State.setDispenser_keeps | apply State.modLive_keeps | apply State.mark_keeps | split
    | refine State.keeps_mk ?_

theorem State.enterSettling_keeps {before s : State} (toOffice : Bool) (i : Nat) (volume : Nat) (incomplete : Bool)
    (hk : before.Keeps s) :
    before.Keeps (State.enterSettling toOffice i volume incomplete s) := by
  unfold State.enterSettling
  try dsimp only
  with_reducible repeat' first
    | assumption | apply State.setDispenser_keeps | apply State.setTank_keeps | apply State.markStatus_keeps
    | apply State.modLive_keeps | apply State.request_keeps | apply State.completeSale_keeps
    | apply State.grantPumps_keeps | split

theorem State.endDelivery_keeps {before s : State} (i : Nat) (volume : Nat) (hk : before.Keeps s) :
    before.Keeps (State.endDelivery i volume s) := by
  unfold State.endDelivery
  try dsimp only
  with_reducible repeat' first
    | assumption | apply State.cancelSale_keeps | apply State.enterSettling_keeps | split

theorem State.saleReply_keeps {before s : State} (i : Nat) (was : Nozzle) (lifted : Bool) (v : Nat)
    (hk : before.Keeps s) :
    before.Keeps (State.saleReply i was lifted v s) := by
  unfold State.saleReply
  try dsimp only
  with_reducible repeat' first
    | assumption | apply State.endDelivery_keeps | apply State.setDispenser_keeps | split

theorem State.dispenserReply_keeps {before s : State} (i : Nat) (lifted : Bool) (v : Nat) (fresh : Bool)
    (hk : before.Keeps s) :
    before.Keeps (State.dispenserReply i lifted v fresh s) := by
  unfold State.dispenserReply
  try dsimp only
  with_reducible repeat' first
    | assumption | apply State.setDispenser_keeps | apply State.saleReply_keeps | split

theorem State.totaliserReply_keeps {before s : State} (i : Nat) (grade : Nat) (value : Nat) (delta : Option Nat)
    (hk : before.Keeps s) :
    before.Keeps (State.totaliserReply i grade value delta s) := by
  unfold State.totaliserReply
  try dsimp only
  with_reducible repeat' first
    | assumption | apply State.modDispenser_keeps | apply State.modLive_keeps | split | refine State.keeps_mk ?_

theorem State.saleLost_keeps {before s : State} (i : Nat) (hk : before.Keeps s) :
    before.Keeps (State.saleLost i s) := by
  unfold State.saleLost
  try dsimp only
  with_reducible repeat' first
    | assumption | apply State.setDispenser_keeps | apply State.cancelSale_keeps | apply State.enterSettling_keeps
    | split

theorem State.saleCommandFailed_keeps {before s : State} (i : Nat) (hk : before.Keeps s) :
    before.Keeps (State.saleCommandFailed i s) := by
  unfold State.saleCommandFailed
  try dsimp only
  with_reducible repeat' first
    | assumption | apply State.cancelSale_keeps | apply State.enterSettling_keeps | split

theorem State.saleCommandAcked_keeps {before s : State} (i : Nat) (c : OneShot) (hk : before.Keeps s) :
    before.Keeps (State.saleCommandAcked i c s) := by
  unfold State.saleCommandAcked
  try dsimp only
  with_reducible repeat' first
    | assumption | apply State.authorise_keeps | apply State.setDispenser_keeps | apply State.refuse_keeps | split

theorem State.modSale_keeps {before s : State} (i : Nat) (f : Sale → Sale) (hk : before.Keeps s) :
    before.Keeps (State.modSale i f s) := by
  unfold State.modSale
  try dsimp only
  with_reducible repeat' first
    | assumption | apply State.modDispenser_keeps

theorem State.changeHeld_keeps {before s : State} (n : Nat) (f : Account → Account) (hk : before.Keeps s) :
    before.Keeps (State.changeHeld n f s) := by
  unfold State.changeHeld
  try dsimp only
  with_reducible repeat' first
    | assumption | apply State.mark_keeps | apply State.restand_keeps | split

theorem State.holdGranted_keeps {before s : State} (i : Nat) (h : Nat) (hk : before.Keeps s) :
    before.Keeps (State.holdGranted i h s) := by
  unfold State.holdGranted
  try dsimp only
  with_reducible repeat' first
    | assumption | apply State.modSale_keeps | apply State.enterWaitPump_keeps | apply State.answerHold_keeps | split

theorem State.holdFailed_keeps {before s : State} (i : Nat) (hk : before.Keeps s) :
    before.Keeps (State.holdFailed i s) := by
  unfold State.holdFailed
  try dsimp only
  with_reducible repeat' first
    | assumption | apply State.answerHold_keeps | apply State.refuse_keeps | apply State.cancelSale_keeps
    | apply State.writeOneShot_keeps | split

theorem State.serveHold_keeps {before s : State} (r : FuelRequest) (h : Nat) (hk : before.Keeps s) :
    before.Keeps (State.serveHold r h s) := by
  unfold State.serveHold
  try dsimp only
  with_reducible repeat' first
    | assumption | apply State.holdFailed_keeps | apply State.changeHeld_keeps | apply State.holdGranted_keeps | split

theorem State.serveRelease_keeps {before s : State} (r : FuelRequest) (h : Nat) (hk : before.Keeps s) :
    before.Keeps (State.serveRelease r h s) := by
  unfold State.serveRelease
  try dsimp only
  with_reducible repeat' first
    | assumption | apply State.changeHeld_keeps | apply State.modDispenser_keeps | apply State.mark_keeps

theorem State.serveSettle_keeps {before s : State} (r : FuelRequest) (h : Nat) (a : Nat) (hk : before.Keeps s) :
    before.Keeps (State.serveSettle r h a s) := by
  unfold State.serveSettle
  try dsimp only
  with_reducible repeat' first
    | assumption | apply State.changeHeld_keeps | apply State.modLive_keeps | apply State.completeSale_keeps

theorem State.serveFuel_keeps {before s : State} (r : FuelRequest) (hk : before.Keeps s) :
    before.Keeps (State.serveFuel r s) := by
  unfold State.serveFuel
  try dsimp only
  with_reducible repeat' first
    | assumption | apply State.serveHold_keeps | apply State.serveRelease_keeps | apply State.serveSettle_keeps
    | split

theorem State.grantFuel_keeps {before s : State} (kind : FuelAsk → Bool) (hk : before.Keeps s) :
    before.Keeps (State.grantFuel kind s) := by
  unfold State.grantFuel
  try dsimp only
  with_reducible repeat' first
    | assumption | apply State.grant_keeps | apply State.serveFuel_keeps | split | refine State.keeps_mk ?_

theorem authoriseSaleAct_keeps {before s : State} (fr : IntakeFrame) (f : AuthoriseSale) (hk : before.Keeps s) :
    before.Keeps (authoriseSaleAct fr f s) := by
  unfold authoriseSaleAct
  try dsimp only
  with_reducible repeat' first
    | assumption | apply State.refuse_keeps | apply State.setWork_keeps | apply State.startSale_keeps
    | apply State.answerHold_keeps | split

theorem stopSaleAct_keeps {before s : State} (fr : IntakeFrame) (i : Nat) (hk : before.Keeps s) :
    before.Keeps (stopSaleAct fr i s) := by
  unfold stopSaleAct
  try dsimp only
  with_reducible repeat' first
    | assumption | apply State.refuse_keeps | apply State.cancelSale_keeps | apply State.accept_keeps
    | apply State.setDispenser_keeps | apply State.writeOneShot_keeps | split

theorem takeSaleAct_keeps {before s : State} (fr : IntakeFrame) (u : Unit) (hk : before.Keeps s) :
    before.Keeps (takeSaleAct fr u s) := by
  unfold takeSaleAct
  try dsimp only
  with_reducible repeat' first
    | assumption | apply State.accept_keeps | apply State.mark_keeps | split | refine State.keeps_mk ?_

theorem State.storeTank_keeps {before s : State} (fr : IntakeFrame) (f : TankFields) (level : Nat)
    (hk : before.Keeps s) :
    before.Keeps (State.storeTank fr f level s) := by
  unfold State.storeTank
  try dsimp only
  with_reducible repeat' first
    | assumption | apply State.setTank_keeps | apply State.markStatus_keeps | apply State.accept_keeps
    | apply State.refuse_keeps | split

theorem tankSetAct_keeps {before s : State} (fr : IntakeFrame) (f : TankFields) (hk : before.Keeps s) :
    before.Keeps (tankSetAct fr f s) := by
  unfold tankSetAct
  try dsimp only
  with_reducible repeat' first
    | assumption | apply State.storeTank_keeps

theorem tankAddAct_keeps {before s : State} (fr : IntakeFrame) (f : TankFields) (hk : before.Keeps s) :
    before.Keeps (tankAddAct fr f s) := by
  unfold tankAddAct
  try dsimp only
  with_reducible repeat' first
    | assumption | apply State.storeTank_keeps

theorem State.nozzleExpiry_keeps {before s : State} (i : Nat) (hk : before.Keeps s) :
    before.Keeps (State.nozzleExpiry i s) := by
  unfold State.nozzleExpiry
  try dsimp only
  with_reducible repeat' first
    | assumption | apply State.advanceTo_keeps | apply State.cancelSale_keeps | apply State.writeOneShot_keeps | split

theorem State.setCache_keeps {before s : State} (c : Table CacheEntry) (hc : TableKept s.gate.cache c)
    (h : before.Keeps s) : before.Keeps (State.setCache c s) := by
  unfold State.setCache
  exact State.keeps_mk h (h9 := hc)

theorem State.trimCache_keeps {before s : State} (hk : before.Keeps s) : before.Keeps (State.trimCache s) := by
  unfold State.trimCache
  try dsimp only
  with_reducible repeat' first
    | assumption | apply State.setCache_keeps | exact TableKept.set _ _ _ | exact TableKept.filter _ _

theorem State.gateDecision_keeps {before s : State} (i : Nat) (t : Token) (d : Decision) (passback : Bool) (queried : Bool) (notStored : Bool) (judged : Bool)
    (hk : before.Keeps s) :
    before.Keeps (State.gateDecision i t d passback queried notStored judged s) := by
  unfold State.gateDecision
  try dsimp only
  with_reducible repeat' first
    | assumption | apply State.journalAdd_keeps | apply State.setReader_keeps | apply State.writeOneShot_keeps | split

theorem State.gatePresence_keeps {before s : State} (i : Nat) (t : Token) (hk : before.Keeps s) :
    before.Keeps (State.gatePresence i t s) := by
  unfold State.gatePresence
  try dsimp only
  with_reducible repeat' first
    | assumption | apply State.setCache_keeps | apply State.setReader_keeps | exact TableKept.set _ _ _
    | exact TableKept.filter _ _ | split

theorem State.dropQuery_keeps {before s : State} (r : Requester) (hk : before.Keeps s) :
    before.Keeps (State.dropQuery r s) := by
  unfold State.dropQuery
  split
  · exact hk
  · exact State.removeSource_keeps _ _ (State.keeps_mk hk (h17 := fun k => le_trans (List.length_filter_le _ _) k))

/-- A query is made while fewer than four are pending (07 R134). -/
theorem State.makeQuery_keeps {before s : State} (r : Requester) (t : Token) (hm : s.missRefusal = none)
    (hk : before.Keeps s) : before.Keeps (State.makeQuery r t s) := by
  have hl : s.gate.queries.length < 4 := by
    unfold State.missRefusal at hm
    split at hm
    · cases hm
    · next h => exact Nat.lt_of_not_le h
  unfold State.makeQuery
  refine State.mark_keeps _ _ (State.createSource_keeps _ _ (State.keeps_mk hk (h17 := fun _ => ?_)))
  simp only [List.length_append, List.length_singleton]
  exact hl

theorem State.refuseCard_keeps {before s : State} (i : Nat) (code : Nat) (hk : before.Keeps s) :
    before.Keeps (State.refuseCard i code s) := by
  unfold State.refuseCard
  try dsimp only
  with_reducible repeat' first
    | assumption | apply State.setDispenser_keeps | apply State.writeOneShot_keeps | apply State.refuse_keeps | split

theorem State.dispenserDecision_keeps {before s : State} (i : Nat) (t : Token) (grade : Nat) (preset : Nat) (d : Decision) (acct : Option Nat)
    (hk : before.Keeps s) :
    before.Keeps (State.dispenserDecision i t grade preset d acct s) := by
  unfold State.dispenserDecision
  try dsimp only
  with_reducible repeat' first
    | assumption | apply State.refuseCard_keeps | apply State.startSale_keeps | split

theorem State.decideCard_keeps {before s : State} (i : Nat) (d : Dispenser) (t : Token) (grade preset : Nat)
    (hk : before.Keeps s) : before.Keeps (State.decideCard i d t grade preset s) := by
  unfold State.decideCard
  dsimp only
  split
  · exact State.dispenserDecision_keeps _ _ _ _ _ _ (State.journalAdd_keeps _ _ _ _ _ _ _ hk)
  · split
    · exact State.dispenserDecision_keeps _ _ _ _ _ _ (State.journalAdd_keeps _ _ _ _ _ _ _ hk)
    · next h => exact State.makeQuery_keeps _ _ h (State.setDispenser_keeps _ _ hk)

theorem State.dispenserCard_keeps {before s : State} (i : Nat) (t : Token) (grade : Nat) (keypad : Nat)
    (hk : before.Keeps s) :
    before.Keeps (State.dispenserCard i t grade keypad s) := by
  unfold State.dispenserCard
  try dsimp only
  with_reducible repeat' first
    | assumption | apply State.writeOneShot_keeps | apply State.refuse_keeps | apply State.journalAdd_keeps
    | apply State.decideCard_keeps | split

theorem State.gateCard_keeps {before s : State} (i : Nat) (t : Token) (hk : before.Keeps s) :
    before.Keeps (State.gateCard i t s) := by
  unfold State.gateCard
  try dsimp only
  with_reducible repeat' first
    | assumption | apply State.gateDecision_keeps | apply State.gatePresence_keeps | apply State.journalAdd_keeps
    | apply State.makeQuery_keeps | split

theorem State.exitButton_keeps {before s : State} (i : Nat) (hk : before.Keeps s) :
    before.Keeps (State.exitButton i s) := by
  unfold State.exitButton
  try dsimp only
  with_reducible repeat' first
    | assumption | apply State.journalAdd_keeps | apply State.modReader_keeps

theorem State.doorEvent_keeps {before s : State} (i : Nat) (opened : Bool) (hk : before.Keeps s) :
    before.Keeps (State.doorEvent i opened s) := by
  unfold State.doorEvent
  try dsimp only
  with_reducible repeat' first
    | assumption | apply State.setReader_keeps | apply State.journalAdd_keeps | split

theorem State.refuseQuery_keeps {before s : State} (q : Query) (d : Decision) (queried : Bool) (hk : before.Keeps s) :
    before.Keeps (State.refuseQuery q d queried s) := by
  unfold State.refuseQuery
  try dsimp only
  with_reducible repeat' first
    | assumption | apply State.dropQuery_keeps | apply State.gateDecision_keeps | apply State.journalAdd_keeps
    | apply State.dispenserDecision_keeps | split

theorem State.answerQuery_keeps {before s : State} (q : Query) (e : CacheEntry) (notStored : Bool)
    (hk : before.Keeps s) :
    before.Keeps (State.answerQuery q e notStored s) := by
  unfold State.answerQuery
  try dsimp only
  with_reducible repeat' first
    | assumption | apply State.dropQuery_keeps | apply State.gateDecision_keeps | apply State.journalAdd_keeps
    | apply State.dispenserDecision_keeps | split

theorem State.failQueries_keeps {before s : State} (hk : before.Keeps s) : before.Keeps (State.failQueries s) := by
  unfold State.failQueries
  try dsimp only
  with_reducible repeat' first
    | assumption | exact .refl _ | intro _ _ | apply State.refuseQuery_keeps | apply State.keeps_foldl

theorem State.queryExpiry_keeps {before s : State} (r : Requester) (hk : before.Keeps s) :
    before.Keeps (State.queryExpiry r s) := by
  unfold State.queryExpiry
  try dsimp only
  with_reducible repeat' first
    | assumption | apply State.advanceTo_keeps | apply State.refuseQuery_keeps | split

theorem State.unlockFailed_keeps {before s : State} (i : Nat) (hk : before.Keeps s) :
    before.Keeps (State.unlockFailed i s) := by
  unfold State.unlockFailed
  try dsimp only
  with_reducible repeat' first
    | assumption | apply State.journalAdd_keeps | apply State.commandFailed_keeps | apply State.setCache_keeps
    | apply State.setReader_keeps | exact TableKept.set _ _ _ | exact TableKept.filter _ _ | split

theorem State.readerLost_keeps {before s : State} (i : Nat) (hk : before.Keeps s) :
    before.Keeps (State.readerLost i s) := by
  unfold State.readerLost
  try dsimp only
  with_reducible repeat' first
    | assumption | apply State.dropQuery_keeps | apply State.modReader_keeps

theorem credentialFillAct_keeps {before s : State} (fr : IntakeFrame) (f : CredentialFill) (hk : before.Keeps s) :
    before.Keeps (credentialFillAct fr f s) := by
  unfold credentialFillAct
  try dsimp only
  with_reducible repeat' first
    | assumption | exact .refl _ | intro _ _ | apply State.refuse_keeps | apply State.answerQuery_keeps
    | apply State.setCache_keeps | apply State.gatePresence_keeps | apply State.accept_keeps | apply State.keeps_foldl
    | exact TableKept.set _ _ _ | exact TableKept.filter _ _ | split

theorem credentialUnknownAct_keeps {before s : State} (fr : IntakeFrame) (t : Token) (hk : before.Keeps s) :
    before.Keeps (credentialUnknownAct fr t s) := by
  unfold credentialUnknownAct
  try dsimp only
  with_reducible repeat' first
    | assumption | exact .refl _ | intro _ _ | apply State.refuseQuery_keeps | apply State.accept_keeps
    | apply State.keeps_foldl

theorem invalidateAct_keeps {before s : State} (fr : IntakeFrame) (f : Invalidate) (hk : before.Keeps s) :
    before.Keeps (invalidateAct fr f s) := by
  unfold invalidateAct
  try dsimp only
  with_reducible repeat' first
    | assumption | apply State.setCache_keeps | apply State.accept_keeps | exact TableKept.set _ _ _
    | exact TableKept.filter _ _

theorem State.send_keeps {before s : State} (a : Nat) (r : Request) (bit : Bool) (c : Cycle) (hk : before.Keeps s) :
    before.Keeps (State.send a r bit c s) := by
  unfold State.send
  try dsimp only
  with_reducible repeat' first
    | assumption | apply State.modDevice_keeps | refine State.keeps_mk ?_

theorem State.sendPoll_keeps {before s : State} (a : Nat) (c : Cycle) (hk : before.Keeps s) :
    before.Keeps (State.sendPoll a c s) := by
  unfold State.sendPoll
  try dsimp only
  with_reducible repeat' first
    | assumption | apply State.send_keeps | split

theorem State.sendOutputs_keeps {before s : State} (a : Nat) (c : Cycle) (hk : before.Keeps s) :
    before.Keeps (State.sendOutputs a c s) := by
  unfold State.sendOutputs
  try dsimp only
  with_reducible repeat' first
    | assumption | apply State.setDevice_keeps | apply State.send_keeps | split

theorem State.sendOneShot_keeps {before s : State} (a : Nat) (c : Cycle) (hk : before.Keeps s) :
    before.Keeps (State.sendOneShot a c s) := by
  unfold State.sendOneShot
  try dsimp only
  with_reducible repeat' first
    | assumption | apply State.setDevice_keeps | apply State.send_keeps | split

theorem State.changeDevice_keeps {before s : State} (a : Nat) (d : Device) (d' : Device) (hk : before.Keeps s) :
    before.Keeps (State.changeDevice a d d' s) := by
  unfold State.changeDevice
  try dsimp only
  with_reducible repeat' first
    | assumption | apply State.setDevice_keeps | apply State.markStatus_keeps | split

theorem State.pedestalGone_keeps {before s : State} (a : Nat) (hk : before.Keeps s) :
    before.Keeps (State.pedestalGone a s) := by
  unfold State.pedestalGone
  try dsimp only
  with_reducible repeat' first
    | assumption | apply State.cutSide_keeps | apply State.flushAttempts_keeps | split | refine State.keeps_mk ?_

theorem State.commandFailed_keeps {before s : State} (d : Device) (hk : before.Keeps s) :
    before.Keeps (State.commandFailed d s) := by
  unfold State.commandFailed
  try dsimp only
  with_reducible repeat' first
    | assumption | apply State.unlockFailed_keeps | apply State.saleCommandFailed_keeps | split

theorem State.failSlot_keeps {before s : State} (a : Nat) (hk : before.Keeps s) :
    before.Keeps (State.failSlot a s) := by
  unfold State.failSlot
  try dsimp only
  with_reducible repeat' first
    | assumption | apply State.setDevice_keeps | apply State.commandFailed_keeps | split

theorem State.deviceLost_keeps {before s : State} (a : Nat) (d : Device) (hk : before.Keeps s) :
    before.Keeps (State.deviceLost a d s) := by
  unfold State.deviceLost
  try dsimp only
  with_reducible repeat' first
    | assumption | apply State.pedestalGone_keeps | apply State.readerLost_keeps | apply State.dropQuery_keeps
    | apply State.saleLost_keeps | apply State.failSlot_keeps | split

theorem State.polled_keeps {before s : State} (a : Nat) (hk : before.Keeps s) : before.Keeps (State.polled a s) := by
  unfold State.polled
  try dsimp only
  with_reducible repeat' first
    | assumption | apply State.completeRound_keeps | split | refine State.keeps_mk ?_

theorem State.endExchange_keeps {before s : State} (hk : before.Keeps s) : before.Keeps (State.endExchange s) := by
  unfold State.endExchange
  try dsimp only
  with_reducible repeat' first
    | assumption | refine State.keeps_mk ?_

theorem State.retryOrFail_keeps {before s : State} (a : Nat) (hk : before.Keeps s) :
    before.Keeps (State.retryOrFail a s) := by
  unfold State.retryOrFail
  try dsimp only
  with_reducible repeat' first
    | assumption | apply State.failSlot_keeps | split

theorem State.miss_keeps {before s : State} (x : Exchange) (hk : before.Keeps s) : before.Keeps (State.miss x s) := by
  unfold State.miss
  try dsimp only
  with_reducible repeat' first
    | assumption | apply State.endExchange_keeps | apply State.changeDevice_keeps | apply State.deviceLost_keeps
    | apply State.request_keeps | apply State.retryOrFail_keeps | apply State.polled_keeps
    | apply State.recoveryEdges_keeps | split

theorem State.sideReply_keeps {before s : State} (r : SideRef) (x : SideStatus) (fresh : Bool) (plugChanged : Bool) (pressed : Bool) (wh : Option Nat) (litres : Option Nat)
    (hk : before.Keeps s) :
    before.Keeps (State.sideReply r x fresh plugChanged pressed wh litres s) := by
  unfold State.sideReply
  try dsimp only
  with_reducible repeat' first
    | assumption | apply State.outletReply_keeps | apply State.tapReply_keeps | split

theorem State.pedestalReply_keeps {before s : State} (a : Nat) (d : Device) (fresh : Bool) (sa : SideStatus) (sb : SideStatus)
    (hk : before.Keeps s) :
    before.Keeps (State.pedestalReply a d fresh sa sb s) := by
  unfold State.pedestalReply
  try dsimp only
  with_reducible repeat' first
    | assumption | apply State.sideReply_keeps | apply State.evalSide_keeps | split

theorem State.gateReply_keeps {before s : State} (d : Device) (fresh : Bool) (cards : Nat) (t : Token) (exits : Nat) (opened : Bool)
    (hk : before.Keeps s) :
    before.Keeps (State.gateReply d fresh cards t exits opened s) := by
  unfold State.gateReply
  try dsimp only
  with_reducible repeat' first
    | assumption | apply State.modReader_keeps | apply State.gateCard_keeps | apply State.exitButton_keeps
    | apply State.doorEvent_keeps | split

theorem State.dispenserStatus_keeps {before s : State} (d : Device) (fresh : Bool) (cards : Nat) (t : Token) (grade : Nat) (keypad : Nat) (lifted : Bool) (volume : Nat) (t0 : Nat) (t1 : Nat)
    (hk : before.Keeps s) :
    before.Keeps (State.dispenserStatus d fresh cards t grade keypad lifted volume t0 t1 s) := by
  unfold State.dispenserStatus
  try dsimp only
  with_reducible repeat' first
    | assumption | apply State.totaliserReply_keeps | apply State.dispenserReply_keeps
    | apply State.dispenserCard_keeps | split

theorem State.status_keeps {before s : State} (x : Exchange) (d : Device) (st : Status) (hk : before.Keeps s) :
    before.Keeps (State.status x d st s) := by
  unfold State.status
  try dsimp only
  with_reducible repeat' first
    | assumption | apply State.endExchange_keeps | apply State.changeDevice_keeps | apply State.pedestalReply_keeps
    | apply State.polled_keeps | apply State.gateReply_keeps | apply State.dispenserStatus_keeps
    | apply State.recoveryEdges_keeps | split

theorem State.imageAcked_keeps {before s : State} (a : Nat) (m : Image) (hk : before.Keeps s) :
    before.Keeps (State.imageAcked a m s) := by
  unfold State.imageAcked
  try dsimp only
  with_reducible repeat' first
    | assumption | apply State.modDevice_keeps | apply State.setCheckPoints_keeps | split

theorem State.oneShotAcked_keeps {before s : State} (a : Nat) (sent bit : Bool) (hk : before.Keeps s) :
    before.Keeps (State.oneShotAcked a sent bit s) := by
  unfold State.oneShotAcked
  try dsimp only
  with_reducible repeat' first
    | assumption | apply State.setDevice_keeps | apply State.saleCommandAcked_keeps | apply State.retryOrFail_keeps
    | split

theorem State.ack_keeps {before s : State} (x : Exchange) (d : Device) (bit : Bool) (hk : before.Keeps s) :
    before.Keeps (State.ack x d bit s) := by
  unfold State.ack
  try dsimp only
  with_reducible repeat' first
    | assumption | apply State.endExchange_keeps | apply State.changeDevice_keeps | apply State.request_keeps
    | apply State.imageAcked_keeps | apply State.oneShotAcked_keeps | apply State.recoveryEdges_keeps | split

theorem State.loadReader_keeps {before s : State} (a : Nat) (old : Option Nat) (g : DeviceFields) (h : before.Keeps s) :
    before.Keeps (State.loadReader a old g s) := by
  unfold State.loadReader
  refine State.keeps_mk h (h8 := fun k => Table.sorted_set _ _ _ ?_)
  split
  · exact Table.sorted_erase _ _ k
  · exact k

theorem State.loadDispenser_keeps {before s : State} (a : Nat) (old : Option Nat) (g : DeviceFields) (h : before.Keeps s) :
    before.Keeps (State.loadDispenser a old g s) := by
  unfold State.loadDispenser
  refine State.keeps_mk h (h7 := fun k => Table.sorted_set _ _ _ ?_)
  split
  · exact Table.sorted_erase _ _ k
  · exact k

theorem State.keepClass_keeps {before s : State} (a : Nat) (old : Option Device) (hk : before.Keeps s) :
    before.Keeps (State.keepClass a old s) := by
  unfold State.keepClass
  try dsimp only
  with_reducible repeat' first
    | assumption | split | refine State.keeps_mk ?_

theorem State.restartRound_keeps {before s : State} (hk : before.Keeps s) : before.Keeps (State.restartRound s) := by
  unfold State.restartRound
  try dsimp only
  with_reducible repeat' first
    | assumption | refine State.keeps_mk ?_

theorem State.loadRecord_keeps {before s : State} (a : Nat) (old : Option Nat) (g : DeviceFields)
    (hk : before.Keeps s) :
    before.Keeps (State.loadRecord a old g s) := by
  unfold State.loadRecord
  try dsimp only
  with_reducible repeat' first
    | assumption | apply State.loadReader_keeps | apply State.loadDispenser_keeps | split

theorem deviceLoadAct_keeps {before s : State} (fr : IntakeFrame) (f : DeviceLoad) (hk : before.Keeps s) :
    before.Keeps (deviceLoadAct fr f s) := by
  unfold deviceLoadAct
  try dsimp only
  with_reducible repeat' first
    | assumption | apply State.refuse_keeps | apply State.setDevice_keeps | apply State.loadRecord_keeps
    | apply State.keepClass_keeps | apply State.restartRound_keeps | apply State.markStatus_keeps | apply State.accept_keeps | split

theorem State.deviceGone_keeps {before s : State} (a : Nat) (d : Device) (hk : before.Keeps s) :
    before.Keeps (State.deviceGone a d s) := by
  unfold State.deviceGone
  try dsimp only
  with_reducible repeat' first
    | assumption | apply State.pedestalGone_keeps | apply State.dropQuery_keeps | split | refine State.keeps_mk ?_

theorem deviceRemoveAct_keeps {before s : State} (fr : IntakeFrame) (a : Nat) (hk : before.Keeps s) :
    before.Keeps (deviceRemoveAct fr a s) := by
  unfold deviceRemoveAct
  try dsimp only
  with_reducible repeat' first
    | assumption | apply State.refuse_keeps | apply State.deviceGone_keeps | apply State.restartRound_keeps
    | apply State.markStatus_keeps | apply State.recoveryEdges_keeps | apply State.accept_keeps | split
    | refine State.keeps_mk ?_

theorem State.sendNext_keeps {before s : State} (b : BusStep) (act : Cycle → State → State) (h : before.Keeps s)
    (ha : ∀ c t, State.Keeps t (act c t)) : before.Keeps (State.sendNext b act s) := by
  unfold State.sendNext
  split
  · split
    · exact h.trans (ha _ _)
    · exact h
  · exact h

theorem State.takeStatus_keeps {before s : State} (r : BusReply) (hk : before.Keeps s) :
    before.Keeps (State.takeStatus r s) := by
  unfold State.takeStatus
  try dsimp only
  with_reducible repeat' first
    | assumption | apply State.status_keeps | split

theorem State.takeAck_keeps {before s : State} (r : BusReply) (hk : before.Keeps s) :
    before.Keeps (State.takeAck r s) := by
  unfold State.takeAck
  try dsimp only
  with_reducible repeat' first
    | assumption | apply State.ack_keeps | split

theorem State.takeBad_keeps {before s : State} (r : BusReply) (hk : before.Keeps s) :
    before.Keeps (State.takeBad r s) := by
  unfold State.takeBad
  try dsimp only
  with_reducible repeat' first
    | assumption | apply State.miss_keeps | split

theorem State.noReply_keeps {before s : State} (hk : before.Keeps s) : before.Keeps (State.noReply s) := by
  unfold State.noReply
  try dsimp only
  with_reducible repeat' first
    | assumption | apply State.advanceTo_keeps | apply State.miss_keeps | split

theorem State.emptyCycle_keeps {before s : State} (hk : before.Keeps s) : before.Keeps (State.emptyCycle s) := by
  unfold State.emptyCycle
  try dsimp only
  with_reducible repeat' first
    | assumption | split | refine State.keeps_mk ?_

/-- What is due first is in the list. -/
theorem mem_of_firstDue {l : List (SourceId × Nat)} {p : SourceId × Nat} (e : firstDue l = some p) : p ∈ l := by
  induction l generalizing p with
  | nil => cases e
  | cons q l ih =>
    rw [firstDue] at e
    split at e
    · cases e; exact List.mem_cons_self
    · next hq =>
      split at e
      · cases e; exact List.mem_cons_of_mem _ (ih hq)
      · cases e; exact List.mem_cons_self

/-- A source that may be chosen has no report queued. -/
theorem State.candidate_not_queued {s : State} {x : SourceId} {m : Nat} (h : (x, m) ∈ s.candidates) :
    x ∉ s.queuedReports := by
  unfold State.candidates at h
  obtain ⟨p, -, e⟩ := List.mem_filterMap.1 h
  dsimp only at e
  split at e
  · next hc =>
    cases e
    intro hx
    obtain ⟨q, hq, hr⟩ := List.mem_filterMap.1 hx
    have : s.reportQueued (sourceOfKey p.1) = true := by
      unfold State.reportQueued
      rw [Bool.or_eq_true, Bool.or_eq_true]
      refine .inl (.inl (List.any_eq_true.2 ⟨q, hq, ?_⟩))
      cases hf : q.frame with
      | report r =>
        rw [hf] at hr
        simpa [LocalFrame.reports, LocalFrame.reportSource] using hr
      | reply r => rw [hf] at hr; cases hr
      | noRoute a b c => rw [hf] at hr; cases hr
    simp [this] at hc
  · cases e

/-- A choice clears marks; what is chosen has no report queued. -/
theorem State.chooseReport_keeps {before : State} (n : Nat) {s : State} (h : before.Keeps s) :
    before.Keeps (State.chooseReport n s).1 ∧ (State.chooseReport n s).1.trunk.own = s.trunk.own ∧
      ∀ x c, (State.chooseReport n s).2 = some (x, c) → x ∉ s.queuedReports := by
  induction n generalizing s with
  | zero => exact ⟨h, rfl, fun _ _ e => by cases e⟩
  | succ n ih =>
    rw [State.chooseReport]
    split
    · exact ⟨h, rfl, fun _ _ e => by cases e⟩
    · next x m e =>
      have hx : x ∉ s.queuedReports := State.candidate_not_queued (mem_of_firstDue e)
      split
      · exact ⟨h, rfl, fun _ _ e => by cases e⟩
      · split
        · split
          · exact ⟨h, rfl, fun _ _ e => by cases e; exact hx⟩
          · obtain ⟨a, b, c⟩ := ih (State.modSource_keeps ⟨x.cls, x.ident⟩ SourceRecord.unmarked h)
            exact ⟨a, b, c⟩
        · exact ⟨h, rfl, fun _ _ e => by cases e; exact hx⟩

theorem State.afterBuild_keeps {before s : State} (x : SourceId) (h : before.Keeps s) :
    before.Keeps (State.afterBuild x s) := by
  unfold State.afterBuild
  dsimp only
  split
  · exact State.modOutlet_keeps _ _ h
  · exact State.modTap_keeps _ _ h
  · split
    · exact State.mark_keeps _ _ (State.keeps_mk h)
    · exact State.keeps_mk h
  all_goals exact h

/-- A build leaves the LOCAL queue. -/
theorem State.afterBuild_own (x : SourceId) (s : State) : (State.afterBuild x s).trunk.own = s.trunk.own := by
  unfold State.afterBuild
  dsimp only
  split
  · rfl
  · rfl
  · split <;> rfl
  all_goals rfl

/-- A build leaves the LOCAL queue, and its report is of the source. -/
theorem State.buildReport_keeps {before s t : State} {x : SourceId} {c : Cause} {r : Report} (h : before.Keeps s)
    (e : s.buildReport x c = some (r, t)) : before.Keeps t ∧ t.trunk.own = s.trunk.own ∧ r.source = x := by
  unfold State.buildReport at e
  cases hb : s.bodyOf x with
  | none => rw [hb] at e; cases e
  | some b =>
    rw [hb] at e
    simp only [Option.map_some, Option.some.injEq, Prod.mk.injEq] at e
    obtain ⟨e1, e2⟩ := e
    subst e1 e2
    exact ⟨State.afterBuild_keeps _ (State.modSource_keeps _ _ h), by rw [State.afterBuild_own]; rfl, rfl⟩

/-- A frame joins a queue with a free slot; a report frame one without a report of its source. -/
theorem State.pushOwn_keeps {before s : State} (f : LocalFrame) (h : before.Keeps s) (hl : s.trunk.own.length < 16)
    (hn : ∀ x, f.reportSource = some x → x ∉ s.queuedReports) : before.Keeps (State.pushOwn f s) := by
  unfold State.pushOwn
  refine State.keeps_mk h (h14 := fun _ => ?_) (h16 := fun k => ?_)
  · simp only [List.length_append, List.length_singleton]; exact hl
  · rw [List.filterMap_append]
    cases e : f.reportSource with
    | none => simpa [e, State.entryOf_frame] using k
    | some x =>
      simp only [List.filterMap_cons, List.filterMap_nil, State.entryOf_frame, e]
      refine List.nodup_append.2 ⟨k, by simp, fun a ha b hb c => ?_⟩
      rw [List.mem_singleton] at hb
      exact hn x e (by rw [← hb, ← c]; exact ha)

theorem State.fillReport_keeps {before s : State} (h : before.Keeps s) (hl : s.trunk.own.length < 16) :
    before.Keeps (State.fillReport s) := by
  obtain ⟨a, b, c⟩ := State.chooseReport_keeps (s.trunk.sources.length + 1) h
  unfold State.fillReport
  split
  · next t x cause e =>
    rw [e] at a b c
    split
    · next r u eb =>
      obtain ⟨ku, ow, rs⟩ := State.buildReport_keeps a eb
      refine State.pushOwn_keeps _ ku ?_ ?_
      · rw [ow, b]; exact hl
      · intro y hy
        have : y = x := by simp only [LocalFrame.reportSource, rs] at hy; exact (Option.some.inj hy).symm
        subst this
        unfold State.queuedReports
        rw [ow, b]
        exact c y cause rfl
    · exact a
  · next t e => rw [e] at a; exact a

theorem State.fillSlot_keeps {before s : State} (h : before.Keeps s) : before.Keeps (State.fillSlot s) := by
  unfold State.fillSlot
  split
  · exact h
  · next hl =>
    have hl : s.trunk.own.length < 16 := Nat.lt_of_not_le hl
    split
    · exact State.enterReply_keeps _ h
    all_goals
      split
      · refine State.pushOwn_keeps _ (State.keeps_mk h) hl ?_
        intro x e; cases e
      · exact State.fillReport_keeps h hl

theorem readAct_keeps {before s : State} (fr : IntakeFrame) (f : ReadFields) (h : before.Keeps s) :
    before.Keeps (readAct fr f s) := by
  unfold readAct
  dsimp only
  repeat' first
    | with_reducible apply State.refuse_keeps
    | with_reducible apply State.accept_keeps
    | with_reducible assumption
    | split
  next e => exact (State.buildReport_keeps h e).1

theorem State.periodExpiry_keeps {before s : State} (x : SourceId) (hk : before.Keeps s) :
    before.Keeps (State.periodExpiry x s) := by
  unfold State.periodExpiry
  try dsimp only
  with_reducible repeat' first
    | assumption | apply State.advanceTo_keeps | apply State.modSource_keeps | split

theorem State.putPort_keeps {before s : State} (p : Port) (b : Bool) (hk : before.Keeps s) :
    before.Keeps (State.putPort p b s) := by
  unfold State.putPort
  try dsimp only
  with_reducible repeat' first
    | assumption | split | refine State.keeps_mk ?_

theorem State.setPort_keeps {before s : State} (p : Port) (b : Bool) (hk : before.Keeps s) :
    before.Keeps (State.setPort p b s) := by
  unfold State.setPort
  try dsimp only
  with_reducible repeat' first
    | assumption | apply State.putPort_keeps | apply State.markStatus_keeps | split

theorem State.enterLoss_keeps {before s : State} (hk : before.Keeps s) : before.Keeps (State.enterLoss s) := by
  unfold State.enterLoss
  try dsimp only
  with_reducible repeat' first
    | assumption | apply State.failQueries_keeps | apply State.markStatus_keeps | split | refine State.keeps_mk ?_

theorem State.heardUp_keeps {before s : State} (hk : before.Keeps s) : before.Keeps (State.heardUp s) := by
  unfold State.heardUp
  try dsimp only
  with_reducible repeat' first
    | assumption | apply State.markStatus_keeps | split | refine State.keeps_mk ?_

theorem State.pushLink_keeps {before s : State} (l : LinkFrame) (hk : before.Keeps s) :
    before.Keeps (State.pushLink l s) := by
  unfold State.pushLink
  try dsimp only
  with_reducible repeat' first
    | assumption | refine State.keeps_mk ?_

theorem State.pauseCheck_keeps {before s : State} (hk : before.Keeps s) : before.Keeps (State.pauseCheck s) := by
  unfold State.pauseCheck
  try dsimp only
  with_reducible repeat' first
    | assumption | apply State.pushLink_keeps | apply State.markStatus_keeps | split | refine State.keeps_mk ?_

theorem State.resumeCheck_keeps {before s : State} (hk : before.Keeps s) : before.Keeps (State.resumeCheck s) := by
  unfold State.resumeCheck
  try dsimp only
  with_reducible repeat' first
    | assumption | apply State.pushLink_keeps | apply State.markStatus_keeps | split | refine State.keeps_mk ?_

theorem State.holdUp_keeps {before s : State} (hk : before.Keeps s) : before.Keeps (State.holdUp s) := by
  unfold State.holdUp
  try dsimp only
  with_reducible repeat' first
    | assumption | apply State.markStatus_keeps | split | refine State.keeps_mk ?_

theorem State.releaseUp_keeps {before s : State} (hk : before.Keeps s) : before.Keeps (State.releaseUp s) := by
  unfold State.releaseUp
  try dsimp only
  with_reducible repeat' first
    | assumption | apply State.markStatus_keeps | split | refine State.keeps_mk ?_

theorem State.noRouteFor_keeps {before s : State} (f : Frame) (hk : before.Keeps s) :
    before.Keeps (State.noRouteFor f s) := by
  unfold State.noRouteFor
  try dsimp only
  with_reducible repeat' first
    | assumption | split | refine State.keeps_mk ?_

theorem State.routeDown_keeps {before s : State} (f : Frame) (h : before.Keeps s) :
    before.Keeps (State.routeDown f s) := by
  unfold State.routeDown
  split
  · split
    · exact h
    · exact State.noRouteFor_keeps _ h
  · split
    · exact State.countDownDiscard_keeps h
    · next hl =>
      refine State.keeps_mk h (h13 := fun _ => ?_)
      simp only [List.length_append, List.length_singleton]
      exact Nat.lt_of_not_le hl

theorem State.takeIn_keeps {before s : State} (rx : RxFrame) (hk : before.Keeps s) :
    before.Keeps (State.takeIn rx s) := by
  unfold State.takeIn
  try dsimp only
  with_reducible repeat' first
    | assumption | apply State.countLocalDiscard_keeps | split | refine State.keeps_mk ?_

theorem State.routeUp_keeps {before s : State} (rx : RxFrame) (hk : before.Keeps s) :
    before.Keeps (State.routeUp rx s) := by
  unfold State.routeUp
  try dsimp only
  with_reducible repeat' first
    | assumption | apply State.holdUp_keeps | apply State.releaseUp_keeps | apply State.countUpError_keeps
    | apply State.routeDown_keeps | apply State.takeIn_keeps | split

theorem State.receiveUp_keeps {before s : State} (rx : RxFrame) (hk : before.Keeps s) :
    before.Keeps (State.receiveUp rx s) := by
  unfold State.receiveUp
  try dsimp only
  with_reducible repeat' first
    | assumption | apply State.setPort_keeps | apply State.heardUp_keeps | apply State.routeUp_keeps
    | apply State.countUpError_keeps | split

theorem State.pushThru_keeps {before s : State} (f : Frame) (h : before.Keeps s) :
    before.Keeps (State.pushThru f s) := by
  unfold State.pushThru
  split
  · exact State.countThruDiscard_keeps h
  · next hl =>
    refine State.pauseCheck_keeps (State.keeps_mk h (h12 := fun _ => ?_))
    simp only [List.length_append, List.length_singleton]
    exact Nat.lt_of_not_le hl

theorem State.receiveDown_keeps {before s : State} (rx : RxFrame) (hk : before.Keeps s) :
    before.Keeps (State.receiveDown rx s) := by
  unfold State.receiveDown
  try dsimp only
  with_reducible repeat' first
    | assumption | apply State.setPort_keeps | apply State.countDownError_keeps | apply State.pushThru_keeps | split

theorem State.startUp_keeps {before s : State} (h : before.Keeps s) : before.Keeps (State.startUp s) := by
  unfold State.startUp
  split
  · next ht ho =>
    refine State.resumeCheck_keeps (State.keeps_mk h (h12 := fun k => ?_))
    rw [ho] at k
    exact Nat.le_of_succ_le k
  · next ho =>
    refine State.fillSlot_keeps (State.keeps_mk h (h14 := fun k => ?_) (h16 := fun k => ?_))
    · rw [ho] at k; exact Nat.le_of_succ_le k
    · rw [ho, List.filterMap_cons] at k
      split at k
      · exact k
      · exact (List.nodup_cons.1 k).2
  · exact h

theorem State.journalSent_keeps {before s : State} (n : Nat) (gap : Bool) (h : before.Keeps s) :
    before.Keeps (State.journalSent n gap s) := by
  have k : before.Keeps { s with gate := { s.gate with
      journal := s.gate.journal.drop n, copied := s.gate.copied - n, gap := s.gate.gap && !gap } } := by
    refine State.keeps_mk h (h15 := fun k => ?_)
    rw [List.length_drop]
    exact le_trans (Nat.sub_le _ _) k
  unfold State.journalSent
  dsimp only
  split
  · exact State.mark_keeps _ _ k
  · exact k

theorem State.endUp_keeps {before s : State} (hk : before.Keeps s) : before.Keeps (State.endUp s) := by
  unfold State.endUp
  try dsimp only
  with_reducible repeat' first
    | assumption | apply State.journalSent_keeps | split | refine State.keeps_mk ?_

theorem State.sendDown_keeps {before s : State} (h : before.Keeps s) : before.Keeps (State.sendDown s) := by
  unfold State.sendDown
  split
  · exact State.keeps_mk h
  · next hd =>
    refine State.keeps_mk h (h13 := fun k => ?_)
    rw [hd] at k
    exact Nat.le_of_succ_le k
  · exact h

theorem State.pauseUp_keeps {before s : State} (hk : before.Keeps s) : before.Keeps (State.pauseUp s) := by
  unfold State.pauseUp
  try dsimp only
  with_reducible repeat' first
    | assumption | apply State.setPort_keeps | apply State.heardUp_keeps | apply State.holdUp_keeps

theorem State.resumeUp_keeps {before s : State} (hk : before.Keeps s) : before.Keeps (State.resumeUp s) := by
  unfold State.resumeUp
  try dsimp only
  with_reducible repeat' first
    | assumption | apply State.setPort_keeps | apply State.heardUp_keeps | apply State.releaseUp_keeps

theorem State.holdExpiry_keeps {before s : State} (hk : before.Keeps s) : before.Keeps (State.holdExpiry s) := by
  unfold State.holdExpiry
  try dsimp only
  with_reducible repeat' first
    | assumption | apply State.advanceTo_keeps | apply State.releaseUp_keeps | split

theorem State.repeatPause_keeps {before s : State} (hk : before.Keeps s) : before.Keeps (State.repeatPause s) := by
  unfold State.repeatPause
  try dsimp only
  with_reducible repeat' first
    | assumption | apply State.advanceTo_keeps | apply State.pushLink_keeps | split | refine State.keeps_mk ?_

theorem State.transmitUp_keeps {before s : State} (hk : before.Keeps s) : before.Keeps (State.transmitUp s) := by
  unfold State.transmitUp
  try dsimp only
  with_reducible repeat' first
    | assumption | apply State.startUp_keeps | split

theorem State.silenceExpiry_keeps {before s : State} (hk : before.Keeps s) :
    before.Keeps (State.silenceExpiry s) := by
  unfold State.silenceExpiry
  try dsimp only
  with_reducible repeat' first
    | assumption | apply State.advanceTo_keeps | apply State.enterLoss_keeps | split

theorem State.putFreeze_keeps {before s : State} (f : Freeze) (hk : before.Keeps s) :
    before.Keeps (State.putFreeze f s) := by
  unfold State.putFreeze
  try dsimp only
  with_reducible repeat' first
    | assumption | refine State.keeps_mk ?_

theorem State.endFreeze_keeps {before s : State} (c : FreezeEnd) (hk : before.Keeps s) :
    before.Keeps (State.endFreeze c s) := by
  unfold State.endFreeze
  try dsimp only
  with_reducible repeat' first
    | assumption | apply State.markStatus_keeps | split | refine State.keeps_mk ?_

theorem State.closeAccount_keeps {before s : State} (f : FrozenAccount) (hk : before.Keeps s) :
    before.Keeps (State.closeAccount f s) := by
  unfold State.closeAccount
  try dsimp only
  with_reducible repeat' first
    | assumption | apply State.setAccount_keeps | apply State.mark_keeps | split

theorem State.closeFrozen_keeps {before s : State} (f : Freeze) (hk : before.Keeps s) :
    before.Keeps (State.closeFrozen f s) := by
  unfold State.closeFrozen
  try dsimp only
  with_reducible repeat' first
    | assumption | exact .refl _ | intro _ _ | apply State.closeAccount_keeps | apply State.modLive_keeps
    | apply State.endFreeze_keeps | apply State.keeps_foldl | refine State.keeps_mk ?_

theorem freezeAct_keeps {before s : State} (fr : IntakeFrame) (u : Unit) (hk : before.Keeps s) :
    before.Keeps (freezeAct fr u s) := by
  unfold freezeAct
  try dsimp only
  with_reducible repeat' first
    | assumption | apply State.handOffice_keeps

theorem closePeriodAct_keeps {before s : State} (fr : IntakeFrame) (u : Unit) (hk : before.Keeps s) :
    before.Keeps (closePeriodAct fr u s) := by
  unfold closePeriodAct
  try dsimp only
  with_reducible repeat' first
    | assumption | apply State.handOffice_keeps

theorem freezeReleaseAct_keeps {before s : State} (fr : IntakeFrame) (u : Unit) (hk : before.Keeps s) :
    before.Keeps (freezeReleaseAct fr u s) := by
  unfold freezeReleaseAct
  try dsimp only
  with_reducible repeat' first
    | assumption | apply State.refuse_keeps | apply State.endFreeze_keeps | apply State.accept_keeps | split

theorem readTallyAct_keeps {before s : State} (fr : IntakeFrame) (n : Nat) (hk : before.Keeps s) :
    before.Keeps (readTallyAct fr n s) := by
  unfold readTallyAct
  try dsimp only
  with_reducible repeat' first
    | assumption | apply State.refuse_keeps | apply State.accept_keeps | split

theorem State.autoRelease_keeps {before s : State} (hk : before.Keeps s) : before.Keeps (State.autoRelease s) := by
  unfold State.autoRelease
  try dsimp only
  with_reducible repeat' first
    | assumption | apply State.advanceTo_keeps | apply State.endFreeze_keeps | split

theorem State.answerOffice_keeps {before s : State} (a : Answer) (hk : before.Keeps s) :
    before.Keeps (State.answerOffice a s) := by
  unfold State.answerOffice
  try dsimp only
  with_reducible repeat' first
    | assumption | apply State.answer_keeps | split

theorem State.refuseOffice_keeps {before s : State} (c : ReasonCode) (hk : before.Keeps s) :
    before.Keeps (State.refuseOffice c s) := by
  unfold State.refuseOffice
  try dsimp only
  with_reducible repeat' first
    | assumption | apply State.answerOffice_keeps

theorem State.acceptOffice_keeps {before s : State} (flags : List ReplyFlag) (r : ResultFields) (hk : before.Keeps s) :
    before.Keeps (State.acceptOffice flags r s) := by
  unfold State.acceptOffice
  try dsimp only
  with_reducible repeat' first
    | assumption | apply State.answerOffice_keeps

theorem State.serveLoad_keeps {before s : State} (f : AccountLoad) (hk : before.Keeps s) :
    before.Keeps (State.serveLoad f s) := by
  unfold State.serveLoad
  try dsimp only
  with_reducible repeat' first
    | assumption | apply State.refuseOffice_keeps | apply State.setAccount_keeps | apply State.createSource_keeps
    | apply State.mark_keeps | apply State.acceptOffice_keeps | split

theorem State.reprioritise_keeps {before s : State} (n : Nat) (p : Nat) (hk : before.Keeps s) :
    before.Keeps (State.reprioritise n p s) := by
  unfold State.reprioritise
  try dsimp only
  with_reducible repeat' first
    | assumption | exact .refl _ | intro _ _ | apply State.attempt_keeps | apply State.keeps_foldl | split
    | refine State.keeps_mk ?_

theorem State.serveUpdate_keeps {before s : State} (f : AccountUpdate) (hk : before.Keeps s) :
    before.Keeps (State.serveUpdate f s) := by
  unfold State.serveUpdate
  try dsimp only
  with_reducible repeat' first
    | assumption | apply State.refuseOffice_keeps | apply State.mark_keeps | apply State.reprioritise_keeps
    | apply State.restand_keeps | apply State.flushAttempts_keeps | apply State.acceptOffice_keeps | split

theorem State.serveTopUp_keeps {before s : State} (f : TopUp) (hk : before.Keeps s) :
    before.Keeps (State.serveTopUp f s) := by
  unfold State.serveTopUp
  try dsimp only
  with_reducible repeat' first
    | assumption | apply State.refuseOffice_keeps | apply State.mark_keeps | apply State.restand_keeps
    | apply State.acceptOffice_keeps | split

theorem State.serveRemove_keeps {before s : State} (n : Nat) (hk : before.Keeps s) :
    before.Keeps (State.serveRemove n s) := by
  unfold State.serveRemove
  try dsimp only
  with_reducible repeat' first
    | assumption | apply State.refuseOffice_keeps | apply State.removeSource_keeps | apply State.acceptOffice_keeps
    | split | refine State.keeps_mk ?_

theorem State.serveTariff_keeps {before s : State} (f : TariffLoad) (hk : before.Keeps s) :
    before.Keeps (State.serveTariff f s) := by
  unfold State.serveTariff
  try dsimp only
  with_reducible repeat' first
    | assumption | apply State.acceptOffice_keeps | refine State.keeps_mk ?_

theorem State.serveFreeze_keeps {before s : State} (hk : before.Keeps s) : before.Keeps (State.serveFreeze s) := by
  unfold State.serveFreeze
  try dsimp only
  with_reducible repeat' first
    | assumption | apply State.acceptOffice_keeps | apply State.putFreeze_keeps | apply State.markStatus_keeps | split

theorem State.serveClose_keeps {before s : State} (hk : before.Keeps s) : before.Keeps (State.serveClose s) := by
  unfold State.serveClose
  try dsimp only
  with_reducible repeat' first
    | assumption | apply State.refuseOffice_keeps | apply State.closeFrozen_keeps | apply State.acceptOffice_keeps
    | split

theorem State.serveOffice_keeps {before s : State} (op : OfficeOp) (hk : before.Keeps s) :
    before.Keeps (State.serveOffice op s) := by
  unfold State.serveOffice
  try dsimp only
  with_reducible repeat' first
    | assumption | apply State.serveLoad_keeps | apply State.serveUpdate_keeps | apply State.serveTopUp_keeps
    | apply State.serveRemove_keeps | apply State.serveTariff_keeps | apply State.serveFreeze_keeps
    | apply State.serveClose_keeps | apply State.serveFuel_keeps | split

theorem State.grantOffice_keeps {before s : State} (hk : before.Keeps s) : before.Keeps (State.grantOffice s) := by
  unfold State.grantOffice
  try dsimp only
  with_reducible repeat' first
    | assumption | apply State.grant_keeps | apply State.serveOffice_keeps | split | refine State.keeps_mk ?_

theorem State.putConfig_keeps {before s : State} (c : SegmentConfig) (hk : before.Keeps s) :
    before.Keeps (State.putConfig c s) := by
  unfold State.putConfig
  try dsimp only
  with_reducible repeat' first
    | assumption | refine State.keeps_mk ?_

theorem State.trimRings_keeps {before s : State} (n : Nat) (hk : before.Keeps s) :
    before.Keeps (State.trimRings n s) := by
  unfold State.trimRings
  try dsimp only
  with_reducible repeat' first
    | assumption | refine State.keeps_mk ?_

theorem State.retimeSources_keeps {before s : State} (was : SegmentConfig) (hk : before.Keeps s) :
    before.Keeps (State.retimeSources was s) := by
  unfold State.retimeSources
  try dsimp only
  with_reducible repeat' first
    | assumption | refine State.keeps_mk ?_

theorem whenChanged_keeps {before s : State} (b : Bool) (act : State → State) (h : before.Keeps s)
    (ha : ∀ t, State.Keeps t (act t)) : before.Keeps (whenChanged b act s) := by
  unfold whenChanged
  split
  · exact h.trans (ha s)
  · exact h

theorem State.configured_keeps {before s : State} (was : State) (h : before.Keeps s) :
    before.Keeps (State.configured was s) := by
  unfold State.configured
  dsimp only
  repeat' first
    | with_reducible assumption
    | with_reducible apply whenChanged_keeps
    | with_reducible apply State.retimeSources_keeps
    | intro _
  all_goals first
    | exact State.testTide_keeps (.refl _)
    | exact State.trimRings_keeps _ (.refl _)
    | exact State.clearLocks_keeps (.refl _)
    | exact State.trimCache_keeps (.refl _)
    | exact State.grantPumps_keeps (.refl _)
    | exact State.mark_keeps _ _ (.refl _)
    | exact State.recoveryEdges_keeps _ (.refl _)
    | exact State.enterLoss_keeps (.refl _)

theorem segmentConfigAct_keeps {before s : State} (fr : IntakeFrame) (l : List ConfigItem) (hk : before.Keeps s) :
    before.Keeps (segmentConfigAct fr l s) := by
  unfold segmentConfigAct
  try dsimp only
  with_reducible repeat' first
    | assumption | apply State.configured_keeps | apply State.putConfig_keeps | apply State.accept_keeps
    | apply State.refuse_keeps | split

theorem timeAct_keeps {before s : State} (fr : IntakeFrame) (c : Clock) (hk : before.Keeps s) :
    before.Keeps (timeAct fr c s) := by
  unfold timeAct
  try dsimp only
  with_reducible repeat' first
    | assumption | apply State.markStatus_keeps | apply State.noShowAll_keeps | apply State.accept_keeps | split
    | refine State.keeps_mk ?_

theorem State.second_keeps {before s : State} (hk : before.Keeps s) : before.Keeps (State.second s) := by
  unfold State.second
  try dsimp only
  with_reducible repeat' first
    | assumption | apply State.advanceTo_keeps | apply State.noShowAll_keeps | split | refine State.keeps_mk ?_

theorem State.takeUnknown_keeps {before s : State} (hk : before.Keeps s) : before.Keeps (State.takeUnknown s) := by
  unfold State.takeUnknown
  try dsimp only
  with_reducible repeat' first
    | assumption | apply State.taken_keeps | apply State.countLocalDiscard_keeps | apply State.refuse_keeps | split

theorem State.takeDiscard_keeps {before s : State} (hk : before.Keeps s) : before.Keeps (State.takeDiscard s) := by
  unfold State.takeDiscard
  try dsimp only
  with_reducible repeat' first
    | assumption | apply State.taken_keeps | apply State.countLocalDiscard_keeps | split

theorem State.dropReports_keeps {before s : State} (h : before.Keeps s) : before.Keeps (State.dropReports s) := by
  unfold State.dropReports
  dsimp only
  refine State.keeps_mk h (h14 := fun k => le_trans (List.length_filter_le _ _) k) (h16 := fun k => ?_)
  exact k.sublist ((List.filter_sublist).filterMap _)

theorem State.restartTrunk_keeps {before s : State} (hk : before.Keeps s) : before.Keeps (State.restartTrunk s) := by
  unfold State.restartTrunk
  try dsimp only
  with_reducible repeat' first
    | assumption | apply State.dropReports_keeps | refine State.keeps_mk ?_

theorem State.restartBus_keeps {before s : State} (hk : before.Keeps s) : before.Keeps (State.restartBus s) := by
  unfold State.restartBus
  try dsimp only
  with_reducible repeat' first
    | assumption | apply State.restarted_keeps | apply State.markStatus_keeps | refine State.keeps_mk ?_

theorem State.restartSale_keeps {before s : State} (i : Nat) (hk : before.Keeps s) :
    before.Keeps (State.restartSale i s) := by
  unfold State.restartSale
  try dsimp only
  with_reducible repeat' first
    | assumption | apply State.setDispenser_keeps | apply State.cancelSale_keeps | apply State.enterSettling_keeps
    | apply State.writeOneShot_keeps | split

theorem State.restartFuel_keeps {before s : State} (hk : before.Keeps s) : before.Keeps (State.restartFuel s) := by
  unfold State.restartFuel
  try dsimp only
  with_reducible repeat' first
    | assumption | exact .refl _ | intro _ _ | apply State.restartSale_keeps | apply State.restarted_keeps
    | apply State.mark_keeps | apply State.keeps_foldl | refine State.keeps_mk ?_

theorem State.restartOutlets_keeps {before s : State} (hk : before.Keeps s) :
    before.Keeps (State.restartOutlets s) := by
  unfold State.restartOutlets
  try dsimp only
  with_reducible repeat' first
    | assumption | exact .refl _ | intro _ _ | apply State.endOutletSession_keeps | apply State.restarted_keeps
    | apply State.keeps_foldl | refine State.keeps_mk ?_

theorem State.restartTaps_keeps {before s : State} (hk : before.Keeps s) : before.Keeps (State.restartTaps s) := by
  unfold State.restartTaps
  try dsimp only
  with_reducible repeat' first
    | assumption | apply State.closeAllTaps_keeps | apply State.restarted_keeps | refine State.keeps_mk ?_

theorem State.restartGate_keeps {before s : State} (hk : before.Keeps s) : before.Keeps (State.restartGate s) := by
  unfold State.restartGate
  try dsimp only
  with_reducible repeat' first
    | assumption | exact .refl _ | intro _ _ | apply State.dropQuery_keeps | apply State.restarted_keeps
    | apply State.keeps_foldl | refine State.keeps_mk ?_

theorem State.restartBerths_keeps {before s : State} (hk : before.Keeps s) :
    before.Keeps (State.restartBerths s) := by
  unfold State.restartBerths
  try dsimp only
  with_reducible repeat' first
    | assumption | apply State.restarted_keeps | refine State.keeps_mk ?_

theorem State.restarted_keeps {before s : State} (h : before.Keeps s) : before.Keeps (State.restarted s) := by
  have k : before.Keeps ((s.restartBus.restartFuel.restartOutlets.restartTaps.restartGate.endFreeze
      .restart).restartBerths).restartTrunk :=
    State.restartTrunk_keeps (State.restartBerths_keeps (State.endFreeze_keeps _ (State.restartGate_keeps
      (State.restartTaps_keeps (State.restartOutlets_keeps (State.restartFuel_keeps (State.restartBus_keeps h)))))))
  unfold State.restarted
  exact State.keeps_foldl _ _ k fun u a => State.writeImage_keeps a (.refl u)

theorem restartAct_keeps {before s : State} (fr : IntakeFrame) (u : Unit) (hk : before.Keeps s) :
    before.Keeps (restartAct fr u s) := by
  unfold restartAct
  try dsimp only
  with_reducible repeat' first
    | assumption | apply State.refuse_keeps | apply State.dropReports_keeps | apply State.accept_keeps
    | apply State.restarted_keeps | split

/-! ## Commands -/

/-- A unit's event keeps what its operation keeps. -/
theorem unitEvent_keeps {act : State → State} {s t : State} (ha : s.Keeps (act s)) (e : unitEvent act s = .next t) :
    s.Keeps t := by
  unfold unitEvent at e
  split at e
  · cases e; exact State.refreshAlarm_keeps ha
  · cases e; exact .refl s

/-- A trunk event keeps what its operation keeps. -/
theorem trunkEvent_keeps {act : State → State} {s t : State} (ha : s.Keeps (act s)) (e : trunkEvent act s = .next t) :
    s.Keeps t := by
  unfold trunkEvent at e
  split at e
  · cases e; exact State.refreshActive_keeps ha
  · cases e; exact .refl s

/-- A local command keeps what its owning block's act keeps. -/
theorem localCommand_keeps {α : Type} {type : Byte} {mk : α → LocalBody} {f : Form α}
    {act : IntakeFrame → α → State → State} {s t : State} (ha : ∀ fr a u, State.Keeps u (act fr a u))
    (e : localCommand type mk f act s = .next t) : s.Keeps t := by
  unfold localCommand at e
  split at e
  · cases e; exact State.refreshAlarm_keeps (handleLocal_keeps _ _ _ ha (State.taken_keeps _ (.refl s)))
  · cases e; exact .refl s

/-- Whether a command is one of power, reset and start-up. -/
def Instr.restarts : Sys2Proof.Instr → Bool
  | .powerOn _ | .resetAsserted | .resetReleased _ | .startupComplete => true
  | _ => false

/-- Every command but those of power, reset and start-up keeps what the units' operations keep. -/
theorem exec_keeps {c : Sys2Proof.Instr} {s t : State} (h : Instr.restarts c = false) (e : exec c s = .next t) :
    s.Keeps t := by
  cases c with
  | powerOn => cases h
  | resetAsserted => cases h
  | resetReleased => cases h
  | startupComplete => cases h
  | upFrameReceived rx => cases e; exact State.refreshActive_keeps (State.receiveUp_keeps _ (.refl s))
  | downFrameReceived rx => cases e; exact State.receiveDown_keeps _ (.refl s)
  | pauseReceived => exact trunkEvent_keeps (State.pauseUp_keeps (.refl s)) e
  | resumeReceived => exact trunkEvent_keeps (State.resumeUp_keeps (.refl s)) e
  | upstreamHoldExpiry => exact trunkEvent_keeps (State.holdExpiry_keeps (.refl s)) e
  | pauseRepeat => exact trunkEvent_keeps (State.repeatPause_keeps (.refl s)) e
  | portDisconnected p => cases e; exact State.setPort_keeps _ _ (.refl s)
  | portConnected p => cases e; exact State.setPort_keeps _ _ (.refl s)
  | upstreamTransmit => exact trunkEvent_keeps (State.transmitUp_keeps (.refl s)) e
  | upstreamFrameSent => exact trunkEvent_keeps (State.endUp_keeps (.refl s)) e
  | downTransmit => exact trunkEvent_keeps (State.sendDown_keeps (.refl s)) e
  | localSlotFill => exact unitEvent_keeps (State.fillSlot_keeps (.refl s)) e
  | periodTimerExpiry => exact unitEvent_keeps (State.periodExpiry_keeps _ (.refl s)) e
  | upstreamSilenceExpiry => exact unitEvent_keeps (State.silenceExpiry_keeps (.refl s)) e
  | unknownType => exact unitEvent_keeps (State.takeUnknown_keeps (.refl s)) e
  | broadcastDiscard => exact unitEvent_keeps (State.takeDiscard_keeps (.refl s)) e
  | segmentConfig => exact localCommand_keeps (fun fr a u => segmentConfigAct_keeps fr a (.refl u)) e
  | time => exact localCommand_keeps (fun fr a u => timeAct_keeps fr a (.refl u)) e
  | tide => exact localCommand_keeps (fun fr a u => tideAct_keeps fr a (.refl u)) e
  | restart => exact localCommand_keeps (fun fr a u => restartAct_keeps fr a (.refl u)) e
  | read => exact localCommand_keeps (fun fr a u => readAct_keeps fr a (.refl u)) e
  | berthLoad => exact localCommand_keeps (fun fr a u => berthLoadAct_keeps fr a (.refl u)) e
  | berthRead => exact localCommand_keeps (fun fr a u => berthReadAct_keeps fr a (.refl u)) e
  | openBerth => exact localCommand_keeps (fun fr a u => openBerthAct_keeps fr a (.refl u)) e
  | closeBerth => exact localCommand_keeps (fun fr a u => closeBerthAct_keeps fr a (.refl u)) e
  | book => exact localCommand_keeps (fun fr a u => bookAct_keeps fr a (.refl u)) e
  | allocate => exact localCommand_keeps (fun fr a u => allocateAct_keeps fr a (.refl u)) e
  | confirm => exact localCommand_keeps (fun fr a u => confirmAct_keeps fr a (.refl u)) e
  | decline => exact localCommand_keeps (fun fr a u => declineAct_keeps fr a (.refl u)) e
  | depart => exact localCommand_keeps (fun fr a u => departAct_keeps fr a (.refl u)) e
  | offerTimerExpiry => exact unitEvent_keeps (State.offerExpiry_keeps _ (.refl s)) e
  | secondTick => exact unitEvent_keeps (State.second_keeps (.refl s)) e
  | noShowExpiry => exact unitEvent_keeps (State.noShowTest_keeps _ (.refl s)) e
  | tideStaleExpiry => exact unitEvent_keeps (State.tideExpiry_keeps (.refl s)) e
  | accountLoad => exact localCommand_keeps (fun fr a u => accountLoadAct_keeps fr a (.refl u)) e
  | accountUpdate => exact localCommand_keeps (fun fr a u => accountUpdateAct_keeps fr a (.refl u)) e
  | topUp => exact localCommand_keeps (fun fr a u => topUpAct_keeps fr a (.refl u)) e
  | accountRemove => exact localCommand_keeps (fun fr a u => accountRemoveAct_keeps fr a (.refl u)) e
  | accountRead => exact localCommand_keeps (fun fr a u => accountReadAct_keeps fr a (.refl u)) e
  | tariffLoad => exact localCommand_keeps (fun fr a u => tariffLoadAct_keeps fr a (.refl u)) e
  | officeOperation => exact unitEvent_keeps (State.grantOffice_keeps (.refl s)) e
  | powerPosting => exact unitEvent_keeps (State.servePosting_keeps _ (.refl s)) e
  | waterPosting => exact unitEvent_keeps (State.servePosting_keeps _ (.refl s)) e
  | holdServed => exact unitEvent_keeps (State.grantFuel_keeps _ (.refl s)) e
  | releaseServed => exact unitEvent_keeps (State.grantFuel_keeps _ (.refl s)) e
  | settleServed => exact unitEvent_keeps (State.grantFuel_keeps _ (.refl s)) e
  | outletLoad => exact localCommand_keeps (fun fr a u => outletLoadAct_keeps fr a (.refl u)) e
  | feederLoad => exact localCommand_keeps (fun fr a u => feederLoadAct_keeps fr a (.refl u)) e
  | protectionLoad => exact localCommand_keeps (fun fr a u => protectionLoadAct_keeps fr a (.refl u)) e
  | forceOff => exact localCommand_keeps (fun fr a u => lockAct_keeps _ fr a (.refl u)) e
  | releaseForce => exact localCommand_keeps (fun fr a u => lockAct_keeps _ fr a (.refl u)) e
  | serviceHold => exact localCommand_keeps (fun fr a u => serviceHoldAct_keeps fr a (.refl u)) e
  | serviceRelease => exact localCommand_keeps (fun fr a u => serviceReleaseAct_keeps fr a (.refl u)) e
  | clearFault => exact localCommand_keeps (fun fr a u => clearFaultAct_keeps fr a (.refl u)) e
  | returnToService => exact localCommand_keeps (fun fr a u => returnToServiceAct_keeps fr a (.refl u)) e
  | tapLoad => exact localCommand_keeps (fun fr a u => tapLoadAct_keeps fr a (.refl u)) e
  | waterSuspend => exact localCommand_keeps (fun fr a u => waterSuspendAct_keeps fr a (.refl u)) e
  | waterResume => exact localCommand_keeps (fun fr a u => waterResumeAct_keeps fr a (.refl u)) e
  | deviceLoad => exact localCommand_keeps (fun fr a u => deviceLoadAct_keeps fr a (.refl u)) e
  | deviceRemove => exact localCommand_keeps (fun fr a u => deviceRemoveAct_keeps fr a (.refl u)) e
  | credentialFill => exact localCommand_keeps (fun fr a u => credentialFillAct_keeps fr a (.refl u)) e
  | credentialUnknown => exact localCommand_keeps (fun fr a u => credentialUnknownAct_keeps fr a (.refl u)) e
  | invalidate => exact localCommand_keeps (fun fr a u => invalidateAct_keeps fr a (.refl u)) e
  | authoriseSale => exact localCommand_keeps (fun fr a u => authoriseSaleAct_keeps fr a (.refl u)) e
  | stopSale => exact localCommand_keeps (fun fr a u => stopSaleAct_keeps fr a (.refl u)) e
  | takeSale => exact localCommand_keeps (fun fr a u => takeSaleAct_keeps fr a (.refl u)) e
  | tankSet => exact localCommand_keeps (fun fr a u => tankSetAct_keeps fr a (.refl u)) e
  | tankAdd => exact localCommand_keeps (fun fr a u => tankAddAct_keeps fr a (.refl u)) e
  | freeze => exact localCommand_keeps (fun fr a u => freezeAct_keeps fr a (.refl u)) e
  | freezeRelease => exact localCommand_keeps (fun fr a u => freezeReleaseAct_keeps fr a (.refl u)) e
  | closePeriod => exact localCommand_keeps (fun fr a u => closePeriodAct_keeps fr a (.refl u)) e
  | readTally => exact localCommand_keeps (fun fr a u => readTallyAct_keeps fr a (.refl u)) e
  | freezeAutoRelease => exact unitEvent_keeps (State.autoRelease_keeps (.refl s)) e
  | poll => exact unitEvent_keeps (State.sendNext_keeps _ _ (.refl s) fun c u => State.sendPoll_keeps _ c (.refl u)) e
  | setOutputs => exact unitEvent_keeps (State.sendNext_keeps _ _ (.refl s) fun c u => State.sendOutputs_keeps _ c (.refl u)) e
  | oneShotTransmit => exact unitEvent_keeps (State.sendNext_keeps _ _ (.refl s) fun c u => State.sendOneShot_keeps _ c (.refl u)) e
  | statusReply => exact unitEvent_keeps (State.takeStatus_keeps _ (.refl s)) e
  | ackReceived => exact unitEvent_keeps (State.takeAck_keeps _ (.refl s)) e
  | replyTimeout => exact unitEvent_keeps (State.noReply_keeps (.refl s)) e
  | badReply => exact unitEvent_keeps (State.takeBad_keeps _ (.refl s)) e
  | stuckMeterDetect => exact unitEvent_keeps (State.stuckDetect_keeps _ (.refl s)) e
  | dispensePeriodExpiry => exact unitEvent_keeps (State.dispenseExpiry_keeps _ (.refl s)) e
  | leakDisagreeExpiry => exact unitEvent_keeps (State.disagreeExpiry_keeps _ (.refl s)) e
  | recoveryTimerExpiry => exact unitEvent_keeps (State.timeRecovery_keeps _ _ _ (.refl s)) e
  | leakSettleEnd => exact unitEvent_keeps (State.settleExpiry_keeps _ (.refl s)) e
  | queryTimeout => exact unitEvent_keeps (State.queryExpiry_keeps _ (.refl s)) e
  | nozzleTimeout => exact unitEvent_keeps (State.nozzleExpiry_keeps _ (.refl s)) e
  | cycleWithNothingToSend => exact unitEvent_keeps (State.emptyCycle_keeps (.refl s)) e

end Sys2Proof.Machine
end

