-- ==== Sys2Proof/Laws/Leaves.lean ====
section
/-! SUPPORT. What the operations of the outlet and tap units leave alone: the clock, the management unit, the berths, the
accounts and prices, the fuel, gate and tally units, the protection table, and all of the trunk unit but its report
sources, the exchange and cycle of the bus controller, and the kind, state, miss count and stored image of every device.
One lemma for each operation, in the order of the model's files. -/

namespace Sys2Proof.Machine

open Sys2Proof

set_option Elab.async false
set_option linter.unusedTactic false
set_option linter.unreachableTactic false

/-- What the office may read of a device's service: its kind, state and miss count; and its stored image. -/
def Device.standing (d : Device) : DeviceKind × DeviceState × Nat × Option Status := (d.kind, d.state, d.misses, d.stored)

/-- Every device of a poll list as another has it. -/
def SameService (t u : Table Device) : Prop := ∀ a, (u.get a).map Device.standing = (t.get a).map Device.standing

theorem SameService.refl (t : Table Device) : SameService t t := fun _ => rfl

/-- A change of a device that leaves its kind, state, miss count and stored image. -/
theorem SameService.modify (t : Table Device) (a : Nat) (f : Device → Device) (h : ∀ d, (f d).standing = d.standing) :
    SameService t (t.modify a f) := by
  intro b
  rw [Table.get_modify]
  split
  · next e => subst e; cases t.get b <;> simp [h]
  · rfl

/-- What every operation of the outlet and tap units leaves alone. -/
structure State.Leaves (s t : State) : Prop where
  pending : t.pending = s.pending
  phase : t.phase = s.phase
  straps : t.straps = s.straps
  now : t.now = s.now
  mgmt : t.mgmt = s.mgmt
  berth : t.berth = s.berth
  accounts : t.charge.accounts = s.charge.accounts
  tariff : t.charge.tariff = s.charge.tariff
  requests : t.charge.fuel = s.charge.fuel
  office : t.charge.office = s.charge.office
  lastGranted : t.charge.lastGranted = s.charge.lastGranted
  serviceHold : t.outlet.serviceHold = s.outlet.serviceHold
  protection : t.outlet.protection = s.outlet.protection
  raw : t.outlet.raw = s.outlet.raw
  waterSuspend : t.tap.waterSuspend = s.tap.waterSuspend
  fuel : t.fuel = s.fuel
  gate : t.gate = s.gate
  bus : t.bus = { s.bus with devices := t.bus.devices }
  served : SameService s.bus.devices t.bus.devices
  trunk : t.trunk = { s.trunk with sources := t.trunk.sources }
  tally : t.tally = s.tally

theorem State.Leaves.refl (s : State) : s.Leaves s :=
  ⟨rfl, rfl, rfl, rfl, rfl, rfl, rfl, rfl, rfl, rfl, rfl, rfl, rfl, rfl, rfl, rfl, rfl, rfl, .refl _, rfl, rfl⟩

theorem State.Leaves.trans {s t u : State} (h : s.Leaves t) (k : t.Leaves u) : s.Leaves u where
  pending := k.pending.trans h.pending
  phase := k.phase.trans h.phase
  straps := k.straps.trans h.straps
  now := k.now.trans h.now
  mgmt := k.mgmt.trans h.mgmt
  berth := k.berth.trans h.berth
  accounts := k.accounts.trans h.accounts
  tariff := k.tariff.trans h.tariff
  requests := k.requests.trans h.requests
  office := k.office.trans h.office
  lastGranted := k.lastGranted.trans h.lastGranted
  serviceHold := k.serviceHold.trans h.serviceHold
  protection := k.protection.trans h.protection
  raw := k.raw.trans h.raw
  waterSuspend := k.waterSuspend.trans h.waterSuspend
  fuel := k.fuel.trans h.fuel
  gate := k.gate.trans h.gate
  bus := by rw [k.bus, h.bus]
  served := fun a => (k.served a).trans (h.served a)
  trunk := by rw [k.trunk, h.trunk]
  tally := k.tally.trans h.tally

/-- What a record update leaves alone, by what it writes. -/
theorem State.leaves_mk {s t : State} {charge : ChargeEngine} {outlet : OutletUnit} {tap : TapUnit}
    {bus : BusController} {trunk : TrunkUnit} (h : s.Leaves t)
    (h1 : charge.accounts = t.charge.accounts := by rfl) (h2 : charge.tariff = t.charge.tariff := by rfl)
    (h3 : charge.fuel = t.charge.fuel := by rfl) (h4 : charge.office = t.charge.office := by rfl)
    (h5 : charge.lastGranted = t.charge.lastGranted := by rfl)
    (h6 : outlet.serviceHold = t.outlet.serviceHold := by rfl)
    (h7 : outlet.protection = t.outlet.protection := by rfl) (h8 : outlet.raw = t.outlet.raw := by rfl)
    (h9 : tap.waterSuspend = t.tap.waterSuspend := by rfl)
    (h10 : bus = { t.bus with devices := bus.devices } := by rfl)
    (h12 : SameService t.bus.devices bus.devices := by exact .refl _)
    (h11 : trunk = { t.trunk with sources := trunk.sources } := by rfl) :
    s.Leaves (State.mk t.pending t.phase t.straps t.now t.mgmt t.berth charge outlet tap t.fuel t.gate bus trunk t.tally) :=
  h.trans ⟨rfl, rfl, rfl, rfl, rfl, rfl, h1, h2, h3, h4, h5, h6, h7, h8, h9, rfl, rfl, h10, h12, h11, rfl⟩

/-- A run of operations over a list. -/
theorem State.leaves_foldl {β : Type} {s t : State} (l : List β) (g : State → β → State) (h : s.Leaves t)
    (hg : ∀ (u : State) (x : β), u.Leaves (g u x)) : s.Leaves (l.foldl g t) := by
  induction l generalizing t with
  | nil => exact h
  | cons x l ih => exact ih (h.trans (hg t x))

theorem State.setOutlet_leaves {before s : State} (i : Nat) (o : Outlet) (hk : before.Leaves s) :
    before.Leaves (State.setOutlet i o s) := by
  unfold State.setOutlet
  try dsimp only
  with_reducible repeat' first
    | assumption | refine State.leaves_mk ?_

theorem State.modOutlet_leaves {before s : State} (i : Nat) (f : Outlet → Outlet) (hk : before.Leaves s) :
    before.Leaves (State.modOutlet i f s) := by
  unfold State.modOutlet
  try dsimp only
  with_reducible repeat' first
    | assumption | refine State.leaves_mk ?_

theorem State.setFeeder_leaves {before s : State} (i : Nat) (f : Feeder) (hk : before.Leaves s) :
    before.Leaves (State.setFeeder i f s) := by
  unfold State.setFeeder
  try dsimp only
  with_reducible repeat' first
    | assumption | refine State.leaves_mk ?_

theorem State.setTap_leaves {before s : State} (i : Nat) (t : Tap) (hk : before.Leaves s) :
    before.Leaves (State.setTap i t s) := by
  unfold State.setTap
  try dsimp only
  with_reducible repeat' first
    | assumption | refine State.leaves_mk ?_

theorem State.modTap_leaves {before s : State} (i : Nat) (f : Tap → Tap) (hk : before.Leaves s) :
    before.Leaves (State.modTap i f s) := by
  unfold State.modTap
  try dsimp only
  with_reducible repeat' first
    | assumption | refine State.leaves_mk ?_

theorem State.modDevice_leaves {before s : State} (a : Nat) (f : Device → Device)
    (hf : ∀ d, (f d).standing = d.standing) (hk : before.Leaves s) : before.Leaves (State.modDevice a f s) := by
  unfold State.modDevice
  exact State.leaves_mk hk (h12 := .modify _ _ _ hf)

theorem State.modSource_leaves {before s : State} (x : SourceId) (f : SourceRecord → SourceRecord)
    (hk : before.Leaves s) :
    before.Leaves (State.modSource x f s) := by
  unfold State.modSource
  try dsimp only
  with_reducible repeat' first
    | assumption | refine State.leaves_mk ?_

theorem State.mark_leaves {before s : State} (cls : ReportClass) (ident : Nat) (hk : before.Leaves s) :
    before.Leaves (State.mark cls ident s) := by
  unfold State.mark
  try dsimp only
  with_reducible repeat' first
    | assumption | apply State.modSource_leaves

theorem State.markStatus_leaves {before s : State} (hk : before.Leaves s) : before.Leaves (State.markStatus s) := by
  unfold State.markStatus
  try dsimp only
  with_reducible repeat' first
    | assumption | apply State.mark_leaves | apply State.status_leaves

theorem State.createSource_leaves {before s : State} (cls : ReportClass) (ident : Nat) (hk : before.Leaves s) :
    before.Leaves (State.createSource cls ident s) := by
  unfold State.createSource
  try dsimp only
  with_reducible repeat' first
    | assumption | split | refine State.leaves_mk ?_

theorem State.writeOneShot_leaves {before s : State} (a : Nat) (c : OneShot) (hk : before.Leaves s) :
    before.Leaves (State.writeOneShot a c s) := by
  refine State.modDevice_leaves _ _ (fun d => ?_) hk
  unfold Device.writeSlot
  split
  · split <;> rfl
  · rfl

theorem State.writeImage_leaves {before s : State} (address : Nat) (hk : before.Leaves s) :
    before.Leaves (State.writeImage address s) := State.modDevice_leaves _ _ (fun _ => rfl) hk

theorem State.recoveryEdges_leaves {before s : State} (was : State) (h : before.Leaves s) :
    before.Leaves (State.recoveryEdges was s) := by
  unfold State.recoveryEdges
  exact State.leaves_mk h

theorem State.endOutletSession_leaves {before s : State} (i : Nat) (reason : Reason) (hk : before.Leaves s) :
    before.Leaves (State.endOutletSession i reason s) := by
  unfold State.endOutletSession
  try dsimp only
  with_reducible repeat' first
    | assumption | apply State.setOutlet_leaves | apply State.mark_leaves | split | refine State.leaves_mk ?_

theorem State.outletDelta_leaves {before s : State} (i : Nat) (q : Nat) (hk : before.Leaves s) :
    before.Leaves (State.outletDelta i q s) := by
  unfold State.outletDelta
  try dsimp only
  with_reducible repeat' first
    | assumption | apply State.setOutlet_leaves | split | refine State.leaves_mk ?_

theorem State.attempt_leaves {before s : State} (f : Nat) (hk : before.Leaves s) :
    before.Leaves (State.attempt f s) := by
  unfold State.attempt
  try dsimp only
  with_reducible repeat' first
    | assumption | split | refine State.leaves_mk ?_

theorem State.dequeue_leaves {before s : State} (i : Nat) (hk : before.Leaves s) :
    before.Leaves (State.dequeue i s) := by
  unfold State.dequeue
  try dsimp only
  with_reducible repeat' first
    | assumption | apply State.mark_leaves | split | refine State.leaves_mk ?_

theorem State.enqueue_leaves {before s : State} (i : Nat) (o : Outlet) (shed : Bool) (hk : before.Leaves s) :
    before.Leaves (State.enqueue i o shed s) := by
  unfold State.enqueue
  try dsimp only
  with_reducible repeat' first
    | assumption | apply State.mark_leaves | apply State.attempt_leaves | refine State.leaves_mk ?_

theorem State.releaseReservation_leaves {before s : State} (i : Nat) (hk : before.Leaves s) :
    before.Leaves (State.releaseReservation i s) := by
  unfold State.releaseReservation
  try dsimp only
  with_reducible repeat' first
    | assumption | apply State.setOutlet_leaves | apply State.mark_leaves | apply State.attempt_leaves | split

theorem State.grantOutlet_leaves {before s : State} (i : Nat) (o : Outlet) (figure : Nat) (acct : Nat)
    (hk : before.Leaves s) :
    before.Leaves (State.grantOutlet i o figure acct s) := by
  unfold State.grantOutlet
  try dsimp only
  with_reducible repeat' first
    | assumption | apply State.mark_leaves | apply State.attempt_leaves | apply State.dequeue_leaves
    | apply State.setOutlet_leaves | apply State.writeImage_leaves | split

theorem State.admissionCheck_leaves {before s : State} (i : Nat) (hk : before.Leaves s) :
    before.Leaves (State.admissionCheck i s) := by
  unfold State.admissionCheck
  try dsimp only
  with_reducible repeat' first
    | assumption | apply State.grantOutlet_leaves | apply State.setOutlet_leaves | apply State.mark_leaves
    | apply State.enqueue_leaves | apply State.writeImage_leaves | split

theorem State.tryHead_leaves {before s t : State} (f : Nat) (h : before.Leaves s) (ht : s.tryHead f = some t) :
    before.Leaves t := by
  unfold State.tryHead at ht
  split at ht
  · split at ht
    · split at ht
      · split at ht
        · cases ht; exact State.grantOutlet_leaves _ _ _ _ h
        · cases ht
      · cases ht
    · cases ht
  · cases ht

theorem State.runAttempts_leaves {before : State} (n : Nat) {s : State} (h : before.Leaves s) :
    before.Leaves (State.runAttempts n s) := by
  induction n generalizing s with
  | zero => exact State.leaves_mk h
  | succ n ih =>
    rw [State.runAttempts]
    split
    · exact h
    · split
      · next ht => exact ih (State.tryHead_leaves _ h ht)
      · exact ih (State.leaves_mk h)

theorem State.flushAttempts_leaves {before s : State} (hk : before.Leaves s) :
    before.Leaves (State.flushAttempts s) := by
  unfold State.flushAttempts
  try dsimp only
  with_reducible repeat' first
    | assumption | apply State.runAttempts_leaves

theorem State.vacate_leaves {before s : State} (i : Nat) (target : OutletState) (reason : Reason)
    (hk : before.Leaves s) :
    before.Leaves (State.vacate i target reason s) := by
  unfold State.vacate
  try dsimp only
  with_reducible repeat' first
    | assumption | apply State.endOutletSession_leaves | apply State.dequeue_leaves | apply State.setOutlet_leaves
    | apply State.mark_leaves | apply State.releaseReservation_leaves | apply State.writeImage_leaves | split

theorem State.checkClosings_leaves {before s : State} (i : Nat) (hk : before.Leaves s) :
    before.Leaves (State.checkClosings i s) := by
  unfold State.checkClosings
  try dsimp only
  with_reducible repeat' first
    | assumption | apply State.vacate_leaves | split

theorem State.evalOutlet_leaves {before s : State} (i : Nat) (reason : Reason) (hk : before.Leaves s) :
    before.Leaves (State.evalOutlet i reason s) := by
  unfold State.evalOutlet
  try dsimp only
  with_reducible repeat' first
    | assumption | apply State.setOutlet_leaves | apply State.mark_leaves | apply State.writeImage_leaves
    | apply State.admissionCheck_leaves | apply State.vacate_leaves | split

theorem State.evalAndFlush_leaves {before s : State} (i : Nat) (reason : Reason) (hk : before.Leaves s) :
    before.Leaves (State.evalAndFlush i reason s) := by
  unfold State.evalAndFlush
  try dsimp only
  with_reducible repeat' first
    | assumption | apply State.evalOutlet_leaves | apply State.flushAttempts_leaves

theorem State.evalSide_leaves {before s : State} (r : SideRef) (reason : Reason) (hk : before.Leaves s) :
    before.Leaves (State.evalSide r reason s) := by
  unfold State.evalSide
  try dsimp only
  with_reducible repeat' first
    | assumption | apply State.evalAndFlush_leaves | split

theorem State.storePlug_leaves {before s : State} (i : Nat) (p : Plug) (hk : before.Leaves s) :
    before.Leaves (State.storePlug i p s) := by
  unfold State.storePlug
  try dsimp only
  with_reducible repeat' first
    | assumption | apply State.setOutlet_leaves | apply State.mark_leaves | split

theorem State.plugEvent_leaves {before s : State} (i : Nat) (present : Bool) (hk : before.Leaves s) :
    before.Leaves (State.plugEvent i present s) := by
  unfold State.plugEvent
  try dsimp only
  with_reducible repeat' first
    | assumption | apply State.storePlug_leaves | apply State.admissionCheck_leaves | apply State.flushAttempts_leaves
    | apply State.vacate_leaves | apply State.checkClosings_leaves | split

theorem State.shedOutlet_leaves {before s : State} (i : Nat) (hk : before.Leaves s) :
    before.Leaves (State.shedOutlet i s) := by
  unfold State.shedOutlet
  try dsimp only
  with_reducible repeat' first
    | assumption | apply State.setOutlet_leaves | apply State.mark_leaves | apply State.releaseReservation_leaves
    | apply State.enqueue_leaves | apply State.writeImage_leaves | split

theorem State.setCongested_leaves {before s : State} (f : Nat) (b : Bool) (hk : before.Leaves s) :
    before.Leaves (State.setCongested f b s) := by
  unfold State.setCongested
  try dsimp only
  with_reducible repeat' first
    | assumption | apply State.setFeeder_leaves | apply State.mark_leaves | split

theorem State.compareMean_leaves {before s : State} (f : Nat) (hk : before.Leaves s) :
    before.Leaves (State.compareMean f s) := by
  unfold State.compareMean
  try dsimp only
  with_reducible repeat' first
    | assumption | apply State.setCongested_leaves | apply State.setFeeder_leaves | apply State.mark_leaves
    | apply State.shedOutlet_leaves | apply State.flushAttempts_leaves | apply State.attempt_leaves | split

theorem State.feederRounds_leaves {before s : State} (hk : before.Leaves s) : before.Leaves (State.feederRounds s) := by
  unfold State.feederRounds
  try dsimp only
  with_reducible repeat' first
    | assumption | exact .refl _ | intro _ _ | apply State.compareMean_leaves | apply State.leaves_foldl
    | refine State.leaves_mk ?_

theorem State.reloadOutlet_leaves {before s : State} (o : Outlet) (f : OutletLoad) (side : Side) (hk : before.Leaves s) :
    before.Leaves (State.reloadOutlet o f side s) := by
  unfold State.reloadOutlet
  try dsimp only
  with_reducible repeat' first
    | assumption | apply State.setOutlet_leaves | apply State.writeImage_leaves | apply State.modDevice_leaves
    | apply State.mark_leaves | apply State.attempt_leaves | split
  all_goals (intro d; cases side <;> rfl)

theorem State.setLock_leaves {before s : State} (i : Nat) (b : Bool) (hk : before.Leaves s) :
    before.Leaves (State.setLock i b s) := by
  unfold State.setLock
  try dsimp only
  with_reducible repeat' first
    | assumption | apply State.setOutlet_leaves | apply State.mark_leaves | split

theorem State.clearLocks_leaves {before s : State} (hk : before.Leaves s) : before.Leaves (State.clearLocks s) := by
  unfold State.clearLocks
  try dsimp only
  with_reducible repeat' first
    | assumption | exact .refl _ | intro _ _ | apply State.setLock_leaves | apply State.evalAndFlush_leaves
    | apply State.leaves_foldl

theorem State.endTapSession_leaves {before s : State} (i : Nat) (reason : Reason) (hk : before.Leaves s) :
    before.Leaves (State.endTapSession i reason s) := by
  unfold State.endTapSession
  try dsimp only
  with_reducible repeat' first
    | assumption | apply State.setTap_leaves | apply State.mark_leaves | split | refine State.leaves_mk ?_

theorem State.tapDelta_leaves {before s : State} (i : Nat) (q : Nat) (hk : before.Leaves s) :
    before.Leaves (State.tapDelta i q s) := by
  unfold State.tapDelta
  try dsimp only
  with_reducible repeat' first
    | assumption | apply State.setTap_leaves | split | refine State.leaves_mk ?_

theorem State.shutTap_leaves {before s : State} (i : Nat) (target : TapState) (reason : Reason) (hk : before.Leaves s) :
    before.Leaves (State.shutTap i target reason s) := by
  unfold State.shutTap
  try dsimp only
  with_reducible repeat' first
    | assumption | apply State.endTapSession_leaves | apply State.setTap_leaves | apply State.mark_leaves
    | apply State.writeImage_leaves | split

theorem State.closeIfOpen_leaves {before s : State} (i : Nat) (reason : Reason) (hk : before.Leaves s) :
    before.Leaves (State.closeIfOpen i reason s) := by
  unfold State.closeIfOpen
  try dsimp only
  with_reducible repeat' first
    | assumption | apply State.shutTap_leaves | split

theorem State.evalTapSide_leaves {before s : State} (r : SideRef) (reason : Reason) (hk : before.Leaves s) :
    before.Leaves (State.evalTapSide r reason s) := by
  unfold State.evalTapSide
  try dsimp only
  with_reducible repeat' first
    | assumption | apply State.shutTap_leaves | split

theorem State.lockTap_leaves {before s : State} (i : Nat) (hk : before.Leaves s) :
    before.Leaves (State.lockTap i s) := by
  unfold State.lockTap
  try dsimp only
  with_reducible repeat' first
    | assumption | apply State.shutTap_leaves | apply State.setTap_leaves | apply State.mark_leaves | split
    | refine State.leaves_mk ?_

theorem State.openTap_leaves {before s : State} (i : Nat) (t : Tap) (acct : Nat) (hk : before.Leaves s) :
    before.Leaves (State.openTap i t acct s) := by
  unfold State.openTap
  try dsimp only
  with_reducible repeat' first
    | assumption | apply State.setTap_leaves | apply State.mark_leaves | apply State.writeImage_leaves
    | refine State.leaves_mk ?_

theorem State.buttonPress_leaves {before s : State} (r : SideRef) (hk : before.Leaves s) :
    before.Leaves (State.buttonPress r s) := by
  unfold State.buttonPress
  try dsimp only
  with_reducible repeat' first
    | assumption | apply State.shutTap_leaves | apply State.openTap_leaves | split

theorem State.closeAllTaps_leaves {before s : State} (reason : Reason) (hk : before.Leaves s) :
    before.Leaves (State.closeAllTaps reason s) := by
  unfold State.closeAllTaps
  try dsimp only
  with_reducible repeat' first
    | assumption | exact .refl _ | intro _ _ | apply State.closeIfOpen_leaves | apply State.leaves_foldl

theorem State.holdOutlets_leaves {before s : State} (hk : before.Leaves s) : before.Leaves (State.holdOutlets s) := by
  unfold State.holdOutlets
  try dsimp only
  with_reducible repeat' first
    | assumption | exact .refl _ | intro _ _ | apply State.vacate_leaves | apply State.flushAttempts_leaves
    | apply State.leaves_foldl

theorem State.tripOutlet_leaves {before s : State} (i : Nat) (hk : before.Leaves s) :
    before.Leaves (State.tripOutlet i s) := by
  unfold State.tripOutlet
  try dsimp only
  with_reducible repeat' first
    | assumption | apply State.setOutlet_leaves | apply State.vacate_leaves | split

theorem State.tripTap_leaves {before s : State} (i : Nat) (hk : before.Leaves s) :
    before.Leaves (State.tripTap i s) := by
  unfold State.tripTap
  try dsimp only
  with_reducible repeat' first
    | assumption | apply State.setTap_leaves | apply State.mark_leaves | apply State.lockTap_leaves | split
    | refine State.leaves_mk ?_

theorem State.detectOutlet_leaves {before s : State} (i : Nat) (k : FaultKind) (hk : before.Leaves s) :
    before.Leaves (State.detectOutlet i k s) := by
  unfold State.detectOutlet
  try dsimp only
  with_reducible repeat' first
    | assumption | apply State.setOutlet_leaves | apply State.mark_leaves | apply State.vacate_leaves
    | apply State.tripOutlet_leaves | apply State.checkClosings_leaves | split

theorem State.detectTap_leaves {before s : State} (i : Nat) (k : FaultKind) (hk : before.Leaves s) :
    before.Leaves (State.detectTap i k s) := by
  unfold State.detectTap
  try dsimp only
  with_reducible repeat' first
    | assumption | apply State.setTap_leaves | apply State.mark_leaves | apply State.lockTap_leaves
    | apply State.tripTap_leaves | apply State.shutTap_leaves | split | refine State.leaves_mk ?_

theorem State.clearOutlet_leaves {before s : State} (i : Nat) (named : FaultKind → Bool) (hk : before.Leaves s) :
    before.Leaves (State.clearOutlet i named s) := by
  unfold State.clearOutlet
  try dsimp only
  with_reducible repeat' first
    | assumption | apply State.setOutlet_leaves | apply State.mark_leaves | apply State.writeImage_leaves
    | apply State.evalAndFlush_leaves | split

theorem State.clearTap_leaves {before s : State} (i : Nat) (named : FaultKind → Bool) (hk : before.Leaves s) :
    before.Leaves (State.clearTap i named s) := by
  unfold State.clearTap
  try dsimp only
  with_reducible repeat' first
    | assumption | apply State.setTap_leaves | apply State.mark_leaves | split | refine State.leaves_mk ?_

theorem State.unplugRecovery_leaves {before s : State} (i : Nat) (detected : FaultKind → Bool) (hk : before.Leaves s) :
    before.Leaves (State.unplugRecovery i detected s) := by
  unfold State.unplugRecovery
  try dsimp only
  with_reducible repeat' first
    | assumption | apply State.clearOutlet_leaves | split

theorem State.measureOutlet_leaves {before s : State} (i : Nat) (x : SideStatus) (hk : before.Leaves s) :
    before.Leaves (State.measureOutlet i x s) := by
  unfold State.measureOutlet
  try dsimp only
  with_reducible repeat' first
    | assumption | apply State.setOutlet_leaves | apply State.mark_leaves | split

theorem State.trailingRelease_leaves {before s : State} (i : Nat) (hk : before.Leaves s) :
    before.Leaves (State.trailingRelease i s) := by
  unfold State.trailingRelease
  try dsimp only
  with_reducible repeat' first
    | assumption | apply State.releaseReservation_leaves | apply State.flushAttempts_leaves | split

theorem State.stuckDetect_leaves {before s : State} (i : Nat) (hk : before.Leaves s) :
    before.Leaves (State.stuckDetect i s) := by
  unfold State.stuckDetect
  try dsimp only
  with_reducible repeat' first
    | assumption | apply State.setOutlet_leaves | apply State.detectOutlet_leaves | apply State.flushAttempts_leaves
    | split

theorem State.completeRound_leaves {before s : State} (hk : before.Leaves s) :
    before.Leaves (State.completeRound s) := by
  unfold State.completeRound
  try dsimp only
  with_reducible repeat' first
    | assumption | exact .refl _ | intro _ _ | apply State.stuckDetect_leaves | apply State.feederRounds_leaves
    | apply State.leaves_foldl | refine State.leaves_mk ?_

theorem State.setCheckPoints_leaves {before s : State} (address : Nat) (m : Image) (hk : before.Leaves s) :
    before.Leaves (State.setCheckPoints address m s) := by
  unfold State.setCheckPoints
  try dsimp only
  with_reducible repeat' first
    | assumption | split | refine State.leaves_mk ?_

theorem State.idleKind_leaves {before s : State} (k : FaultKind) (hk : before.Leaves s) :
    before.Leaves (State.idleKind k s) := by
  unfold State.idleKind
  try dsimp only
  with_reducible repeat' first
    | assumption | split | refine State.leaves_mk ?_

theorem State.relamp_leaves {before s : State} (r : SideRef) (hk : before.Leaves s) :
    before.Leaves (State.relamp r s) := by
  unfold State.relamp
  try dsimp only
  with_reducible repeat' first
    | assumption | apply State.writeImage_leaves | split

theorem State.cutSide_leaves {before s : State} (r : SideRef) (reason : Reason) (hk : before.Leaves s) :
    before.Leaves (State.cutSide r reason s) := by
  unfold State.cutSide
  try dsimp only
  with_reducible repeat' first
    | assumption | apply State.evalOutlet_leaves | apply State.evalTapSide_leaves | split

theorem State.passStanding_leaves {before s : State} (n : Nat) (was : Standing) (now : Standing) (hk : before.Leaves s) :
    before.Leaves (State.passStanding n was now s) := by
  unfold State.passStanding
  try dsimp only
  with_reducible repeat' first
    | assumption | exact .refl _ | intro _ _ | apply State.cutSide_leaves | apply State.flushAttempts_leaves
    | apply State.evalSide_leaves | apply State.relamp_leaves | apply State.leaves_foldl | split

theorem State.pedestalGone_leaves {before s : State} (a : Nat) (hk : before.Leaves s) :
    before.Leaves (State.pedestalGone a s) := by
  unfold State.pedestalGone
  try dsimp only
  with_reducible repeat' first
    | assumption | apply State.cutSide_leaves | apply State.flushAttempts_leaves | split | refine State.leaves_mk ?_

end Sys2Proof.Machine
end

