-- ==== Sys2Proof/Laws/Spares.lean ====
section
/-! SUPPORT. What the operations of the fuel unit leave alone: the clock, the berths, the accounts and prices, the posting
slots, the outlet, tap and gate units, all of the management unit but what it is doing, of the trunk unit but its report
sources and LOCAL queue, of the tally unit but the live tallies, the exchange and cycle of the bus controller, and the
kind, state, miss count and stored image of every device. One lemma for each operation, in the order of the model's files. -/

namespace Sys2Proof.Machine

open Sys2Proof

set_option Elab.async false
set_option linter.unusedTactic false
set_option linter.unreachableTactic false

/-- What every operation of the fuel unit leaves alone. -/
structure State.Spares (s t : State) : Prop where
  pending : t.pending = s.pending
  phase : t.phase = s.phase
  straps : t.straps = s.straps
  now : t.now = s.now
  mgmt : t.mgmt = { s.mgmt with work := t.mgmt.work }
  berth : t.berth = s.berth
  accounts : t.charge.accounts = s.charge.accounts
  tariff : t.charge.tariff = s.charge.tariff
  power : t.charge.power = s.charge.power
  water : t.charge.water = s.charge.water
  lastGranted : t.charge.lastGranted = s.charge.lastGranted
  outlet : t.outlet = s.outlet
  tap : t.tap = s.tap
  gate : t.gate = s.gate
  bus : t.bus = { s.bus with devices := t.bus.devices }
  served : SameService s.bus.devices t.bus.devices
  trunk : t.trunk = { s.trunk with sources := t.trunk.sources, own := t.trunk.own }
  tally : t.tally = { s.tally with live := t.tally.live }

theorem State.Spares.refl (s : State) : s.Spares s :=
  ⟨rfl, rfl, rfl, rfl, rfl, rfl, rfl, rfl, rfl, rfl, rfl, rfl, rfl, rfl, rfl, .refl _, rfl, rfl⟩

theorem State.Spares.trans {s t u : State} (h : s.Spares t) (k : t.Spares u) : s.Spares u where
  pending := k.pending.trans h.pending
  phase := k.phase.trans h.phase
  straps := k.straps.trans h.straps
  now := k.now.trans h.now
  mgmt := by rw [k.mgmt, h.mgmt]
  berth := k.berth.trans h.berth
  accounts := k.accounts.trans h.accounts
  tariff := k.tariff.trans h.tariff
  power := k.power.trans h.power
  water := k.water.trans h.water
  lastGranted := k.lastGranted.trans h.lastGranted
  outlet := k.outlet.trans h.outlet
  tap := k.tap.trans h.tap
  gate := k.gate.trans h.gate
  bus := by rw [k.bus, h.bus]
  served := fun a => (k.served a).trans (h.served a)
  trunk := by rw [k.trunk, h.trunk]
  tally := by rw [k.tally, h.tally]

/-- What a record update leaves alone, by what it writes. -/
theorem State.spares_mk {s t : State} {mgmt : ManagementUnit} {charge : ChargeEngine} {fuel : FuelUnit}
    {bus : BusController} {trunk : TrunkUnit} {tally : TallyUnit} (h : s.Spares t)
    (h0 : mgmt = { t.mgmt with work := mgmt.work } := by rfl)
    (h1 : charge.accounts = t.charge.accounts := by rfl) (h2 : charge.tariff = t.charge.tariff := by rfl)
    (h3 : charge.power = t.charge.power := by rfl) (h4 : charge.water = t.charge.water := by rfl)
    (h5 : charge.lastGranted = t.charge.lastGranted := by rfl)
    (h10 : bus = { t.bus with devices := bus.devices } := by rfl)
    (h12 : SameService t.bus.devices bus.devices := by exact .refl _)
    (h11 : trunk = { t.trunk with sources := trunk.sources, own := trunk.own } := by rfl)
    (h13 : tally = { t.tally with live := tally.live } := by rfl) :
    s.Spares
      (State.mk t.pending t.phase t.straps t.now mgmt t.berth charge t.outlet t.tap fuel t.gate bus trunk tally) :=
  h.trans ⟨rfl, rfl, rfl, rfl, h0, rfl, h1, h2, h3, h4, h5, rfl, rfl, rfl, h10, h12, h11, h13⟩

/-- A run of operations over a list. -/
theorem State.spares_foldl {β : Type} {s t : State} (l : List β) (g : State → β → State) (h : s.Spares t)
    (hg : ∀ (u : State) (x : β), u.Spares (g u x)) : s.Spares (l.foldl g t) := by
  induction l generalizing t with
  | nil => exact h
  | cons x l ih => exact ih (h.trans (hg t x))

theorem State.setDispenser_spares {before s : State} (i : Nat) (d : Dispenser) (hk : before.Spares s) :
    before.Spares (State.setDispenser i d s) := by
  unfold State.setDispenser
  try dsimp only
  with_reducible repeat' first
    | assumption | refine State.spares_mk ?_

theorem State.modDispenser_spares {before s : State} (i : Nat) (f : Dispenser → Dispenser) (hk : before.Spares s) :
    before.Spares (State.modDispenser i f s) := by
  unfold State.modDispenser
  try dsimp only
  with_reducible repeat' first
    | assumption | refine State.spares_mk ?_

theorem State.modDevice_spares {before s : State} (a : Nat) (f : Device → Device)
    (hf : ∀ d, (f d).standing = d.standing) (hk : before.Spares s) : before.Spares (State.modDevice a f s) := by
  unfold State.modDevice
  exact State.spares_mk hk (h12 := .modify _ _ _ hf)

theorem State.modLive_spares {before s : State} (f : Tallies → Tallies) (hk : before.Spares s) :
    before.Spares (State.modLive f s) := by
  unfold State.modLive
  try dsimp only
  with_reducible repeat' first
    | assumption | refine State.spares_mk ?_

theorem State.setWork_spares {before s : State} (w : Work) (hk : before.Spares s) :
    before.Spares (State.setWork w s) := by
  unfold State.setWork
  try dsimp only
  with_reducible repeat' first
    | assumption | refine State.spares_mk ?_

theorem State.modSource_spares {before s : State} (x : SourceId) (f : SourceRecord → SourceRecord)
    (hk : before.Spares s) :
    before.Spares (State.modSource x f s) := by
  unfold State.modSource
  try dsimp only
  with_reducible repeat' first
    | assumption | refine State.spares_mk ?_

theorem State.mark_spares {before s : State} (cls : ReportClass) (ident : Nat) (hk : before.Spares s) :
    before.Spares (State.mark cls ident s) := by
  unfold State.mark
  try dsimp only
  with_reducible repeat' first
    | assumption | apply State.modSource_spares

theorem State.markStatus_spares {before s : State} (hk : before.Spares s) : before.Spares (State.markStatus s) := by
  unfold State.markStatus
  try dsimp only
  with_reducible repeat' first
    | assumption | apply State.mark_spares | apply State.status_spares

theorem State.createSource_spares {before s : State} (cls : ReportClass) (ident : Nat) (hk : before.Spares s) :
    before.Spares (State.createSource cls ident s) := by
  unfold State.createSource
  try dsimp only
  with_reducible repeat' first
    | assumption | split | refine State.spares_mk ?_

theorem State.removeSource_spares {before s : State} (cls : ReportClass) (ident : Nat) (hk : before.Spares s) :
    before.Spares (State.removeSource cls ident s) := by
  unfold State.removeSource
  try dsimp only
  with_reducible repeat' first
    | assumption | refine State.spares_mk ?_

theorem State.enterReply_spares {before s : State} (r : Reply) (hk : before.Spares s) :
    before.Spares (State.enterReply r s) := by
  unfold State.enterReply
  split
  · exact State.spares_mk hk
  · exact State.setWork_spares _ hk

theorem State.answer_spares {before s : State} (fr : IntakeFrame) (a : Answer) (hk : before.Spares s) :
    before.Spares (State.answer fr a s) := by
  unfold State.answer
  try dsimp only
  with_reducible repeat' first
    | assumption | apply State.setWork_spares | apply State.enterReply_spares | split

theorem State.refuse_spares {before s : State} (fr : IntakeFrame) (c : ReasonCode) (hk : before.Spares s) :
    before.Spares (State.refuse fr c s) := by
  unfold State.refuse
  try dsimp only
  with_reducible repeat' first
    | assumption | apply State.answer_spares

theorem State.accept_spares {before s : State} (fr : IntakeFrame) (flags : List ReplyFlag) (r : ResultFields)
    (hk : before.Spares s) :
    before.Spares (State.accept fr flags r s) := by
  unfold State.accept
  try dsimp only
  with_reducible repeat' first
    | assumption | apply State.answer_spares

theorem State.writeOneShot_spares {before s : State} (a : Nat) (c : OneShot) (hk : before.Spares s) :
    before.Spares (State.writeOneShot a c s) := by
  refine State.modDevice_spares _ _ (fun d => ?_) hk
  unfold Device.writeSlot
  split
  · split <;> rfl
  · rfl

theorem State.setTank_spares {before s : State} (grade : Nat) (t : Tank) (hk : before.Spares s) :
    before.Spares (State.setTank grade t s) := by
  unfold State.setTank
  try dsimp only
  with_reducible repeat' first
    | assumption | split | refine State.spares_mk ?_

theorem State.authorise_spares {before s : State} (i : Nat) (hk : before.Spares s) :
    before.Spares (State.authorise i s) := by
  unfold State.authorise
  try dsimp only
  with_reducible repeat' first
    | assumption | apply State.setDispenser_spares | apply State.writeOneShot_spares | split

theorem State.grantHeads_spares {before : State} (n : Nat) {s : State} (h : before.Spares s) :
    before.Spares (State.grantHeads n s) := by
  induction n generalizing s with
  | zero => exact h
  | succ n ih =>
    rw [State.grantHeads]
    split
    · exact h
    · split
      · exact ih (State.authorise_spares _ (State.spares_mk h))
      · exact h

theorem State.grantPumps_spares {before s : State} (hk : before.Spares s) : before.Spares (State.grantPumps s) := by
  unfold State.grantPumps
  try dsimp only
  with_reducible repeat' first
    | assumption | apply State.grantHeads_spares

theorem State.enterWaitPump_spares {before s : State} (i : Nat) (hk : before.Spares s) :
    before.Spares (State.enterWaitPump i s) := by
  unfold State.enterWaitPump
  try dsimp only
  with_reducible repeat' first
    | assumption | apply State.modDispenser_spares | apply State.grantPumps_spares | refine State.spares_mk ?_

theorem State.request_spares {before s : State} (toOffice : Bool) (r : FuelRequest) (hk : before.Spares s) :
    before.Spares (State.request toOffice r s) := by
  unfold State.request
  cases toOffice
  · exact State.spares_mk hk
  · exact State.spares_mk hk

theorem State.withdrawHold_spares {before s : State} (i : Nat) (hk : before.Spares s) :
    before.Spares (State.withdrawHold i s) := by
  unfold State.withdrawHold
  try dsimp only
  with_reducible repeat' first
    | assumption | refine State.spares_mk ?_

theorem State.answerHold_spares {before s : State} (i : Nat) (a : Answer) (hk : before.Spares s) :
    before.Spares (State.answerHold i a s) := by
  unfold State.answerHold
  try dsimp only
  with_reducible repeat' first
    | assumption | apply State.answer_spares | split

theorem State.startSale_spares {before s : State} (i : Nat) (d : Dispenser) (acct : Option Nat) (token : Option Token) (grade : Nat) (preset : Nat)
    (hk : before.Spares s) :
    before.Spares (State.startSale i d acct token grade preset s) := by
  unfold State.startSale
  try dsimp only
  with_reducible repeat' first
    | assumption | apply State.setDispenser_spares | apply State.mark_spares | apply State.request_spares
    | apply State.enterWaitPump_spares | split

theorem State.cancelSale_spares {before s : State} (toOffice : Bool) (i : Nat) (hk : before.Spares s) :
    before.Spares (State.cancelSale toOffice i s) := by
  unfold State.cancelSale
  try dsimp only
  with_reducible repeat' first
    | assumption | apply State.withdrawHold_spares | apply State.answerHold_spares | apply State.setDispenser_spares
    | apply State.request_spares | apply State.mark_spares | apply State.grantPumps_spares | split
    | refine State.spares_mk ?_

theorem State.completeSale_spares {before s : State} (i : Nat) (hk : before.Spares s) :
    before.Spares (State.completeSale i s) := by
  unfold State.completeSale
  try dsimp only
  with_reducible repeat' first
    | assumption | apply State.setDispenser_spares | apply State.modLive_spares | apply State.mark_spares | split
    | refine State.spares_mk ?_

theorem State.enterSettling_spares {before s : State} (toOffice : Bool) (i : Nat) (volume : Nat) (incomplete : Bool)
    (hk : before.Spares s) :
    before.Spares (State.enterSettling toOffice i volume incomplete s) := by
  unfold State.enterSettling
  try dsimp only
  with_reducible repeat' first
    | assumption | apply State.setDispenser_spares | apply State.setTank_spares | apply State.markStatus_spares
    | apply State.modLive_spares | apply State.request_spares | apply State.completeSale_spares
    | apply State.grantPumps_spares | split

theorem State.endDelivery_spares {before s : State} (i : Nat) (volume : Nat) (hk : before.Spares s) :
    before.Spares (State.endDelivery i volume s) := by
  unfold State.endDelivery
  try dsimp only
  with_reducible repeat' first
    | assumption | apply State.cancelSale_spares | apply State.enterSettling_spares | split

theorem State.saleReply_spares {before s : State} (i : Nat) (was : Nozzle) (lifted : Bool) (v : Nat)
    (hk : before.Spares s) :
    before.Spares (State.saleReply i was lifted v s) := by
  unfold State.saleReply
  try dsimp only
  with_reducible repeat' first
    | assumption | apply State.endDelivery_spares | apply State.setDispenser_spares | split

theorem State.dispenserReply_spares {before s : State} (i : Nat) (lifted : Bool) (v : Nat) (fresh : Bool)
    (hk : before.Spares s) :
    before.Spares (State.dispenserReply i lifted v fresh s) := by
  unfold State.dispenserReply
  try dsimp only
  with_reducible repeat' first
    | assumption | apply State.setDispenser_spares | apply State.saleReply_spares | split

theorem State.totaliserReply_spares {before s : State} (i : Nat) (grade : Nat) (value : Nat) (delta : Option Nat)
    (hk : before.Spares s) :
    before.Spares (State.totaliserReply i grade value delta s) := by
  unfold State.totaliserReply
  try dsimp only
  with_reducible repeat' first
    | assumption | apply State.modDispenser_spares | apply State.modLive_spares | split | refine State.spares_mk ?_

theorem State.saleLost_spares {before s : State} (i : Nat) (hk : before.Spares s) :
    before.Spares (State.saleLost i s) := by
  unfold State.saleLost
  try dsimp only
  with_reducible repeat' first
    | assumption | apply State.setDispenser_spares | apply State.cancelSale_spares | apply State.enterSettling_spares
    | split

theorem State.saleCommandFailed_spares {before s : State} (i : Nat) (hk : before.Spares s) :
    before.Spares (State.saleCommandFailed i s) := by
  unfold State.saleCommandFailed
  try dsimp only
  with_reducible repeat' first
    | assumption | apply State.cancelSale_spares | apply State.enterSettling_spares | split

theorem State.saleCommandAcked_spares {before s : State} (i : Nat) (c : OneShot) (hk : before.Spares s) :
    before.Spares (State.saleCommandAcked i c s) := by
  unfold State.saleCommandAcked
  try dsimp only
  with_reducible repeat' first
    | assumption | apply State.authorise_spares | apply State.setDispenser_spares | apply State.refuse_spares | split

theorem State.modSale_spares {before s : State} (i : Nat) (f : Sale → Sale) (hk : before.Spares s) :
    before.Spares (State.modSale i f s) := by
  unfold State.modSale
  try dsimp only
  with_reducible repeat' first
    | assumption | apply State.modDispenser_spares

theorem State.restartSale_spares {before s : State} (i : Nat) (hk : before.Spares s) :
    before.Spares (State.restartSale i s) := by
  unfold State.restartSale
  try dsimp only
  with_reducible repeat' first
    | assumption | apply State.setDispenser_spares | apply State.cancelSale_spares | apply State.enterSettling_spares
    | apply State.writeOneShot_spares | split

theorem State.restartFuel_spares {before s : State} (hk : before.Spares s) : before.Spares (State.restartFuel s) := by
  unfold State.restartFuel
  try dsimp only
  with_reducible repeat' first
    | assumption | exact .refl _ | intro _ _ | apply State.restartSale_spares | apply State.restarted_spares
    | apply State.mark_spares | apply State.spares_foldl | refine State.spares_mk ?_

end Sys2Proof.Machine
end

