-- ==== Sys2Proof/Laws/Stays.lean ====
section
/-! SUPPORT. What only its own commands write: the configuration, the segment clock, the tide record, the tariff table, the
protection action table, the service hold, the water suspend flag and the freeze. One lemma for each operation that
writes none of them, in the order of the model's files. -/

namespace Sys2Proof.Machine

open Sys2Proof

set_option Elab.async false
set_option linter.unusedTactic false
set_option linter.unreachableTactic false

/-- What an operation leaves as it stands. -/
structure State.Stays (s t : State) : Prop where
  config : t.mgmt.config = s.mgmt.config
  clock : t.mgmt.clock = s.mgmt.clock
  timeValid : t.mgmt.timeValid = s.mgmt.timeValid
  tide : t.berth.tide = s.berth.tide
  tariff : t.charge.tariff = s.charge.tariff
  protection : t.outlet.protection = s.outlet.protection
  serviceHold : t.outlet.serviceHold = s.outlet.serviceHold
  waterSuspend : t.tap.waterSuspend = s.tap.waterSuspend
  freeze : t.tally.freeze = s.tally.freeze
  lastEnd : t.tally.lastEnd = s.tally.lastEnd
  period : t.tally.period = s.tally.period

theorem State.Stays.refl (s : State) : s.Stays s := ⟨rfl, rfl, rfl, rfl, rfl, rfl, rfl, rfl, rfl, rfl, rfl⟩

theorem State.Stays.trans {s t u : State} (h : s.Stays t) (k : t.Stays u) : s.Stays u :=
  ⟨k.config.trans h.config, k.clock.trans h.clock, k.timeValid.trans h.timeValid, k.tide.trans h.tide,
    k.tariff.trans h.tariff, k.protection.trans h.protection, k.serviceHold.trans h.serviceHold,
    k.waterSuspend.trans h.waterSuspend, k.freeze.trans h.freeze, k.lastEnd.trans h.lastEnd, k.period.trans h.period⟩

/-- A record update leaves what it does not name. -/
theorem State.stays_mk {s t : State} {pending : List Instr} {phase : Phase} {straps : Straps} {now : Nat}
    {mgmt : ManagementUnit} {berth : BerthUnit} {charge : ChargeEngine} {outlet : OutletUnit} {tap : TapUnit}
    {fuel : FuelUnit} {gate : GateUnit} {bus : BusController} {trunk : TrunkUnit} {tally : TallyUnit} (h : s.Stays t)
    (h1 : mgmt.config = t.mgmt.config := by rfl) (h2 : mgmt.clock = t.mgmt.clock := by rfl)
    (h3 : mgmt.timeValid = t.mgmt.timeValid := by rfl) (h4 : berth.tide = t.berth.tide := by rfl)
    (h5 : charge.tariff = t.charge.tariff := by rfl) (h6 : outlet.protection = t.outlet.protection := by rfl)
    (h7 : outlet.serviceHold = t.outlet.serviceHold := by rfl) (h8 : tap.waterSuspend = t.tap.waterSuspend := by rfl)
    (h9 : tally.freeze = t.tally.freeze := by rfl) (h10 : tally.lastEnd = t.tally.lastEnd := by rfl)
    (h11 : tally.period = t.tally.period := by rfl) :
    s.Stays (State.mk pending phase straps now mgmt berth charge outlet tap fuel gate bus trunk tally) :=
  h.trans ⟨h1, h2, h3, h4, h5, h6, h7, h8, h9, h10, h11⟩

/-- A run of operations over a list. -/
theorem State.stays_foldl {β : Type} {s t : State} (l : List β) (g : State → β → State) (h : s.Stays t)
    (hg : ∀ (u : State) (x : β), u.Stays (g u x)) : s.Stays (l.foldl g t) := by
  induction l generalizing t with
  | nil => exact h
  | cons x l ih => exact ih (h.trans (hg t x))

theorem State.advanceTo_stays {before s : State} (t : Nat) (hk : before.Stays s) :
    before.Stays (State.advanceTo t s) := by
  unfold State.advanceTo
  try dsimp only
  with_reducible repeat' first
    | assumption | refine State.stays_mk ?_

theorem State.setBerth_stays {before s : State} (i : Nat) (b : Berth) (hk : before.Stays s) :
    before.Stays (State.setBerth i b s) := by
  unfold State.setBerth
  try dsimp only
  with_reducible repeat' first
    | assumption | refine State.stays_mk ?_

theorem State.setAccount_stays {before s : State} (n : Nat) (a : Account) (hk : before.Stays s) :
    before.Stays (State.setAccount n a s) := by
  unfold State.setAccount
  try dsimp only
  with_reducible repeat' first
    | assumption | refine State.stays_mk ?_

theorem State.setOutlet_stays {before s : State} (i : Nat) (o : Outlet) (hk : before.Stays s) :
    before.Stays (State.setOutlet i o s) := by
  unfold State.setOutlet
  try dsimp only
  with_reducible repeat' first
    | assumption | refine State.stays_mk ?_

theorem State.modOutlet_stays {before s : State} (i : Nat) (f : Outlet → Outlet) (hk : before.Stays s) :
    before.Stays (State.modOutlet i f s) := by
  unfold State.modOutlet
  try dsimp only
  with_reducible repeat' first
    | assumption | refine State.stays_mk ?_

theorem State.setFeeder_stays {before s : State} (i : Nat) (f : Feeder) (hk : before.Stays s) :
    before.Stays (State.setFeeder i f s) := by
  unfold State.setFeeder
  try dsimp only
  with_reducible repeat' first
    | assumption | refine State.stays_mk ?_

theorem State.setTap_stays {before s : State} (i : Nat) (t : Tap) (hk : before.Stays s) :
    before.Stays (State.setTap i t s) := by
  unfold State.setTap
  try dsimp only
  with_reducible repeat' first
    | assumption | refine State.stays_mk ?_

theorem State.modTap_stays {before s : State} (i : Nat) (f : Tap → Tap) (hk : before.Stays s) :
    before.Stays (State.modTap i f s) := by
  unfold State.modTap
  try dsimp only
  with_reducible repeat' first
    | assumption | refine State.stays_mk ?_

theorem State.setDispenser_stays {before s : State} (i : Nat) (d : Dispenser) (hk : before.Stays s) :
    before.Stays (State.setDispenser i d s) := by
  unfold State.setDispenser
  try dsimp only
  with_reducible repeat' first
    | assumption | refine State.stays_mk ?_

theorem State.modDispenser_stays {before s : State} (i : Nat) (f : Dispenser → Dispenser) (hk : before.Stays s) :
    before.Stays (State.modDispenser i f s) := by
  unfold State.modDispenser
  try dsimp only
  with_reducible repeat' first
    | assumption | refine State.stays_mk ?_

theorem State.setReader_stays {before s : State} (i : Nat) (r : Reader) (hk : before.Stays s) :
    before.Stays (State.setReader i r s) := by
  unfold State.setReader
  try dsimp only
  with_reducible repeat' first
    | assumption | refine State.stays_mk ?_

theorem State.modReader_stays {before s : State} (i : Nat) (f : Reader → Reader) (hk : before.Stays s) :
    before.Stays (State.modReader i f s) := by
  unfold State.modReader
  try dsimp only
  with_reducible repeat' first
    | assumption | refine State.stays_mk ?_

theorem State.setDevice_stays {before s : State} (a : Nat) (d : Device) (hk : before.Stays s) :
    before.Stays (State.setDevice a d s) := by
  unfold State.setDevice
  try dsimp only
  with_reducible repeat' first
    | assumption | refine State.stays_mk ?_

theorem State.modDevice_stays {before s : State} (a : Nat) (f : Device → Device) (hk : before.Stays s) :
    before.Stays (State.modDevice a f s) := by
  unfold State.modDevice
  try dsimp only
  with_reducible repeat' first
    | assumption | refine State.stays_mk ?_

theorem State.modLive_stays {before s : State} (f : Tallies → Tallies) (hk : before.Stays s) :
    before.Stays (State.modLive f s) := by
  unfold State.modLive
  try dsimp only
  with_reducible repeat' first
    | assumption | refine State.stays_mk ?_

theorem State.setWork_stays {before s : State} (w : Work) (hk : before.Stays s) :
    before.Stays (State.setWork w s) := by
  unfold State.setWork
  try dsimp only
  with_reducible repeat' first
    | assumption | refine State.stays_mk ?_

theorem State.modSource_stays {before s : State} (x : SourceId) (f : SourceRecord → SourceRecord)
    (hk : before.Stays s) :
    before.Stays (State.modSource x f s) := by
  unfold State.modSource
  try dsimp only
  with_reducible repeat' first
    | assumption | refine State.stays_mk ?_

theorem State.mark_stays {before s : State} (cls : ReportClass) (ident : Nat) (hk : before.Stays s) :
    before.Stays (State.mark cls ident s) := by
  unfold State.mark
  try dsimp only
  with_reducible repeat' first
    | assumption | apply State.modSource_stays

theorem State.markStatus_stays {before s : State} (hk : before.Stays s) : before.Stays (State.markStatus s) := by
  unfold State.markStatus
  try dsimp only
  with_reducible repeat' first
    | assumption | apply State.mark_stays | apply State.status_stays

theorem State.createSource_stays {before s : State} (cls : ReportClass) (ident : Nat) (hk : before.Stays s) :
    before.Stays (State.createSource cls ident s) := by
  unfold State.createSource
  try dsimp only
  with_reducible repeat' first
    | assumption | split | refine State.stays_mk ?_

theorem State.removeSource_stays {before s : State} (cls : ReportClass) (ident : Nat) (hk : before.Stays s) :
    before.Stays (State.removeSource cls ident s) := by
  unfold State.removeSource
  try dsimp only
  with_reducible repeat' first
    | assumption | refine State.stays_mk ?_

theorem State.enterReply_stays {before s : State} (r : Reply) (h : before.Stays s) :
    before.Stays (State.enterReply r s) := by
  unfold State.enterReply
  split
  · exact State.stays_mk h
  · exact State.setWork_stays _ h

theorem State.answer_stays {before s : State} (fr : IntakeFrame) (a : Answer) (hk : before.Stays s) :
    before.Stays (State.answer fr a s) := by
  unfold State.answer
  try dsimp only
  with_reducible repeat' first
    | assumption | apply State.setWork_stays | apply State.enterReply_stays | split

theorem State.refuse_stays {before s : State} (fr : IntakeFrame) (c : ReasonCode) (hk : before.Stays s) :
    before.Stays (State.refuse fr c s) := by
  unfold State.refuse
  try dsimp only
  with_reducible repeat' first
    | assumption | apply State.answer_stays

theorem State.accept_stays {before s : State} (fr : IntakeFrame) (flags : List ReplyFlag) (r : ResultFields)
    (hk : before.Stays s) :
    before.Stays (State.accept fr flags r s) := by
  unfold State.accept
  try dsimp only
  with_reducible repeat' first
    | assumption | apply State.answer_stays

theorem State.countUpError_stays {before s : State} (hk : before.Stays s) : before.Stays (State.countUpError s) := by
  unfold State.countUpError
  try dsimp only
  with_reducible repeat' first
    | assumption | apply State.markStatus_stays | refine State.stays_mk ?_

theorem State.countDownError_stays {before s : State} (hk : before.Stays s) :
    before.Stays (State.countDownError s) := by
  unfold State.countDownError
  try dsimp only
  with_reducible repeat' first
    | assumption | apply State.markStatus_stays | refine State.stays_mk ?_

theorem State.countThruDiscard_stays {before s : State} (hk : before.Stays s) :
    before.Stays (State.countThruDiscard s) := by
  unfold State.countThruDiscard
  try dsimp only
  with_reducible repeat' first
    | assumption | apply State.markStatus_stays | refine State.stays_mk ?_

theorem State.countDownDiscard_stays {before s : State} (hk : before.Stays s) :
    before.Stays (State.countDownDiscard s) := by
  unfold State.countDownDiscard
  try dsimp only
  with_reducible repeat' first
    | assumption | apply State.markStatus_stays | refine State.stays_mk ?_

theorem State.countLocalDiscard_stays {before s : State} (hk : before.Stays s) :
    before.Stays (State.countLocalDiscard s) := by
  unfold State.countLocalDiscard
  try dsimp only
  with_reducible repeat' first
    | assumption | apply State.markStatus_stays | refine State.stays_mk ?_

theorem State.journalAdd_stays {before s : State} (r : Requester) (t : Option Token) (d : Decision)
    (passback queried notStored clockFlag : Bool) (h : before.Stays s) :
    before.Stays (State.journalAdd r t d passback queried notStored clockFlag s) := by
  unfold State.journalAdd
  dsimp only
  exact State.mark_stays _ _ (State.stays_mk h)

theorem State.writeOneShot_stays {before s : State} (a : Nat) (c : OneShot) (hk : before.Stays s) :
    before.Stays (State.writeOneShot a c s) := by
  unfold State.writeOneShot
  try dsimp only
  with_reducible repeat' first
    | assumption | apply State.modDevice_stays

theorem State.writeImage_stays {before s : State} (address : Nat) (hk : before.Stays s) :
    before.Stays (State.writeImage address s) := by
  unfold State.writeImage
  try dsimp only
  with_reducible repeat' first
    | assumption | apply State.modDevice_stays

theorem State.recoveryEdges_stays {before s : State} (was : State) (h : before.Stays s) :
    before.Stays (State.recoveryEdges was s) := by
  unfold State.recoveryEdges
  exact State.stays_mk h

theorem State.testTide_stays {before s : State} (hk : before.Stays s) : before.Stays (State.testTide s) := by
  unfold State.testTide
  try dsimp only
  with_reducible repeat' first
    | assumption | apply State.markStatus_stays | split | refine State.stays_mk ?_

theorem State.refreshAlarm_stays {before s : State} (hk : before.Stays s) : before.Stays (State.refreshAlarm s) := by
  unfold State.refreshAlarm
  try dsimp only
  with_reducible repeat' first
    | assumption | apply State.mark_stays | split | refine State.stays_mk ?_

theorem State.refreshActive_stays {before s : State} (hk : before.Stays s) :
    before.Stays (State.refreshActive s) := by
  unfold State.refreshActive
  try dsimp only
  with_reducible repeat' first
    | assumption | apply State.refreshAlarm_stays | split

theorem State.taken_stays {before s : State} (fr : IntakeFrame) (hk : before.Stays s) :
    before.Stays (State.taken fr s) := by
  unfold State.taken
  try dsimp only
  with_reducible repeat' first
    | assumption | split | refine State.stays_mk ?_

theorem handleLocal_stays {α : Type} {before s : State} (fr : IntakeFrame) (f : Form α)
    (act : IntakeFrame → α → State → State) (ha : ∀ fr a t, State.Stays t (act fr a t)) (h : before.Stays s) :
    before.Stays (handleLocal fr f act s) := by
  unfold handleLocal
  split
  · exact State.countLocalDiscard_stays h
  · split
    · exact State.refuse_stays _ _ h
    · exact h.trans (ha _ _ _)

theorem State.endOutletSession_stays {before s : State} (i : Nat) (reason : Reason) (hk : before.Stays s) :
    before.Stays (State.endOutletSession i reason s) := by
  unfold State.endOutletSession
  try dsimp only
  with_reducible repeat' first
    | assumption | apply State.setOutlet_stays | apply State.mark_stays | split | refine State.stays_mk ?_

theorem State.outletDelta_stays {before s : State} (i : Nat) (q : Nat) (hk : before.Stays s) :
    before.Stays (State.outletDelta i q s) := by
  unfold State.outletDelta
  try dsimp only
  with_reducible repeat' first
    | assumption | apply State.setOutlet_stays | split | refine State.stays_mk ?_

theorem State.attempt_stays {before s : State} (f : Nat) (hk : before.Stays s) :
    before.Stays (State.attempt f s) := by
  unfold State.attempt
  try dsimp only
  with_reducible repeat' first
    | assumption | split | refine State.stays_mk ?_

theorem State.dequeue_stays {before s : State} (i : Nat) (hk : before.Stays s) :
    before.Stays (State.dequeue i s) := by
  unfold State.dequeue
  try dsimp only
  with_reducible repeat' first
    | assumption | apply State.mark_stays | split | refine State.stays_mk ?_

theorem State.enqueue_stays {before s : State} (i : Nat) (o : Outlet) (shed : Bool) (hk : before.Stays s) :
    before.Stays (State.enqueue i o shed s) := by
  unfold State.enqueue
  try dsimp only
  with_reducible repeat' first
    | assumption | apply State.mark_stays | apply State.attempt_stays | refine State.stays_mk ?_

theorem State.releaseReservation_stays {before s : State} (i : Nat) (hk : before.Stays s) :
    before.Stays (State.releaseReservation i s) := by
  unfold State.releaseReservation
  try dsimp only
  with_reducible repeat' first
    | assumption | apply State.setOutlet_stays | apply State.mark_stays | apply State.attempt_stays | split

theorem State.grantOutlet_stays {before s : State} (i : Nat) (o : Outlet) (figure : Nat) (acct : Nat)
    (hk : before.Stays s) :
    before.Stays (State.grantOutlet i o figure acct s) := by
  unfold State.grantOutlet
  try dsimp only
  with_reducible repeat' first
    | assumption | apply State.mark_stays | apply State.attempt_stays | apply State.dequeue_stays
    | apply State.setOutlet_stays | apply State.writeImage_stays | split

theorem State.admissionCheck_stays {before s : State} (i : Nat) (hk : before.Stays s) :
    before.Stays (State.admissionCheck i s) := by
  unfold State.admissionCheck
  try dsimp only
  with_reducible repeat' first
    | assumption | apply State.grantOutlet_stays | apply State.setOutlet_stays | apply State.mark_stays
    | apply State.enqueue_stays | apply State.writeImage_stays | split

theorem State.tryHead_stays {before s t : State} (f : Nat) (h : before.Stays s) (ht : s.tryHead f = some t) :
    before.Stays t := by
  unfold State.tryHead at ht
  split at ht
  · split at ht
    · split at ht
      · split at ht
        · cases ht; exact State.grantOutlet_stays _ _ _ _ h
        · cases ht
      · cases ht
    · cases ht
  · cases ht

theorem State.runAttempts_stays {before : State} (n : Nat) {s : State} (h : before.Stays s) :
    before.Stays (State.runAttempts n s) := by
  induction n generalizing s with
  | zero => exact State.stays_mk h
  | succ n ih =>
    rw [State.runAttempts]
    split
    · exact h
    · split
      · next ht => exact ih (State.tryHead_stays _ h ht)
      · exact ih (State.stays_mk h)

theorem State.flushAttempts_stays {before s : State} (hk : before.Stays s) :
    before.Stays (State.flushAttempts s) := by
  unfold State.flushAttempts
  try dsimp only
  with_reducible repeat' first
    | assumption | apply State.runAttempts_stays

theorem State.vacate_stays {before s : State} (i : Nat) (target : OutletState) (reason : Reason)
    (hk : before.Stays s) :
    before.Stays (State.vacate i target reason s) := by
  unfold State.vacate
  try dsimp only
  with_reducible repeat' first
    | assumption | apply State.endOutletSession_stays | apply State.dequeue_stays | apply State.setOutlet_stays
    | apply State.mark_stays | apply State.releaseReservation_stays | apply State.writeImage_stays | split

theorem State.checkClosings_stays {before s : State} (i : Nat) (hk : before.Stays s) :
    before.Stays (State.checkClosings i s) := by
  unfold State.checkClosings
  try dsimp only
  with_reducible repeat' first
    | assumption | apply State.vacate_stays | split

theorem State.evalOutlet_stays {before s : State} (i : Nat) (reason : Reason) (hk : before.Stays s) :
    before.Stays (State.evalOutlet i reason s) := by
  unfold State.evalOutlet
  try dsimp only
  with_reducible repeat' first
    | assumption | apply State.setOutlet_stays | apply State.mark_stays | apply State.writeImage_stays
    | apply State.admissionCheck_stays | apply State.vacate_stays | split

theorem State.evalAndFlush_stays {before s : State} (i : Nat) (reason : Reason) (hk : before.Stays s) :
    before.Stays (State.evalAndFlush i reason s) := by
  unfold State.evalAndFlush
  try dsimp only
  with_reducible repeat' first
    | assumption | apply State.evalOutlet_stays | apply State.flushAttempts_stays

theorem State.evalSide_stays {before s : State} (r : SideRef) (reason : Reason) (hk : before.Stays s) :
    before.Stays (State.evalSide r reason s) := by
  unfold State.evalSide
  try dsimp only
  with_reducible repeat' first
    | assumption | apply State.evalAndFlush_stays | split

theorem State.storePlug_stays {before s : State} (i : Nat) (p : Plug) (hk : before.Stays s) :
    before.Stays (State.storePlug i p s) := by
  unfold State.storePlug
  try dsimp only
  with_reducible repeat' first
    | assumption | apply State.setOutlet_stays | apply State.mark_stays | split

theorem State.plugEvent_stays {before s : State} (i : Nat) (present : Bool) (hk : before.Stays s) :
    before.Stays (State.plugEvent i present s) := by
  unfold State.plugEvent
  try dsimp only
  with_reducible repeat' first
    | assumption | apply State.storePlug_stays | apply State.admissionCheck_stays | apply State.flushAttempts_stays
    | apply State.vacate_stays | apply State.checkClosings_stays | split

theorem State.shedOutlet_stays {before s : State} (i : Nat) (hk : before.Stays s) :
    before.Stays (State.shedOutlet i s) := by
  unfold State.shedOutlet
  try dsimp only
  with_reducible repeat' first
    | assumption | apply State.setOutlet_stays | apply State.mark_stays | apply State.releaseReservation_stays
    | apply State.enqueue_stays | apply State.writeImage_stays | split

theorem State.setCongested_stays {before s : State} (f : Nat) (b : Bool) (hk : before.Stays s) :
    before.Stays (State.setCongested f b s) := by
  unfold State.setCongested
  try dsimp only
  with_reducible repeat' first
    | assumption | apply State.setFeeder_stays | apply State.mark_stays | split

theorem State.compareMean_stays {before s : State} (f : Nat) (hk : before.Stays s) :
    before.Stays (State.compareMean f s) := by
  unfold State.compareMean
  try dsimp only
  with_reducible repeat' first
    | assumption | apply State.setCongested_stays | apply State.setFeeder_stays | apply State.mark_stays
    | apply State.shedOutlet_stays | apply State.flushAttempts_stays | apply State.attempt_stays | split

theorem State.feederRounds_stays {before s : State} (hk : before.Stays s) : before.Stays (State.feederRounds s) := by
  unfold State.feederRounds
  try dsimp only
  with_reducible repeat' first
    | assumption | exact .refl _ | intro _ _ | apply State.compareMean_stays | apply State.stays_foldl
    | refine State.stays_mk ?_

theorem State.reloadOutlet_stays {before s : State} (o : Outlet) (f : OutletLoad) (side : Side) (hk : before.Stays s) :
    before.Stays (State.reloadOutlet o f side s) := by
  unfold State.reloadOutlet
  try dsimp only
  with_reducible repeat' first
    | assumption | apply State.setOutlet_stays | apply State.modDevice_stays | apply State.writeImage_stays
    | apply State.mark_stays | apply State.attempt_stays | split

theorem outletLoadAct_stays {before s : State} (fr : IntakeFrame) (f : OutletLoad) (hk : before.Stays s) :
    before.Stays (outletLoadAct fr f s) := by
  unfold outletLoadAct
  try dsimp only
  with_reducible repeat' first
    | assumption | apply State.refuse_stays | apply State.recoveryEdges_stays | apply State.mark_stays
    | apply State.evalOutlet_stays | apply State.flushAttempts_stays | apply State.accept_stays
    | apply State.setOutlet_stays | apply State.createSource_stays | apply State.writeImage_stays
    | apply State.reloadOutlet_stays | split

theorem feederLoadAct_stays {before s : State} (fr : IntakeFrame) (f : FeederLoad) (hk : before.Stays s) :
    before.Stays (feederLoadAct fr f s) := by
  unfold feederLoadAct
  try dsimp only
  with_reducible repeat' first
    | assumption | apply State.setFeeder_stays | apply State.createSource_stays | apply State.mark_stays
    | apply State.attempt_stays | apply State.flushAttempts_stays | apply State.accept_stays
    | apply State.refuse_stays | split

theorem State.setLock_stays {before s : State} (i : Nat) (b : Bool) (hk : before.Stays s) :
    before.Stays (State.setLock i b s) := by
  unfold State.setLock
  try dsimp only
  with_reducible repeat' first
    | assumption | apply State.setOutlet_stays | apply State.mark_stays | split

theorem lockAct_stays {before s : State} (set : Bool) (fr : IntakeFrame) (i : Nat) (hk : before.Stays s) :
    before.Stays (lockAct set fr i s) := by
  unfold lockAct
  try dsimp only
  with_reducible repeat' first
    | assumption | apply State.refuse_stays | apply State.setLock_stays | apply State.evalAndFlush_stays
    | apply State.accept_stays | split

theorem State.clearLocks_stays {before s : State} (hk : before.Stays s) : before.Stays (State.clearLocks s) := by
  unfold State.clearLocks
  try dsimp only
  with_reducible repeat' first
    | assumption | exact .refl _ | intro _ _ | apply State.setLock_stays | apply State.evalAndFlush_stays
    | apply State.stays_foldl

theorem State.endTapSession_stays {before s : State} (i : Nat) (reason : Reason) (hk : before.Stays s) :
    before.Stays (State.endTapSession i reason s) := by
  unfold State.endTapSession
  try dsimp only
  with_reducible repeat' first
    | assumption | apply State.setTap_stays | apply State.mark_stays | split | refine State.stays_mk ?_

theorem State.tapDelta_stays {before s : State} (i : Nat) (q : Nat) (hk : before.Stays s) :
    before.Stays (State.tapDelta i q s) := by
  unfold State.tapDelta
  try dsimp only
  with_reducible repeat' first
    | assumption | apply State.setTap_stays | split | refine State.stays_mk ?_

theorem State.shutTap_stays {before s : State} (i : Nat) (target : TapState) (reason : Reason) (hk : before.Stays s) :
    before.Stays (State.shutTap i target reason s) := by
  unfold State.shutTap
  try dsimp only
  with_reducible repeat' first
    | assumption | apply State.endTapSession_stays | apply State.setTap_stays | apply State.mark_stays
    | apply State.writeImage_stays | split

theorem State.closeIfOpen_stays {before s : State} (i : Nat) (reason : Reason) (hk : before.Stays s) :
    before.Stays (State.closeIfOpen i reason s) := by
  unfold State.closeIfOpen
  try dsimp only
  with_reducible repeat' first
    | assumption | apply State.shutTap_stays | split

theorem State.evalTapSide_stays {before s : State} (r : SideRef) (reason : Reason) (hk : before.Stays s) :
    before.Stays (State.evalTapSide r reason s) := by
  unfold State.evalTapSide
  try dsimp only
  with_reducible repeat' first
    | assumption | apply State.shutTap_stays | split

theorem State.lockTap_stays {before s : State} (i : Nat) (hk : before.Stays s) :
    before.Stays (State.lockTap i s) := by
  unfold State.lockTap
  try dsimp only
  with_reducible repeat' first
    | assumption | apply State.shutTap_stays | apply State.setTap_stays | apply State.mark_stays | split
    | refine State.stays_mk ?_

theorem State.openTap_stays {before s : State} (i : Nat) (t : Tap) (acct : Nat) (hk : before.Stays s) :
    before.Stays (State.openTap i t acct s) := by
  unfold State.openTap
  try dsimp only
  with_reducible repeat' first
    | assumption | apply State.setTap_stays | apply State.mark_stays | apply State.writeImage_stays
    | refine State.stays_mk ?_

theorem State.buttonPress_stays {before s : State} (r : SideRef) (hk : before.Stays s) :
    before.Stays (State.buttonPress r s) := by
  unfold State.buttonPress
  try dsimp only
  with_reducible repeat' first
    | assumption | apply State.shutTap_stays | apply State.openTap_stays | split

theorem tapLoadAct_stays {before s : State} (fr : IntakeFrame) (f : TapLoad) (hk : before.Stays s) :
    before.Stays (tapLoadAct fr f s) := by
  unfold tapLoadAct
  try dsimp only
  with_reducible repeat' first
    | assumption | apply State.refuse_stays | apply State.mark_stays | apply State.accept_stays
    | apply State.setTap_stays | apply State.createSource_stays | apply State.modDevice_stays
    | apply State.writeImage_stays | split | refine State.stays_mk ?_

theorem State.closeAllTaps_stays {before s : State} (reason : Reason) (hk : before.Stays s) :
    before.Stays (State.closeAllTaps reason s) := by
  unfold State.closeAllTaps
  try dsimp only
  with_reducible repeat' first
    | assumption | exact .refl _ | intro _ _ | apply State.closeIfOpen_stays | apply State.stays_foldl

theorem State.holdOutlets_stays {before s : State} (hk : before.Stays s) : before.Stays (State.holdOutlets s) := by
  unfold State.holdOutlets
  try dsimp only
  with_reducible repeat' first
    | assumption | exact .refl _ | intro _ _ | apply State.vacate_stays | apply State.flushAttempts_stays
    | apply State.stays_foldl

theorem State.dispenseExpiry_stays {before s : State} (i : Nat) (hk : before.Stays s) :
    before.Stays (State.dispenseExpiry i s) := by
  unfold State.dispenseExpiry
  try dsimp only
  with_reducible repeat' first
    | assumption | apply State.advanceTo_stays | apply State.shutTap_stays | split

theorem State.settleExpiry_stays {before s : State} (i : Nat) (hk : before.Stays s) :
    before.Stays (State.settleExpiry i s) := by
  unfold State.settleExpiry
  try dsimp only
  with_reducible repeat' first
    | assumption | apply State.advanceTo_stays | apply State.setTap_stays | split | refine State.stays_mk ?_

theorem State.tripOutlet_stays {before s : State} (i : Nat) (hk : before.Stays s) :
    before.Stays (State.tripOutlet i s) := by
  unfold State.tripOutlet
  try dsimp only
  with_reducible repeat' first
    | assumption | apply State.setOutlet_stays | apply State.vacate_stays | split

theorem State.tripTap_stays {before s : State} (i : Nat) (hk : before.Stays s) :
    before.Stays (State.tripTap i s) := by
  unfold State.tripTap
  try dsimp only
  with_reducible repeat' first
    | assumption | apply State.setTap_stays | apply State.mark_stays | apply State.lockTap_stays | split
    | refine State.stays_mk ?_

theorem State.detectOutlet_stays {before s : State} (i : Nat) (k : FaultKind) (hk : before.Stays s) :
    before.Stays (State.detectOutlet i k s) := by
  unfold State.detectOutlet
  try dsimp only
  with_reducible repeat' first
    | assumption | apply State.setOutlet_stays | apply State.mark_stays | apply State.vacate_stays
    | apply State.tripOutlet_stays | apply State.checkClosings_stays | split

theorem State.detectTap_stays {before s : State} (i : Nat) (k : FaultKind) (hk : before.Stays s) :
    before.Stays (State.detectTap i k s) := by
  unfold State.detectTap
  try dsimp only
  with_reducible repeat' first
    | assumption | apply State.setTap_stays | apply State.mark_stays | apply State.lockTap_stays
    | apply State.tripTap_stays | apply State.shutTap_stays | split | refine State.stays_mk ?_

theorem State.clearOutlet_stays {before s : State} (i : Nat) (named : FaultKind → Bool) (hk : before.Stays s) :
    before.Stays (State.clearOutlet i named s) := by
  unfold State.clearOutlet
  try dsimp only
  with_reducible repeat' first
    | assumption | apply State.setOutlet_stays | apply State.mark_stays | apply State.writeImage_stays
    | apply State.evalAndFlush_stays | split

theorem State.clearTap_stays {before s : State} (i : Nat) (named : FaultKind → Bool) (hk : before.Stays s) :
    before.Stays (State.clearTap i named s) := by
  unfold State.clearTap
  try dsimp only
  with_reducible repeat' first
    | assumption | apply State.setTap_stays | apply State.mark_stays | split | refine State.stays_mk ?_

theorem State.unplugRecovery_stays {before s : State} (i : Nat) (detected : FaultKind → Bool) (hk : before.Stays s) :
    before.Stays (State.unplugRecovery i detected s) := by
  unfold State.unplugRecovery
  try dsimp only
  with_reducible repeat' first
    | assumption | apply State.clearOutlet_stays | split

theorem State.timeRecoveryOutlet_stays {before s : State} (i : Nat) (k : FaultKind) (hk : before.Stays s) :
    before.Stays (State.timeRecoveryOutlet i k s) := by
  unfold State.timeRecoveryOutlet
  try dsimp only
  with_reducible repeat' first
    | assumption | apply State.advanceTo_stays | apply State.setOutlet_stays | apply State.clearOutlet_stays | split

theorem State.timeRecoveryTap_stays {before s : State} (i : Nat) (k : FaultKind) (hk : before.Stays s) :
    before.Stays (State.timeRecoveryTap i k s) := by
  unfold State.timeRecoveryTap
  try dsimp only
  with_reducible repeat' first
    | assumption | apply State.advanceTo_stays | apply State.setTap_stays | apply State.clearTap_stays | split
    | refine State.stays_mk ?_

theorem State.measureOutlet_stays {before s : State} (i : Nat) (x : SideStatus) (hk : before.Stays s) :
    before.Stays (State.measureOutlet i x s) := by
  unfold State.measureOutlet
  try dsimp only
  with_reducible repeat' first
    | assumption | apply State.setOutlet_stays | apply State.mark_stays | split

theorem State.energyDelta_stays {before s : State} (i : Nat) (q : Nat) (jump : Bool) (hk : before.Stays s) :
    before.Stays (State.energyDelta i q jump s) := by
  unfold State.energyDelta
  try dsimp only
  with_reducible repeat' first
    | assumption | apply State.modOutlet_stays | apply State.modLive_stays | apply State.outletDelta_stays | split
    | refine State.stays_mk ?_

theorem State.trailingRelease_stays {before s : State} (i : Nat) (hk : before.Stays s) :
    before.Stays (State.trailingRelease i s) := by
  unfold State.trailingRelease
  try dsimp only
  with_reducible repeat' first
    | assumption | apply State.releaseReservation_stays | apply State.flushAttempts_stays | split

theorem State.outletReply_stays {before s : State} (i : Nat) (x : SideStatus) (fresh : Bool) (plugChanged : Bool) (delta : Option Nat)
    (hk : before.Stays s) :
    before.Stays (State.outletReply i x fresh plugChanged delta s) := by
  unfold State.outletReply
  try dsimp only
  with_reducible repeat' first
    | assumption | exact .refl _ | intro _ _ | apply State.setOutlet_stays | apply State.measureOutlet_stays
    | apply State.energyDelta_stays | apply State.detectOutlet_stays | apply State.flushAttempts_stays
    | apply State.trailingRelease_stays | apply State.storePlug_stays | apply State.plugEvent_stays
    | apply State.unplugRecovery_stays | apply State.stays_foldl | split

theorem State.tapReply_stays {before s : State} (i : Nat) (x : SideStatus) (fresh : Bool) (pressed : Bool) (delta : Option Nat)
    (hk : before.Stays s) :
    before.Stays (State.tapReply i x fresh pressed delta s) := by
  unfold State.tapReply
  try dsimp only
  with_reducible repeat' first
    | assumption | exact .refl _ | intro _ _ | apply State.setTap_stays | apply State.mark_stays
    | apply State.modLive_stays | apply State.tapDelta_stays | apply State.detectTap_stays
    | apply State.buttonPress_stays | apply State.stays_foldl | split | refine State.stays_mk ?_

theorem State.stuckDetect_stays {before s : State} (i : Nat) (hk : before.Stays s) :
    before.Stays (State.stuckDetect i s) := by
  unfold State.stuckDetect
  try dsimp only
  with_reducible repeat' first
    | assumption | apply State.setOutlet_stays | apply State.detectOutlet_stays | apply State.flushAttempts_stays
    | split

theorem State.completeRound_stays {before s : State} (hk : before.Stays s) :
    before.Stays (State.completeRound s) := by
  unfold State.completeRound
  try dsimp only
  with_reducible repeat' first
    | assumption | exact .refl _ | intro _ _ | apply State.stuckDetect_stays | apply State.feederRounds_stays
    | apply State.stays_foldl | refine State.stays_mk ?_

theorem State.setCheckPoints_stays {before s : State} (address : Nat) (m : Image) (hk : before.Stays s) :
    before.Stays (State.setCheckPoints address m s) := by
  unfold State.setCheckPoints
  try dsimp only
  with_reducible repeat' first
    | assumption | split | refine State.stays_mk ?_

theorem State.idleKind_stays {before s : State} (k : FaultKind) (hk : before.Stays s) :
    before.Stays (State.idleKind k s) := by
  unfold State.idleKind
  try dsimp only
  with_reducible repeat' first
    | assumption | split | refine State.stays_mk ?_

theorem clearFaultAct_stays {before s : State} (fr : IntakeFrame) (f : ClearFault) (hk : before.Stays s) :
    before.Stays (clearFaultAct fr f s) := by
  unfold clearFaultAct
  try dsimp only
  with_reducible repeat' first
    | assumption | apply State.refuse_stays | apply State.clearOutlet_stays | apply State.accept_stays
    | apply State.clearTap_stays | split

theorem returnToServiceAct_stays {before s : State} (fr : IntakeFrame) (f : ReturnToService) (hk : before.Stays s) :
    before.Stays (returnToServiceAct fr f s) := by
  unfold returnToServiceAct
  try dsimp only
  with_reducible repeat' first
    | assumption | apply State.refuse_stays | apply State.setOutlet_stays | apply State.mark_stays
    | apply State.writeImage_stays | apply State.evalAndFlush_stays | apply State.accept_stays
    | apply State.setTap_stays | split

theorem State.disagreeExpiry_stays {before s : State} (i : Nat) (hk : before.Stays s) :
    before.Stays (State.disagreeExpiry i s) := by
  unfold State.disagreeExpiry
  try dsimp only
  with_reducible repeat' first
    | assumption | apply State.advanceTo_stays | apply State.setOutlet_stays | apply State.detectOutlet_stays
    | apply State.flushAttempts_stays | split

theorem State.timeRecovery_stays {before s : State} (t : Target) (i : Nat) (k : FaultKind) (hk : before.Stays s) :
    before.Stays (State.timeRecovery t i k s) := by
  unfold State.timeRecovery
  try dsimp only
  with_reducible repeat' first
    | assumption | apply State.timeRecoveryOutlet_stays | apply State.timeRecoveryTap_stays | split

theorem State.relamp_stays {before s : State} (r : SideRef) (hk : before.Stays s) :
    before.Stays (State.relamp r s) := by
  unfold State.relamp
  try dsimp only
  with_reducible repeat' first
    | assumption | apply State.writeImage_stays | split

theorem State.cutSide_stays {before s : State} (r : SideRef) (reason : Reason) (hk : before.Stays s) :
    before.Stays (State.cutSide r reason s) := by
  unfold State.cutSide
  try dsimp only
  with_reducible repeat' first
    | assumption | apply State.evalOutlet_stays | apply State.evalTapSide_stays | split

theorem State.passStanding_stays {before s : State} (n : Nat) (was : Standing) (now : Standing) (hk : before.Stays s) :
    before.Stays (State.passStanding n was now s) := by
  unfold State.passStanding
  try dsimp only
  with_reducible repeat' first
    | assumption | exact .refl _ | intro _ _ | apply State.cutSide_stays | apply State.flushAttempts_stays
    | apply State.evalSide_stays | apply State.relamp_stays | apply State.stays_foldl | split

theorem State.restand_stays {before s : State} (n : Nat) (a : Account) (hk : before.Stays s) :
    before.Stays (State.restand n a s) := by
  unfold State.restand
  try dsimp only
  with_reducible repeat' first
    | assumption | apply State.setAccount_stays | apply State.mark_stays | apply State.passStanding_stays | split

theorem State.grant_stays {before s : State} (a : ArbiterClass) (hk : before.Stays s) :
    before.Stays (State.grant a s) := by
  unfold State.grant
  try dsimp only
  with_reducible repeat' first
    | assumption | refine State.stays_mk ?_

theorem State.debit_stays {before s : State} (v : Service) (n : Nat) (c : Nat) (hk : before.Stays s) :
    before.Stays (State.debit v n c s) := by
  unfold State.debit
  try dsimp only
  with_reducible repeat' first
    | assumption | apply State.modLive_stays | apply State.mark_stays | apply State.restand_stays | split

theorem State.setSlots_stays {before s : State} (v : Service) (l : List Posting) (hk : before.Stays s) :
    before.Stays (State.setSlots v l s) := by
  unfold State.setSlots
  try dsimp only
  with_reducible repeat' first
    | assumption | split | refine State.stays_mk ?_

theorem State.modSession_stays {before s : State} (v : Service) (i : Nat) (f : Session → Session)
    (hk : before.Stays s) :
    before.Stays (State.modSession v i f s) := by
  unfold State.modSession
  try dsimp only
  with_reducible repeat' first
    | assumption | apply State.modOutlet_stays | apply State.modTap_stays | split | refine State.stays_mk ?_

theorem State.setWaiting_stays {before s : State} (v : Service) (i : Nat) (l : List WaitingClosing)
    (hk : before.Stays s) :
    before.Stays (State.setWaiting v i l s) := by
  unfold State.setWaiting
  try dsimp only
  with_reducible repeat' first
    | assumption | apply State.modOutlet_stays | apply State.modTap_stays | split | refine State.stays_mk ?_

theorem State.completeEnd_stays {before s : State} (v : Service) (i : Nat) (e : EndRecord) (hk : before.Stays s) :
    before.Stays (State.completeEnd v i e s) := by
  unfold State.completeEnd
  try dsimp only
  with_reducible repeat' first
    | assumption | apply State.modOutlet_stays | apply State.mark_stays | apply State.modTap_stays | split
    | refine State.stays_mk ?_

theorem State.refill_stays {before s : State} (v : Service) (i : Nat) (hk : before.Stays s) :
    before.Stays (State.refill v i s) := by
  unfold State.refill
  try dsimp only
  with_reducible repeat' first
    | assumption | apply State.setSlots_stays | apply State.setWaiting_stays | apply State.evalAndFlush_stays
    | apply State.modSession_stays | split

theorem State.serveOpen_stays {before s : State} (v : Service) (e : Posting) (hk : before.Stays s) :
    before.Stays (State.serveOpen v e s) := by
  unfold State.serveOpen
  try dsimp only
  with_reducible repeat' first
    | assumption | apply State.setSlots_stays | apply State.modSession_stays | apply State.debit_stays
    | apply State.refill_stays

theorem State.serveClosing_stays {before s : State} (v : Service) (e : Posting) (c : Closing) (hk : before.Stays s) :
    before.Stays (State.serveClosing v e c s) := by
  unfold State.serveClosing
  try dsimp only
  with_reducible repeat' first
    | assumption | apply State.debit_stays | apply State.setSlots_stays | apply State.completeEnd_stays
    | apply State.refill_stays | split

theorem State.servePosting_stays {before s : State} (v : Service) (hk : before.Stays s) :
    before.Stays (State.servePosting v s) := by
  unfold State.servePosting
  try dsimp only
  with_reducible repeat' first
    | assumption | apply State.grant_stays | apply State.serveOpen_stays | apply State.serveClosing_stays | split

theorem State.handOffice_stays {before s : State} (fr : IntakeFrame) (op : OfficeOp) (hk : before.Stays s) :
    before.Stays (State.handOffice fr op s) := by
  unfold State.handOffice
  try dsimp only
  with_reducible repeat' first
    | assumption | apply State.setWork_stays | refine State.stays_mk ?_

theorem accountLoadAct_stays {before s : State} (fr : IntakeFrame) (f : AccountLoad) (hk : before.Stays s) :
    before.Stays (accountLoadAct fr f s) := by
  unfold accountLoadAct
  try dsimp only
  with_reducible repeat' first
    | assumption | apply State.handOffice_stays | apply State.refuse_stays | split

theorem accountUpdateAct_stays {before s : State} (fr : IntakeFrame) (f : AccountUpdate) (hk : before.Stays s) :
    before.Stays (accountUpdateAct fr f s) := by
  unfold accountUpdateAct
  try dsimp only
  with_reducible repeat' first
    | assumption | apply State.handOffice_stays | apply State.refuse_stays | split

theorem topUpAct_stays {before s : State} (fr : IntakeFrame) (f : TopUp) (hk : before.Stays s) :
    before.Stays (topUpAct fr f s) := by
  unfold topUpAct
  try dsimp only
  with_reducible repeat' first
    | assumption | apply State.handOffice_stays | apply State.refuse_stays | split

theorem accountRemoveAct_stays {before s : State} (fr : IntakeFrame) (n : Nat) (hk : before.Stays s) :
    before.Stays (accountRemoveAct fr n s) := by
  unfold accountRemoveAct
  try dsimp only
  with_reducible repeat' first
    | assumption | apply State.handOffice_stays | apply State.refuse_stays | split

theorem tariffLoadAct_stays {before s : State} (fr : IntakeFrame) (f : TariffLoad) (hk : before.Stays s) :
    before.Stays (tariffLoadAct fr f s) := by
  unfold tariffLoadAct
  try dsimp only
  with_reducible repeat' first
    | assumption | apply State.handOffice_stays | apply State.refuse_stays | split

theorem accountReadAct_stays {before s : State} (fr : IntakeFrame) (f : AccountRead) (hk : before.Stays s) :
    before.Stays (accountReadAct fr f s) := by
  unfold accountReadAct
  try dsimp only
  with_reducible repeat' first
    | assumption | apply State.refuse_stays | apply State.accept_stays | split

theorem berthLoadAct_stays {before s : State} (fr : IntakeFrame) (f : BerthLoad) (hk : before.Stays s) :
    before.Stays (berthLoadAct fr f s) := by
  unfold berthLoadAct
  try dsimp only
  with_reducible repeat' first
    | assumption | apply State.refuse_stays | apply State.setBerth_stays | apply State.createSource_stays
    | apply State.mark_stays | apply State.accept_stays | split

theorem berthReadAct_stays {before s : State} (fr : IntakeFrame) (i : Nat) (hk : before.Stays s) :
    before.Stays (berthReadAct fr i s) := by
  unfold berthReadAct
  try dsimp only
  with_reducible repeat' first
    | assumption | apply State.refuse_stays | apply State.accept_stays | split

theorem State.changeBerth_stays {before s : State} (i : Nat) (b : Berth) (reason : BerthReason) (hk : before.Stays s) :
    before.Stays (State.changeBerth i b reason s) := by
  unfold State.changeBerth
  try dsimp only
  with_reducible repeat' first
    | assumption | apply State.setBerth_stays | apply State.mark_stays

theorem State.freeBerth_stays {before s : State} (i : Nat) (b : Berth) (reason : BerthReason) (hk : before.Stays s) :
    before.Stays (State.freeBerth i b reason s) := by
  unfold State.freeBerth
  try dsimp only
  with_reducible repeat' first
    | assumption | apply State.changeBerth_stays

theorem State.acceptBerth_stays {before s : State} (fr : IntakeFrame) (i : Nat) (hk : before.Stays s) :
    before.Stays (State.acceptBerth fr i s) := by
  unfold State.acceptBerth
  try dsimp only
  with_reducible repeat' first
    | assumption | apply State.accept_stays | apply State.refuse_stays | split

theorem State.withBerth_stays {before s : State} (fr : IntakeFrame) (i : Nat) (act : Berth → State)
    (h : before.Stays s) (ha : ∀ b, before.Stays (act b)) : before.Stays (State.withBerth fr i act s) := by
  unfold State.withBerth
  split
  · exact State.refuse_stays _ _ h
  · split
    · exact State.refuse_stays _ _ h
    · exact ha _

theorem openBerthAct_stays {before s : State} (fr : IntakeFrame) (i : Nat) (h : before.Stays s) :
    before.Stays (openBerthAct fr i s) := by
  unfold openBerthAct
  try dsimp only
  repeat' first
    | with_reducible assumption
    | with_reducible apply State.withBerth_stays
    | with_reducible apply State.acceptBerth_stays
    | with_reducible apply State.changeBerth_stays
    | with_reducible apply State.freeBerth_stays
    | with_reducible apply State.refuse_stays
    | with_reducible apply State.evalSide_stays
    | with_reducible apply State.flushAttempts_stays
    | with_reducible apply State.cutSide_stays
    | intro _
    | split

theorem closeBerthAct_stays {before s : State} (fr : IntakeFrame) (i : Nat) (h : before.Stays s) :
    before.Stays (closeBerthAct fr i s) := by
  unfold closeBerthAct
  try dsimp only
  repeat' first
    | with_reducible assumption
    | with_reducible apply State.withBerth_stays
    | with_reducible apply State.acceptBerth_stays
    | with_reducible apply State.changeBerth_stays
    | with_reducible apply State.freeBerth_stays
    | with_reducible apply State.refuse_stays
    | with_reducible apply State.evalSide_stays
    | with_reducible apply State.flushAttempts_stays
    | with_reducible apply State.cutSide_stays
    | intro _
    | split

theorem bookAct_stays {before s : State} (fr : IntakeFrame) (f : Book) (h : before.Stays s) :
    before.Stays (bookAct fr f s) := by
  unfold bookAct
  try dsimp only
  repeat' first
    | with_reducible assumption
    | with_reducible apply State.withBerth_stays
    | with_reducible apply State.acceptBerth_stays
    | with_reducible apply State.changeBerth_stays
    | with_reducible apply State.freeBerth_stays
    | with_reducible apply State.refuse_stays
    | with_reducible apply State.evalSide_stays
    | with_reducible apply State.flushAttempts_stays
    | with_reducible apply State.cutSide_stays
    | intro _
    | split

theorem confirmAct_stays {before s : State} (fr : IntakeFrame) (f : Confirm) (h : before.Stays s) :
    before.Stays (confirmAct fr f s) := by
  unfold confirmAct
  try dsimp only
  repeat' first
    | with_reducible assumption
    | with_reducible apply State.withBerth_stays
    | with_reducible apply State.acceptBerth_stays
    | with_reducible apply State.changeBerth_stays
    | with_reducible apply State.freeBerth_stays
    | with_reducible apply State.refuse_stays
    | with_reducible apply State.evalSide_stays
    | with_reducible apply State.flushAttempts_stays
    | with_reducible apply State.cutSide_stays
    | intro _
    | split

theorem declineAct_stays {before s : State} (fr : IntakeFrame) (i : Nat) (h : before.Stays s) :
    before.Stays (declineAct fr i s) := by
  unfold declineAct
  try dsimp only
  repeat' first
    | with_reducible assumption
    | with_reducible apply State.withBerth_stays
    | with_reducible apply State.acceptBerth_stays
    | with_reducible apply State.changeBerth_stays
    | with_reducible apply State.freeBerth_stays
    | with_reducible apply State.refuse_stays
    | with_reducible apply State.evalSide_stays
    | with_reducible apply State.flushAttempts_stays
    | with_reducible apply State.cutSide_stays
    | intro _
    | split

theorem departAct_stays {before s : State} (fr : IntakeFrame) (i : Nat) (h : before.Stays s) :
    before.Stays (departAct fr i s) := by
  unfold departAct
  try dsimp only
  repeat' first
    | with_reducible assumption
    | with_reducible apply State.withBerth_stays
    | with_reducible apply State.acceptBerth_stays
    | with_reducible apply State.changeBerth_stays
    | with_reducible apply State.freeBerth_stays
    | with_reducible apply State.refuse_stays
    | with_reducible apply State.evalSide_stays
    | with_reducible apply State.flushAttempts_stays
    | with_reducible apply State.cutSide_stays
    | intro _
    | split

theorem State.noShowTest_stays {before s : State} (i : Nat) (hk : before.Stays s) :
    before.Stays (State.noShowTest i s) := by
  unfold State.noShowTest
  try dsimp only
  with_reducible repeat' first
    | assumption | apply State.freeBerth_stays | split

theorem State.noShowAll_stays {before s : State} (hk : before.Stays s) : before.Stays (State.noShowAll s) := by
  unfold State.noShowAll
  try dsimp only
  with_reducible repeat' first
    | assumption | exact .refl _ | intro _ _ | apply State.noShowTest_stays | apply State.stays_foldl

theorem State.offerExpiry_stays {before s : State} (i : Nat) (hk : before.Stays s) :
    before.Stays (State.offerExpiry i s) := by
  unfold State.offerExpiry
  try dsimp only
  with_reducible repeat' first
    | assumption | apply State.advanceTo_stays | apply State.freeBerth_stays | split

theorem State.tideExpiry_stays {before s : State} (hk : before.Stays s) : before.Stays (State.tideExpiry s) := by
  unfold State.tideExpiry
  try dsimp only
  with_reducible repeat' first
    | assumption | apply State.advanceTo_stays | apply State.taken_stays | apply State.testTide_stays | split

theorem allocateAct_stays {before s : State} (fr : IntakeFrame) (f : Allocate) (hk : before.Stays s) :
    before.Stays (allocateAct fr f s) := by
  unfold allocateAct
  try dsimp only
  with_reducible repeat' first
    | assumption | apply State.refuse_stays | apply State.testTide_stays | apply State.changeBerth_stays
    | apply State.accept_stays | split

theorem State.setTank_stays {before s : State} (grade : Nat) (t : Tank) (hk : before.Stays s) :
    before.Stays (State.setTank grade t s) := by
  unfold State.setTank
  try dsimp only
  with_reducible repeat' first
    | assumption | split | refine State.stays_mk ?_

theorem State.authorise_stays {before s : State} (i : Nat) (hk : before.Stays s) :
    before.Stays (State.authorise i s) := by
  unfold State.authorise
  try dsimp only
  with_reducible repeat' first
    | assumption | apply State.setDispenser_stays | apply State.writeOneShot_stays | split

theorem State.grantHeads_stays {before : State} (n : Nat) {s : State} (h : before.Stays s) :
    before.Stays (State.grantHeads n s) := by
  induction n generalizing s with
  | zero => exact h
  | succ n ih =>
    rw [State.grantHeads]
    split
    · exact h
    · split
      · exact ih (State.authorise_stays _ (State.stays_mk h))
      · exact h

theorem State.grantPumps_stays {before s : State} (hk : before.Stays s) : before.Stays (State.grantPumps s) := by
  unfold State.grantPumps
  try dsimp only
  with_reducible repeat' first
    | assumption | apply State.grantHeads_stays

theorem State.enterWaitPump_stays {before s : State} (i : Nat) (hk : before.Stays s) :
    before.Stays (State.enterWaitPump i s) := by
  unfold State.enterWaitPump
  try dsimp only
  with_reducible repeat' first
    | assumption | apply State.modDispenser_stays | apply State.grantPumps_stays | refine State.stays_mk ?_

theorem State.request_stays {before s : State} (toOffice : Bool) (r : FuelRequest) (hk : before.Stays s) :
    before.Stays (State.request toOffice r s) := by
  unfold State.request
  try dsimp only
  with_reducible repeat' first
    | assumption | split | refine State.stays_mk ?_

theorem State.withdrawHold_stays {before s : State} (i : Nat) (hk : before.Stays s) :
    before.Stays (State.withdrawHold i s) := by
  unfold State.withdrawHold
  try dsimp only
  with_reducible repeat' first
    | assumption | refine State.stays_mk ?_

theorem State.answerHold_stays {before s : State} (i : Nat) (a : Answer) (hk : before.Stays s) :
    before.Stays (State.answerHold i a s) := by
  unfold State.answerHold
  try dsimp only
  with_reducible repeat' first
    | assumption | apply State.answer_stays | split

theorem State.startSale_stays {before s : State} (i : Nat) (d : Dispenser) (acct : Option Nat) (token : Option Token) (grade : Nat) (preset : Nat)
    (hk : before.Stays s) :
    before.Stays (State.startSale i d acct token grade preset s) := by
  unfold State.startSale
  try dsimp only
  with_reducible repeat' first
    | assumption | apply State.setDispenser_stays | apply State.mark_stays | apply State.request_stays
    | apply State.enterWaitPump_stays | split

theorem State.cancelSale_stays {before s : State} (toOffice : Bool) (i : Nat) (hk : before.Stays s) :
    before.Stays (State.cancelSale toOffice i s) := by
  unfold State.cancelSale
  try dsimp only
  with_reducible repeat' first
    | assumption | apply State.withdrawHold_stays | apply State.answerHold_stays | apply State.setDispenser_stays
    | apply State.request_stays | apply State.mark_stays | apply State.grantPumps_stays | split
    | refine State.stays_mk ?_

theorem State.completeSale_stays {before s : State} (i : Nat) (hk : before.Stays s) :
    before.Stays (State.completeSale i s) := by
  unfold State.completeSale
  try dsimp only
  with_reducible repeat' first
    | assumption | apply State.setDispenser_stays | apply State.modLive_stays | apply State.mark_stays | split
    | refine State.stays_mk ?_

theorem State.enterSettling_stays {before s : State} (toOffice : Bool) (i : Nat) (volume : Nat) (incomplete : Bool)
    (hk : before.Stays s) :
    before.Stays (State.enterSettling toOffice i volume incomplete s) := by
  unfold State.enterSettling
  try dsimp only
  with_reducible repeat' first
    | assumption | apply State.setDispenser_stays | apply State.setTank_stays | apply State.markStatus_stays
    | apply State.modLive_stays | apply State.request_stays | apply State.completeSale_stays
    | apply State.grantPumps_stays | split

theorem State.endDelivery_stays {before s : State} (i : Nat) (volume : Nat) (hk : before.Stays s) :
    before.Stays (State.endDelivery i volume s) := by
  unfold State.endDelivery
  try dsimp only
  with_reducible repeat' first
    | assumption | apply State.cancelSale_stays | apply State.enterSettling_stays | split

theorem State.saleReply_stays {before s : State} (i : Nat) (was : Nozzle) (lifted : Bool) (v : Nat)
    (hk : before.Stays s) :
    before.Stays (State.saleReply i was lifted v s) := by
  unfold State.saleReply
  try dsimp only
  with_reducible repeat' first
    | assumption | apply State.endDelivery_stays | apply State.setDispenser_stays | split

theorem State.dispenserReply_stays {before s : State} (i : Nat) (lifted : Bool) (v : Nat) (fresh : Bool)
    (hk : before.Stays s) :
    before.Stays (State.dispenserReply i lifted v fresh s) := by
  unfold State.dispenserReply
  try dsimp only
  with_reducible repeat' first
    | assumption | apply State.setDispenser_stays | apply State.saleReply_stays | split

theorem State.totaliserReply_stays {before s : State} (i : Nat) (grade : Nat) (value : Nat) (delta : Option Nat)
    (hk : before.Stays s) :
    before.Stays (State.totaliserReply i grade value delta s) := by
  unfold State.totaliserReply
  try dsimp only
  with_reducible repeat' first
    | assumption | apply State.modDispenser_stays | apply State.modLive_stays | split | refine State.stays_mk ?_

theorem State.saleLost_stays {before s : State} (i : Nat) (hk : before.Stays s) :
    before.Stays (State.saleLost i s) := by
  unfold State.saleLost
  try dsimp only
  with_reducible repeat' first
    | assumption | apply State.setDispenser_stays | apply State.cancelSale_stays | apply State.enterSettling_stays
    | split

theorem State.saleCommandFailed_stays {before s : State} (i : Nat) (hk : before.Stays s) :
    before.Stays (State.saleCommandFailed i s) := by
  unfold State.saleCommandFailed
  try dsimp only
  with_reducible repeat' first
    | assumption | apply State.cancelSale_stays | apply State.enterSettling_stays | split

theorem State.saleCommandAcked_stays {before s : State} (i : Nat) (c : OneShot) (hk : before.Stays s) :
    before.Stays (State.saleCommandAcked i c s) := by
  unfold State.saleCommandAcked
  try dsimp only
  with_reducible repeat' first
    | assumption | apply State.authorise_stays | apply State.setDispenser_stays | apply State.refuse_stays | split

theorem State.modSale_stays {before s : State} (i : Nat) (f : Sale → Sale) (hk : before.Stays s) :
    before.Stays (State.modSale i f s) := by
  unfold State.modSale
  try dsimp only
  with_reducible repeat' first
    | assumption | apply State.modDispenser_stays

theorem State.changeHeld_stays {before s : State} (n : Nat) (f : Account → Account) (hk : before.Stays s) :
    before.Stays (State.changeHeld n f s) := by
  unfold State.changeHeld
  try dsimp only
  with_reducible repeat' first
    | assumption | apply State.mark_stays | apply State.restand_stays | split

theorem State.holdGranted_stays {before s : State} (i : Nat) (h : Nat) (hk : before.Stays s) :
    before.Stays (State.holdGranted i h s) := by
  unfold State.holdGranted
  try dsimp only
  with_reducible repeat' first
    | assumption | apply State.modSale_stays | apply State.enterWaitPump_stays | apply State.answerHold_stays | split

theorem State.holdFailed_stays {before s : State} (i : Nat) (hk : before.Stays s) :
    before.Stays (State.holdFailed i s) := by
  unfold State.holdFailed
  try dsimp only
  with_reducible repeat' first
    | assumption | apply State.answerHold_stays | apply State.refuse_stays | apply State.cancelSale_stays
    | apply State.writeOneShot_stays | split

theorem State.serveHold_stays {before s : State} (r : FuelRequest) (h : Nat) (hk : before.Stays s) :
    before.Stays (State.serveHold r h s) := by
  unfold State.serveHold
  try dsimp only
  with_reducible repeat' first
    | assumption | apply State.holdFailed_stays | apply State.changeHeld_stays | apply State.holdGranted_stays | split

theorem State.serveRelease_stays {before s : State} (r : FuelRequest) (h : Nat) (hk : before.Stays s) :
    before.Stays (State.serveRelease r h s) := by
  unfold State.serveRelease
  try dsimp only
  with_reducible repeat' first
    | assumption | apply State.changeHeld_stays | apply State.modDispenser_stays | apply State.mark_stays

theorem State.serveSettle_stays {before s : State} (r : FuelRequest) (h : Nat) (a : Nat) (hk : before.Stays s) :
    before.Stays (State.serveSettle r h a s) := by
  unfold State.serveSettle
  try dsimp only
  with_reducible repeat' first
    | assumption | apply State.changeHeld_stays | apply State.modLive_stays | apply State.completeSale_stays

theorem State.serveFuel_stays {before s : State} (r : FuelRequest) (hk : before.Stays s) :
    before.Stays (State.serveFuel r s) := by
  unfold State.serveFuel
  try dsimp only
  with_reducible repeat' first
    | assumption | apply State.serveHold_stays | apply State.serveRelease_stays | apply State.serveSettle_stays
    | split

theorem State.grantFuel_stays {before s : State} (kind : FuelAsk → Bool) (hk : before.Stays s) :
    before.Stays (State.grantFuel kind s) := by
  unfold State.grantFuel
  try dsimp only
  with_reducible repeat' first
    | assumption | apply State.grant_stays | apply State.serveFuel_stays | split | refine State.stays_mk ?_

theorem authoriseSaleAct_stays {before s : State} (fr : IntakeFrame) (f : AuthoriseSale) (hk : before.Stays s) :
    before.Stays (authoriseSaleAct fr f s) := by
  unfold authoriseSaleAct
  try dsimp only
  with_reducible repeat' first
    | assumption | apply State.refuse_stays | apply State.setWork_stays | apply State.startSale_stays
    | apply State.answerHold_stays | split

theorem stopSaleAct_stays {before s : State} (fr : IntakeFrame) (i : Nat) (hk : before.Stays s) :
    before.Stays (stopSaleAct fr i s) := by
  unfold stopSaleAct
  try dsimp only
  with_reducible repeat' first
    | assumption | apply State.refuse_stays | apply State.cancelSale_stays | apply State.accept_stays
    | apply State.setDispenser_stays | apply State.writeOneShot_stays | split

theorem takeSaleAct_stays {before s : State} (fr : IntakeFrame) (u : Unit) (hk : before.Stays s) :
    before.Stays (takeSaleAct fr u s) := by
  unfold takeSaleAct
  try dsimp only
  with_reducible repeat' first
    | assumption | apply State.accept_stays | apply State.mark_stays | split | refine State.stays_mk ?_

theorem State.storeTank_stays {before s : State} (fr : IntakeFrame) (f : TankFields) (level : Nat)
    (hk : before.Stays s) :
    before.Stays (State.storeTank fr f level s) := by
  unfold State.storeTank
  try dsimp only
  with_reducible repeat' first
    | assumption | apply State.setTank_stays | apply State.markStatus_stays | apply State.accept_stays
    | apply State.refuse_stays | split

theorem tankSetAct_stays {before s : State} (fr : IntakeFrame) (f : TankFields) (hk : before.Stays s) :
    before.Stays (tankSetAct fr f s) := by
  unfold tankSetAct
  try dsimp only
  with_reducible repeat' first
    | assumption | apply State.storeTank_stays

theorem tankAddAct_stays {before s : State} (fr : IntakeFrame) (f : TankFields) (hk : before.Stays s) :
    before.Stays (tankAddAct fr f s) := by
  unfold tankAddAct
  try dsimp only
  with_reducible repeat' first
    | assumption | apply State.storeTank_stays

theorem State.nozzleExpiry_stays {before s : State} (i : Nat) (hk : before.Stays s) :
    before.Stays (State.nozzleExpiry i s) := by
  unfold State.nozzleExpiry
  try dsimp only
  with_reducible repeat' first
    | assumption | apply State.advanceTo_stays | apply State.cancelSale_stays | apply State.writeOneShot_stays | split

theorem State.setCache_stays {before s : State} (c : Table CacheEntry) (h : before.Stays s) :
    before.Stays (State.setCache c s) := by
  unfold State.setCache
  exact State.stays_mk h

theorem State.trimCache_stays {before s : State} (hk : before.Stays s) : before.Stays (State.trimCache s) := by
  unfold State.trimCache
  try dsimp only
  with_reducible repeat' first
    | assumption | apply State.setCache_stays

theorem State.gateDecision_stays {before s : State} (i : Nat) (t : Token) (d : Decision) (passback : Bool) (queried : Bool) (notStored : Bool) (judged : Bool)
    (hk : before.Stays s) :
    before.Stays (State.gateDecision i t d passback queried notStored judged s) := by
  unfold State.gateDecision
  try dsimp only
  with_reducible repeat' first
    | assumption | apply State.journalAdd_stays | apply State.setReader_stays | apply State.writeOneShot_stays | split

theorem State.gatePresence_stays {before s : State} (i : Nat) (t : Token) (hk : before.Stays s) :
    before.Stays (State.gatePresence i t s) := by
  unfold State.gatePresence
  try dsimp only
  with_reducible repeat' first
    | assumption | apply State.setCache_stays | apply State.setReader_stays
    | split

theorem State.dropQuery_stays {before s : State} (r : Requester) (hk : before.Stays s) :
    before.Stays (State.dropQuery r s) := by
  unfold State.dropQuery
  split
  · exact hk
  · exact State.removeSource_stays _ _ (State.stays_mk hk)

theorem State.makeQuery_stays {before s : State} (r : Requester) (t : Token) (hk : before.Stays s) :
    before.Stays (State.makeQuery r t s) := by
  unfold State.makeQuery
  exact State.mark_stays _ _ (State.createSource_stays _ _ (State.stays_mk hk))

theorem State.refuseCard_stays {before s : State} (i : Nat) (code : Nat) (hk : before.Stays s) :
    before.Stays (State.refuseCard i code s) := by
  unfold State.refuseCard
  try dsimp only
  with_reducible repeat' first
    | assumption | apply State.setDispenser_stays | apply State.writeOneShot_stays | apply State.refuse_stays | split

theorem State.dispenserDecision_stays {before s : State} (i : Nat) (t : Token) (grade : Nat) (preset : Nat) (d : Decision) (acct : Option Nat)
    (hk : before.Stays s) :
    before.Stays (State.dispenserDecision i t grade preset d acct s) := by
  unfold State.dispenserDecision
  try dsimp only
  with_reducible repeat' first
    | assumption | apply State.refuseCard_stays | apply State.startSale_stays | split

theorem State.decideCard_stays {before s : State} (i : Nat) (d : Dispenser) (t : Token) (grade preset : Nat)
    (hk : before.Stays s) : before.Stays (State.decideCard i d t grade preset s) := by
  unfold State.decideCard
  dsimp only
  split
  · exact State.dispenserDecision_stays _ _ _ _ _ _ (State.journalAdd_stays _ _ _ _ _ _ _ hk)
  · split
    · exact State.dispenserDecision_stays _ _ _ _ _ _ (State.journalAdd_stays _ _ _ _ _ _ _ hk)
    · exact State.makeQuery_stays _ _ (State.setDispenser_stays _ _ hk)

theorem State.dispenserCard_stays {before s : State} (i : Nat) (t : Token) (grade : Nat) (keypad : Nat)
    (hk : before.Stays s) :
    before.Stays (State.dispenserCard i t grade keypad s) := by
  unfold State.dispenserCard
  try dsimp only
  with_reducible repeat' first
    | assumption | apply State.writeOneShot_stays | apply State.refuse_stays | apply State.journalAdd_stays
    | apply State.decideCard_stays | split

theorem State.gateCard_stays {before s : State} (i : Nat) (t : Token) (hk : before.Stays s) :
    before.Stays (State.gateCard i t s) := by
  unfold State.gateCard
  try dsimp only
  with_reducible repeat' first
    | assumption | apply State.gateDecision_stays | apply State.gatePresence_stays | apply State.journalAdd_stays
    | apply State.makeQuery_stays | split

theorem State.exitButton_stays {before s : State} (i : Nat) (hk : before.Stays s) :
    before.Stays (State.exitButton i s) := by
  unfold State.exitButton
  try dsimp only
  with_reducible repeat' first
    | assumption | apply State.journalAdd_stays | apply State.modReader_stays

theorem State.doorEvent_stays {before s : State} (i : Nat) (opened : Bool) (hk : before.Stays s) :
    before.Stays (State.doorEvent i opened s) := by
  unfold State.doorEvent
  try dsimp only
  with_reducible repeat' first
    | assumption | apply State.setReader_stays | apply State.journalAdd_stays | split

theorem State.refuseQuery_stays {before s : State} (q : Query) (d : Decision) (queried : Bool) (hk : before.Stays s) :
    before.Stays (State.refuseQuery q d queried s) := by
  unfold State.refuseQuery
  try dsimp only
  with_reducible repeat' first
    | assumption | apply State.dropQuery_stays | apply State.gateDecision_stays | apply State.journalAdd_stays
    | apply State.dispenserDecision_stays | split

theorem State.answerQuery_stays {before s : State} (q : Query) (e : CacheEntry) (notStored : Bool)
    (hk : before.Stays s) :
    before.Stays (State.answerQuery q e notStored s) := by
  unfold State.answerQuery
  try dsimp only
  with_reducible repeat' first
    | assumption | apply State.dropQuery_stays | apply State.gateDecision_stays | apply State.journalAdd_stays
    | apply State.dispenserDecision_stays | split

theorem State.failQueries_stays {before s : State} (hk : before.Stays s) : before.Stays (State.failQueries s) := by
  unfold State.failQueries
  try dsimp only
  with_reducible repeat' first
    | assumption | exact .refl _ | intro _ _ | apply State.refuseQuery_stays | apply State.stays_foldl

theorem State.queryExpiry_stays {before s : State} (r : Requester) (hk : before.Stays s) :
    before.Stays (State.queryExpiry r s) := by
  unfold State.queryExpiry
  try dsimp only
  with_reducible repeat' first
    | assumption | apply State.advanceTo_stays | apply State.refuseQuery_stays | split

theorem State.unlockFailed_stays {before s : State} (i : Nat) (hk : before.Stays s) :
    before.Stays (State.unlockFailed i s) := by
  unfold State.unlockFailed
  try dsimp only
  with_reducible repeat' first
    | assumption | apply State.journalAdd_stays | apply State.commandFailed_stays | apply State.setCache_stays
    | apply State.setReader_stays | split

theorem State.readerLost_stays {before s : State} (i : Nat) (hk : before.Stays s) :
    before.Stays (State.readerLost i s) := by
  unfold State.readerLost
  try dsimp only
  with_reducible repeat' first
    | assumption | apply State.dropQuery_stays | apply State.modReader_stays

theorem credentialFillAct_stays {before s : State} (fr : IntakeFrame) (f : CredentialFill) (hk : before.Stays s) :
    before.Stays (credentialFillAct fr f s) := by
  unfold credentialFillAct
  try dsimp only
  with_reducible repeat' first
    | assumption | exact .refl _ | intro _ _ | apply State.refuse_stays | apply State.answerQuery_stays
    | apply State.setCache_stays | apply State.gatePresence_stays | apply State.accept_stays | apply State.stays_foldl
    | split

theorem credentialUnknownAct_stays {before s : State} (fr : IntakeFrame) (t : Token) (hk : before.Stays s) :
    before.Stays (credentialUnknownAct fr t s) := by
  unfold credentialUnknownAct
  try dsimp only
  with_reducible repeat' first
    | assumption | exact .refl _ | intro _ _ | apply State.refuseQuery_stays | apply State.accept_stays
    | apply State.stays_foldl

theorem invalidateAct_stays {before s : State} (fr : IntakeFrame) (f : Invalidate) (hk : before.Stays s) :
    before.Stays (invalidateAct fr f s) := by
  unfold invalidateAct
  try dsimp only
  with_reducible repeat' first
    | assumption | apply State.setCache_stays | apply State.accept_stays
   

theorem State.send_stays {before s : State} (a : Nat) (r : Request) (bit : Bool) (c : Cycle) (hk : before.Stays s) :
    before.Stays (State.send a r bit c s) := by
  unfold State.send
  try dsimp only
  with_reducible repeat' first
    | assumption | apply State.modDevice_stays | refine State.stays_mk ?_

theorem State.sendPoll_stays {before s : State} (a : Nat) (c : Cycle) (hk : before.Stays s) :
    before.Stays (State.sendPoll a c s) := by
  unfold State.sendPoll
  try dsimp only
  with_reducible repeat' first
    | assumption | apply State.send_stays | split

theorem State.sendOutputs_stays {before s : State} (a : Nat) (c : Cycle) (hk : before.Stays s) :
    before.Stays (State.sendOutputs a c s) := by
  unfold State.sendOutputs
  try dsimp only
  with_reducible repeat' first
    | assumption | apply State.setDevice_stays | apply State.send_stays | split

theorem State.sendOneShot_stays {before s : State} (a : Nat) (c : Cycle) (hk : before.Stays s) :
    before.Stays (State.sendOneShot a c s) := by
  unfold State.sendOneShot
  try dsimp only
  with_reducible repeat' first
    | assumption | apply State.setDevice_stays | apply State.send_stays | split

theorem State.changeDevice_stays {before s : State} (a : Nat) (d : Device) (d' : Device) (hk : before.Stays s) :
    before.Stays (State.changeDevice a d d' s) := by
  unfold State.changeDevice
  try dsimp only
  with_reducible repeat' first
    | assumption | apply State.setDevice_stays | apply State.markStatus_stays | split

theorem State.pedestalGone_stays {before s : State} (a : Nat) (hk : before.Stays s) :
    before.Stays (State.pedestalGone a s) := by
  unfold State.pedestalGone
  try dsimp only
  with_reducible repeat' first
    | assumption | apply State.cutSide_stays | apply State.flushAttempts_stays | split | refine State.stays_mk ?_

theorem State.commandFailed_stays {before s : State} (d : Device) (hk : before.Stays s) :
    before.Stays (State.commandFailed d s) := by
  unfold State.commandFailed
  try dsimp only
  with_reducible repeat' first
    | assumption | apply State.unlockFailed_stays | apply State.saleCommandFailed_stays | split

theorem State.failSlot_stays {before s : State} (a : Nat) (hk : before.Stays s) :
    before.Stays (State.failSlot a s) := by
  unfold State.failSlot
  try dsimp only
  with_reducible repeat' first
    | assumption | apply State.setDevice_stays | apply State.commandFailed_stays | split

theorem State.deviceLost_stays {before s : State} (a : Nat) (d : Device) (hk : before.Stays s) :
    before.Stays (State.deviceLost a d s) := by
  unfold State.deviceLost
  try dsimp only
  with_reducible repeat' first
    | assumption | apply State.pedestalGone_stays | apply State.readerLost_stays | apply State.dropQuery_stays
    | apply State.saleLost_stays | apply State.failSlot_stays | split

theorem State.polled_stays {before s : State} (a : Nat) (hk : before.Stays s) : before.Stays (State.polled a s) := by
  unfold State.polled
  try dsimp only
  with_reducible repeat' first
    | assumption | apply State.completeRound_stays | split | refine State.stays_mk ?_

theorem State.endExchange_stays {before s : State} (hk : before.Stays s) : before.Stays (State.endExchange s) := by
  unfold State.endExchange
  try dsimp only
  with_reducible repeat' first
    | assumption | refine State.stays_mk ?_

theorem State.retryOrFail_stays {before s : State} (a : Nat) (hk : before.Stays s) :
    before.Stays (State.retryOrFail a s) := by
  unfold State.retryOrFail
  try dsimp only
  with_reducible repeat' first
    | assumption | apply State.failSlot_stays | split

theorem State.miss_stays {before s : State} (x : Exchange) (hk : before.Stays s) : before.Stays (State.miss x s) := by
  unfold State.miss
  try dsimp only
  with_reducible repeat' first
    | assumption | apply State.endExchange_stays | apply State.changeDevice_stays | apply State.deviceLost_stays
    | apply State.request_stays | apply State.retryOrFail_stays | apply State.polled_stays
    | apply State.recoveryEdges_stays | split

theorem State.sideReply_stays {before s : State} (r : SideRef) (x : SideStatus) (fresh : Bool) (plugChanged : Bool) (pressed : Bool) (wh : Option Nat) (litres : Option Nat)
    (hk : before.Stays s) :
    before.Stays (State.sideReply r x fresh plugChanged pressed wh litres s) := by
  unfold State.sideReply
  try dsimp only
  with_reducible repeat' first
    | assumption | apply State.outletReply_stays | apply State.tapReply_stays | split

theorem State.pedestalReply_stays {before s : State} (a : Nat) (d : Device) (fresh : Bool) (sa : SideStatus) (sb : SideStatus)
    (hk : before.Stays s) :
    before.Stays (State.pedestalReply a d fresh sa sb s) := by
  unfold State.pedestalReply
  try dsimp only
  with_reducible repeat' first
    | assumption | apply State.sideReply_stays | apply State.evalSide_stays | split

theorem State.gateReply_stays {before s : State} (d : Device) (fresh : Bool) (cards : Nat) (t : Token) (exits : Nat) (opened : Bool)
    (hk : before.Stays s) :
    before.Stays (State.gateReply d fresh cards t exits opened s) := by
  unfold State.gateReply
  try dsimp only
  with_reducible repeat' first
    | assumption | apply State.modReader_stays | apply State.gateCard_stays | apply State.exitButton_stays
    | apply State.doorEvent_stays | split

theorem State.dispenserStatus_stays {before s : State} (d : Device) (fresh : Bool) (cards : Nat) (t : Token) (grade : Nat) (keypad : Nat) (lifted : Bool) (volume : Nat) (t0 : Nat) (t1 : Nat)
    (hk : before.Stays s) :
    before.Stays (State.dispenserStatus d fresh cards t grade keypad lifted volume t0 t1 s) := by
  unfold State.dispenserStatus
  try dsimp only
  with_reducible repeat' first
    | assumption | apply State.totaliserReply_stays | apply State.dispenserReply_stays
    | apply State.dispenserCard_stays | split

theorem State.status_stays {before s : State} (x : Exchange) (d : Device) (st : Status) (hk : before.Stays s) :
    before.Stays (State.status x d st s) := by
  unfold State.status
  try dsimp only
  with_reducible repeat' first
    | assumption | apply State.endExchange_stays | apply State.changeDevice_stays | apply State.pedestalReply_stays
    | apply State.polled_stays | apply State.gateReply_stays | apply State.dispenserStatus_stays
    | apply State.recoveryEdges_stays | split

theorem State.imageAcked_stays {before s : State} (a : Nat) (m : Image) (hk : before.Stays s) :
    before.Stays (State.imageAcked a m s) := by
  unfold State.imageAcked
  try dsimp only
  with_reducible repeat' first
    | assumption | apply State.modDevice_stays | apply State.setCheckPoints_stays | split

theorem State.oneShotAcked_stays {before s : State} (a : Nat) (sent bit : Bool) (hk : before.Stays s) :
    before.Stays (State.oneShotAcked a sent bit s) := by
  unfold State.oneShotAcked
  try dsimp only
  with_reducible repeat' first
    | assumption | apply State.setDevice_stays | apply State.saleCommandAcked_stays | apply State.retryOrFail_stays
    | split

theorem State.ack_stays {before s : State} (x : Exchange) (d : Device) (bit : Bool) (hk : before.Stays s) :
    before.Stays (State.ack x d bit s) := by
  unfold State.ack
  try dsimp only
  with_reducible repeat' first
    | assumption | apply State.endExchange_stays | apply State.changeDevice_stays | apply State.request_stays
    | apply State.imageAcked_stays | apply State.oneShotAcked_stays | apply State.recoveryEdges_stays | split

theorem State.loadReader_stays {before s : State} (a : Nat) (old : Option Nat) (g : DeviceFields) (h : before.Stays s) :
    before.Stays (State.loadReader a old g s) := by
  unfold State.loadReader
  exact State.stays_mk h

theorem State.loadDispenser_stays {before s : State} (a : Nat) (old : Option Nat) (g : DeviceFields) (h : before.Stays s) :
    before.Stays (State.loadDispenser a old g s) := by
  unfold State.loadDispenser
  exact State.stays_mk h

theorem State.keepClass_stays {before s : State} (a : Nat) (old : Option Device) (hk : before.Stays s) :
    before.Stays (State.keepClass a old s) := by
  unfold State.keepClass
  try dsimp only
  with_reducible repeat' first
    | assumption | split | refine State.stays_mk ?_

theorem State.restartRound_stays {before s : State} (hk : before.Stays s) : before.Stays (State.restartRound s) := by
  unfold State.restartRound
  try dsimp only
  with_reducible repeat' first
    | assumption | refine State.stays_mk ?_

theorem State.loadRecord_stays {before s : State} (a : Nat) (old : Option Nat) (g : DeviceFields)
    (hk : before.Stays s) :
    before.Stays (State.loadRecord a old g s) := by
  unfold State.loadRecord
  try dsimp only
  with_reducible repeat' first
    | assumption | apply State.loadReader_stays | apply State.loadDispenser_stays | split

theorem deviceLoadAct_stays {before s : State} (fr : IntakeFrame) (f : DeviceLoad) (hk : before.Stays s) :
    before.Stays (deviceLoadAct fr f s) := by
  unfold deviceLoadAct
  try dsimp only
  with_reducible repeat' first
    | assumption | apply State.refuse_stays | apply State.setDevice_stays | apply State.loadRecord_stays
    | apply State.keepClass_stays | apply State.restartRound_stays | apply State.markStatus_stays | apply State.accept_stays | split

theorem State.deviceGone_stays {before s : State} (a : Nat) (d : Device) (hk : before.Stays s) :
    before.Stays (State.deviceGone a d s) := by
  unfold State.deviceGone
  try dsimp only
  with_reducible repeat' first
    | assumption | apply State.pedestalGone_stays | apply State.dropQuery_stays | split | refine State.stays_mk ?_

theorem deviceRemoveAct_stays {before s : State} (fr : IntakeFrame) (a : Nat) (hk : before.Stays s) :
    before.Stays (deviceRemoveAct fr a s) := by
  unfold deviceRemoveAct
  try dsimp only
  with_reducible repeat' first
    | assumption | apply State.refuse_stays | apply State.deviceGone_stays | apply State.restartRound_stays
    | apply State.markStatus_stays | apply State.recoveryEdges_stays | apply State.accept_stays | split
    | refine State.stays_mk ?_

theorem State.sendNext_stays {before s : State} (b : BusStep) (act : Cycle → State → State) (h : before.Stays s)
    (ha : ∀ c t, State.Stays t (act c t)) : before.Stays (State.sendNext b act s) := by
  unfold State.sendNext
  split
  · split
    · exact h.trans (ha _ _)
    · exact h
  · exact h

theorem State.takeStatus_stays {before s : State} (r : BusReply) (hk : before.Stays s) :
    before.Stays (State.takeStatus r s) := by
  unfold State.takeStatus
  try dsimp only
  with_reducible repeat' first
    | assumption | apply State.status_stays | split

theorem State.takeAck_stays {before s : State} (r : BusReply) (hk : before.Stays s) :
    before.Stays (State.takeAck r s) := by
  unfold State.takeAck
  try dsimp only
  with_reducible repeat' first
    | assumption | apply State.ack_stays | split

theorem State.takeBad_stays {before s : State} (r : BusReply) (hk : before.Stays s) :
    before.Stays (State.takeBad r s) := by
  unfold State.takeBad
  try dsimp only
  with_reducible repeat' first
    | assumption | apply State.miss_stays | split

theorem State.noReply_stays {before s : State} (hk : before.Stays s) : before.Stays (State.noReply s) := by
  unfold State.noReply
  try dsimp only
  with_reducible repeat' first
    | assumption | apply State.advanceTo_stays | apply State.miss_stays | split

theorem State.emptyCycle_stays {before s : State} (hk : before.Stays s) : before.Stays (State.emptyCycle s) := by
  unfold State.emptyCycle
  try dsimp only
  with_reducible repeat' first
    | assumption | split | refine State.stays_mk ?_

theorem State.chooseReport_stays {before : State} (n : Nat) {s : State} (h : before.Stays s) :
    before.Stays (State.chooseReport n s).1 := by
  induction n generalizing s with
  | zero => exact h
  | succ n ih =>
    rw [State.chooseReport]
    split
    · exact h
    · split
      · exact h
      · split
        · split
          · exact h
          · exact ih (State.modSource_stays _ _ h)
        · exact h

theorem State.afterBuild_stays {before s : State} (x : SourceId) (h : before.Stays s) :
    before.Stays (State.afterBuild x s) := by
  unfold State.afterBuild
  dsimp only
  split
  · exact State.modOutlet_stays _ _ h
  · exact State.modTap_stays _ _ h
  · split
    · exact State.mark_stays _ _ (State.stays_mk h)
    · exact State.stays_mk h
  all_goals exact h

theorem State.buildReport_stays {before s t : State} {x : SourceId} {c : Cause} {r : Report} (h : before.Stays s)
    (e : s.buildReport x c = some (r, t)) : before.Stays t := by
  unfold State.buildReport at e
  cases hb : s.bodyOf x with
  | none => rw [hb] at e; cases e
  | some b =>
    rw [hb] at e
    simp only [Option.map_some, Option.some.injEq, Prod.mk.injEq] at e
    obtain ⟨e1, e2⟩ := e
    subst e1 e2
    exact State.afterBuild_stays _ (State.modSource_stays _ _ h)

theorem State.pushOwn_stays {before s : State} (f : LocalFrame) (h : before.Stays s) :
    before.Stays (State.pushOwn f s) := by
  unfold State.pushOwn
  exact State.stays_mk h

theorem State.fillReport_stays {before s : State} (h : before.Stays s) : before.Stays (State.fillReport s) := by
  have a := State.chooseReport_stays (s.trunk.sources.length + 1) h
  unfold State.fillReport
  split
  · next t x cause e =>
    rw [e] at a
    split
    · next r u eb => exact State.pushOwn_stays _ (State.buildReport_stays a eb)
    · exact a
  · next t e => rw [e] at a; exact a

theorem State.fillSlot_stays {before s : State} (h : before.Stays s) : before.Stays (State.fillSlot s) := by
  unfold State.fillSlot
  split
  · exact h
  · split
    · exact State.enterReply_stays _ h
    all_goals
      split
      · exact State.pushOwn_stays _ (State.stays_mk h)
      · exact State.fillReport_stays h

theorem readAct_stays {before s : State} (fr : IntakeFrame) (f : ReadFields) (h : before.Stays s) :
    before.Stays (readAct fr f s) := by
  unfold readAct
  dsimp only
  repeat' first
    | with_reducible apply State.refuse_stays
    | with_reducible apply State.accept_stays
    | with_reducible assumption
    | split
  next e => exact State.buildReport_stays h e

theorem State.periodExpiry_stays {before s : State} (x : SourceId) (hk : before.Stays s) :
    before.Stays (State.periodExpiry x s) := by
  unfold State.periodExpiry
  try dsimp only
  with_reducible repeat' first
    | assumption | apply State.advanceTo_stays | apply State.modSource_stays | split

theorem State.putPort_stays {before s : State} (p : Port) (b : Bool) (hk : before.Stays s) :
    before.Stays (State.putPort p b s) := by
  unfold State.putPort
  try dsimp only
  with_reducible repeat' first
    | assumption | split | refine State.stays_mk ?_

theorem State.setPort_stays {before s : State} (p : Port) (b : Bool) (hk : before.Stays s) :
    before.Stays (State.setPort p b s) := by
  unfold State.setPort
  try dsimp only
  with_reducible repeat' first
    | assumption | apply State.putPort_stays | apply State.markStatus_stays | split

theorem State.enterLoss_stays {before s : State} (hk : before.Stays s) : before.Stays (State.enterLoss s) := by
  unfold State.enterLoss
  try dsimp only
  with_reducible repeat' first
    | assumption | apply State.failQueries_stays | apply State.markStatus_stays | split | refine State.stays_mk ?_

theorem State.heardUp_stays {before s : State} (hk : before.Stays s) : before.Stays (State.heardUp s) := by
  unfold State.heardUp
  try dsimp only
  with_reducible repeat' first
    | assumption | apply State.markStatus_stays | split | refine State.stays_mk ?_

theorem State.pushLink_stays {before s : State} (l : LinkFrame) (hk : before.Stays s) :
    before.Stays (State.pushLink l s) := by
  unfold State.pushLink
  try dsimp only
  with_reducible repeat' first
    | assumption | refine State.stays_mk ?_

theorem State.pauseCheck_stays {before s : State} (hk : before.Stays s) : before.Stays (State.pauseCheck s) := by
  unfold State.pauseCheck
  try dsimp only
  with_reducible repeat' first
    | assumption | apply State.pushLink_stays | apply State.markStatus_stays | split | refine State.stays_mk ?_

theorem State.resumeCheck_stays {before s : State} (hk : before.Stays s) : before.Stays (State.resumeCheck s) := by
  unfold State.resumeCheck
  try dsimp only
  with_reducible repeat' first
    | assumption | apply State.pushLink_stays | apply State.markStatus_stays | split | refine State.stays_mk ?_

theorem State.holdUp_stays {before s : State} (hk : before.Stays s) : before.Stays (State.holdUp s) := by
  unfold State.holdUp
  try dsimp only
  with_reducible repeat' first
    | assumption | apply State.markStatus_stays | split | refine State.stays_mk ?_

theorem State.releaseUp_stays {before s : State} (hk : before.Stays s) : before.Stays (State.releaseUp s) := by
  unfold State.releaseUp
  try dsimp only
  with_reducible repeat' first
    | assumption | apply State.markStatus_stays | split | refine State.stays_mk ?_

theorem State.noRouteFor_stays {before s : State} (f : Frame) (hk : before.Stays s) :
    before.Stays (State.noRouteFor f s) := by
  unfold State.noRouteFor
  try dsimp only
  with_reducible repeat' first
    | assumption | split | refine State.stays_mk ?_

theorem State.routeDown_stays {before s : State} (f : Frame) (h : before.Stays s) :
    before.Stays (State.routeDown f s) := by
  unfold State.routeDown
  split
  · split
    · exact h
    · exact State.noRouteFor_stays _ h
  · split
    · exact State.countDownDiscard_stays h
    · exact State.stays_mk h

theorem State.takeIn_stays {before s : State} (rx : RxFrame) (hk : before.Stays s) :
    before.Stays (State.takeIn rx s) := by
  unfold State.takeIn
  try dsimp only
  with_reducible repeat' first
    | assumption | apply State.countLocalDiscard_stays | split | refine State.stays_mk ?_

theorem State.routeUp_stays {before s : State} (rx : RxFrame) (hk : before.Stays s) :
    before.Stays (State.routeUp rx s) := by
  unfold State.routeUp
  try dsimp only
  with_reducible repeat' first
    | assumption | apply State.holdUp_stays | apply State.releaseUp_stays | apply State.countUpError_stays
    | apply State.routeDown_stays | apply State.takeIn_stays | split

theorem State.receiveUp_stays {before s : State} (rx : RxFrame) (hk : before.Stays s) :
    before.Stays (State.receiveUp rx s) := by
  unfold State.receiveUp
  try dsimp only
  with_reducible repeat' first
    | assumption | apply State.setPort_stays | apply State.heardUp_stays | apply State.routeUp_stays
    | apply State.countUpError_stays | split

theorem State.pushThru_stays {before s : State} (f : Frame) (h : before.Stays s) :
    before.Stays (State.pushThru f s) := by
  unfold State.pushThru
  split
  · exact State.countThruDiscard_stays h
  · exact State.pauseCheck_stays (State.stays_mk h)

theorem State.receiveDown_stays {before s : State} (rx : RxFrame) (hk : before.Stays s) :
    before.Stays (State.receiveDown rx s) := by
  unfold State.receiveDown
  try dsimp only
  with_reducible repeat' first
    | assumption | apply State.setPort_stays | apply State.countDownError_stays | apply State.pushThru_stays | split

theorem State.startUp_stays {before s : State} (h : before.Stays s) : before.Stays (State.startUp s) := by
  unfold State.startUp
  split
  · exact State.resumeCheck_stays (State.stays_mk h)
  · exact State.fillSlot_stays (State.stays_mk h)
  · exact h

theorem State.journalSent_stays {before s : State} (n : Nat) (gap : Bool) (h : before.Stays s) :
    before.Stays (State.journalSent n gap s) := by
  unfold State.journalSent
  dsimp only
  split
  · exact State.mark_stays _ _ (State.stays_mk h)
  · exact State.stays_mk h

theorem State.endUp_stays {before s : State} (hk : before.Stays s) : before.Stays (State.endUp s) := by
  unfold State.endUp
  try dsimp only
  with_reducible repeat' first
    | assumption | apply State.journalSent_stays | split | refine State.stays_mk ?_

theorem State.sendDown_stays {before s : State} (h : before.Stays s) : before.Stays (State.sendDown s) := by
  unfold State.sendDown
  split
  · exact State.stays_mk h
  · exact State.stays_mk h
  · exact h

theorem State.pauseUp_stays {before s : State} (hk : before.Stays s) : before.Stays (State.pauseUp s) := by
  unfold State.pauseUp
  try dsimp only
  with_reducible repeat' first
    | assumption | apply State.setPort_stays | apply State.heardUp_stays | apply State.holdUp_stays

theorem State.resumeUp_stays {before s : State} (hk : before.Stays s) : before.Stays (State.resumeUp s) := by
  unfold State.resumeUp
  try dsimp only
  with_reducible repeat' first
    | assumption | apply State.setPort_stays | apply State.heardUp_stays | apply State.releaseUp_stays

theorem State.holdExpiry_stays {before s : State} (hk : before.Stays s) : before.Stays (State.holdExpiry s) := by
  unfold State.holdExpiry
  try dsimp only
  with_reducible repeat' first
    | assumption | apply State.advanceTo_stays | apply State.releaseUp_stays | split

theorem State.repeatPause_stays {before s : State} (hk : before.Stays s) : before.Stays (State.repeatPause s) := by
  unfold State.repeatPause
  try dsimp only
  with_reducible repeat' first
    | assumption | apply State.advanceTo_stays | apply State.pushLink_stays | split | refine State.stays_mk ?_

theorem State.transmitUp_stays {before s : State} (hk : before.Stays s) : before.Stays (State.transmitUp s) := by
  unfold State.transmitUp
  try dsimp only
  with_reducible repeat' first
    | assumption | apply State.startUp_stays | split

theorem State.silenceExpiry_stays {before s : State} (hk : before.Stays s) :
    before.Stays (State.silenceExpiry s) := by
  unfold State.silenceExpiry
  try dsimp only
  with_reducible repeat' first
    | assumption | apply State.advanceTo_stays | apply State.enterLoss_stays | split

theorem State.closeAccount_stays {before s : State} (f : FrozenAccount) (hk : before.Stays s) :
    before.Stays (State.closeAccount f s) := by
  unfold State.closeAccount
  try dsimp only
  with_reducible repeat' first
    | assumption | apply State.setAccount_stays | apply State.mark_stays | split

theorem freezeAct_stays {before s : State} (fr : IntakeFrame) (u : Unit) (hk : before.Stays s) :
    before.Stays (freezeAct fr u s) := by
  unfold freezeAct
  try dsimp only
  with_reducible repeat' first
    | assumption | apply State.handOffice_stays

theorem closePeriodAct_stays {before s : State} (fr : IntakeFrame) (u : Unit) (hk : before.Stays s) :
    before.Stays (closePeriodAct fr u s) := by
  unfold closePeriodAct
  try dsimp only
  with_reducible repeat' first
    | assumption | apply State.handOffice_stays

theorem readTallyAct_stays {before s : State} (fr : IntakeFrame) (n : Nat) (hk : before.Stays s) :
    before.Stays (readTallyAct fr n s) := by
  unfold readTallyAct
  try dsimp only
  with_reducible repeat' first
    | assumption | apply State.refuse_stays | apply State.accept_stays | split

theorem State.answerOffice_stays {before s : State} (a : Answer) (hk : before.Stays s) :
    before.Stays (State.answerOffice a s) := by
  unfold State.answerOffice
  try dsimp only
  with_reducible repeat' first
    | assumption | apply State.answer_stays | split

theorem State.refuseOffice_stays {before s : State} (c : ReasonCode) (hk : before.Stays s) :
    before.Stays (State.refuseOffice c s) := by
  unfold State.refuseOffice
  try dsimp only
  with_reducible repeat' first
    | assumption | apply State.answerOffice_stays

theorem State.acceptOffice_stays {before s : State} (flags : List ReplyFlag) (r : ResultFields) (hk : before.Stays s) :
    before.Stays (State.acceptOffice flags r s) := by
  unfold State.acceptOffice
  try dsimp only
  with_reducible repeat' first
    | assumption | apply State.answerOffice_stays

theorem State.serveLoad_stays {before s : State} (f : AccountLoad) (hk : before.Stays s) :
    before.Stays (State.serveLoad f s) := by
  unfold State.serveLoad
  try dsimp only
  with_reducible repeat' first
    | assumption | apply State.refuseOffice_stays | apply State.setAccount_stays | apply State.createSource_stays
    | apply State.mark_stays | apply State.acceptOffice_stays | split

theorem State.reprioritise_stays {before s : State} (n : Nat) (p : Nat) (hk : before.Stays s) :
    before.Stays (State.reprioritise n p s) := by
  unfold State.reprioritise
  try dsimp only
  with_reducible repeat' first
    | assumption | exact .refl _ | intro _ _ | apply State.attempt_stays | apply State.stays_foldl | split
    | refine State.stays_mk ?_

theorem State.serveUpdate_stays {before s : State} (f : AccountUpdate) (hk : before.Stays s) :
    before.Stays (State.serveUpdate f s) := by
  unfold State.serveUpdate
  try dsimp only
  with_reducible repeat' first
    | assumption | apply State.refuseOffice_stays | apply State.mark_stays | apply State.reprioritise_stays
    | apply State.restand_stays | apply State.flushAttempts_stays | apply State.acceptOffice_stays | split

theorem State.serveTopUp_stays {before s : State} (f : TopUp) (hk : before.Stays s) :
    before.Stays (State.serveTopUp f s) := by
  unfold State.serveTopUp
  try dsimp only
  with_reducible repeat' first
    | assumption | apply State.refuseOffice_stays | apply State.mark_stays | apply State.restand_stays
    | apply State.acceptOffice_stays | split

theorem State.serveRemove_stays {before s : State} (n : Nat) (hk : before.Stays s) :
    before.Stays (State.serveRemove n s) := by
  unfold State.serveRemove
  try dsimp only
  with_reducible repeat' first
    | assumption | apply State.refuseOffice_stays | apply State.removeSource_stays | apply State.acceptOffice_stays
    | split | refine State.stays_mk ?_

theorem State.trimRings_stays {before s : State} (n : Nat) (hk : before.Stays s) :
    before.Stays (State.trimRings n s) := by
  unfold State.trimRings
  try dsimp only
  with_reducible repeat' first
    | assumption | refine State.stays_mk ?_

theorem State.retimeSources_stays {before s : State} (was : SegmentConfig) (hk : before.Stays s) :
    before.Stays (State.retimeSources was s) := by
  unfold State.retimeSources
  try dsimp only
  with_reducible repeat' first
    | assumption | refine State.stays_mk ?_

theorem whenChanged_stays {before s : State} (b : Bool) (act : State → State) (h : before.Stays s)
    (ha : ∀ t, State.Stays t (act t)) : before.Stays (whenChanged b act s) := by
  unfold whenChanged
  split
  · exact h.trans (ha s)
  · exact h

theorem State.configured_stays {before s : State} (was : State) (h : before.Stays s) :
    before.Stays (State.configured was s) := by
  unfold State.configured
  dsimp only
  repeat' first
    | with_reducible assumption
    | with_reducible apply whenChanged_stays
    | with_reducible apply State.retimeSources_stays
    | intro _
  all_goals first
    | exact State.testTide_stays (.refl _)
    | exact State.trimRings_stays _ (.refl _)
    | exact State.clearLocks_stays (.refl _)
    | exact State.trimCache_stays (.refl _)
    | exact State.grantPumps_stays (.refl _)
    | exact State.mark_stays _ _ (.refl _)
    | exact State.recoveryEdges_stays _ (.refl _)
    | exact State.enterLoss_stays (.refl _)

theorem State.takeUnknown_stays {before s : State} (hk : before.Stays s) : before.Stays (State.takeUnknown s) := by
  unfold State.takeUnknown
  try dsimp only
  with_reducible repeat' first
    | assumption | apply State.taken_stays | apply State.countLocalDiscard_stays | apply State.refuse_stays | split

theorem State.takeDiscard_stays {before s : State} (hk : before.Stays s) : before.Stays (State.takeDiscard s) := by
  unfold State.takeDiscard
  try dsimp only
  with_reducible repeat' first
    | assumption | apply State.taken_stays | apply State.countLocalDiscard_stays | split

theorem State.dropReports_stays {before s : State} (h : before.Stays s) : before.Stays (State.dropReports s) := by
  unfold State.dropReports
  exact State.stays_mk h

/-! ## Commands -/

/-- A unit's event keeps what its operation keeps. -/
theorem unitEvent_stays {act : State → State} {s t : State} (ha : s.Stays (act s)) (e : unitEvent act s = .next t) :
    s.Stays t := by
  unfold unitEvent at e
  split at e
  · cases e; exact State.refreshAlarm_stays ha
  · cases e; exact .refl s

/-- A trunk event keeps what its operation keeps. -/
theorem trunkEvent_stays {act : State → State} {s t : State} (ha : s.Stays (act s)) (e : trunkEvent act s = .next t) :
    s.Stays t := by
  unfold trunkEvent at e
  split at e
  · cases e; exact State.refreshActive_stays ha
  · cases e; exact .refl s

/-- A local command keeps what its owning block's act keeps. -/
theorem localCommand_stays {α : Type} {type : Byte} {mk : α → LocalBody} {f : Form α}
    {act : IntakeFrame → α → State → State} {s t : State} (ha : ∀ fr a u, State.Stays u (act fr a u))
    (e : localCommand type mk f act s = .next t) : s.Stays t := by
  unfold localCommand at e
  split at e
  · cases e; exact State.refreshAlarm_stays (handleLocal_stays _ _ _ ha (State.taken_stays _ (.refl s)))
  · cases e; exact .refl s

/-- Every other command leaves it. -/
theorem exec_stays {c : Sys2Proof.Instr} {s t : State} (h : settingCommand c = false) (e : exec c s = .next t) :
    s.Stays t := by
  cases c with
  | powerOn => cases h
  | resetAsserted => cases h
  | resetReleased => cases h
  | startupComplete => cases h
  | upFrameReceived rx => cases e; exact State.refreshActive_stays (State.receiveUp_stays _ (.refl s))
  | downFrameReceived rx => cases e; exact State.receiveDown_stays _ (.refl s)
  | pauseReceived => exact trunkEvent_stays (State.pauseUp_stays (.refl s)) e
  | resumeReceived => exact trunkEvent_stays (State.resumeUp_stays (.refl s)) e
  | upstreamHoldExpiry => exact trunkEvent_stays (State.holdExpiry_stays (.refl s)) e
  | pauseRepeat => exact trunkEvent_stays (State.repeatPause_stays (.refl s)) e
  | portDisconnected p => cases e; exact State.setPort_stays _ _ (.refl s)
  | portConnected p => cases e; exact State.setPort_stays _ _ (.refl s)
  | upstreamTransmit => exact trunkEvent_stays (State.transmitUp_stays (.refl s)) e
  | upstreamFrameSent => exact trunkEvent_stays (State.endUp_stays (.refl s)) e
  | downTransmit => exact trunkEvent_stays (State.sendDown_stays (.refl s)) e
  | localSlotFill => exact unitEvent_stays (State.fillSlot_stays (.refl s)) e
  | periodTimerExpiry => exact unitEvent_stays (State.periodExpiry_stays _ (.refl s)) e
  | upstreamSilenceExpiry => exact unitEvent_stays (State.silenceExpiry_stays (.refl s)) e
  | unknownType => exact unitEvent_stays (State.takeUnknown_stays (.refl s)) e
  | broadcastDiscard => exact unitEvent_stays (State.takeDiscard_stays (.refl s)) e
  | segmentConfig => cases h
  | time => cases h
  | tide => cases h
  | restart => cases h
  | read => exact localCommand_stays (fun fr a u => readAct_stays fr a (.refl u)) e
  | berthLoad => exact localCommand_stays (fun fr a u => berthLoadAct_stays fr a (.refl u)) e
  | berthRead => exact localCommand_stays (fun fr a u => berthReadAct_stays fr a (.refl u)) e
  | openBerth => exact localCommand_stays (fun fr a u => openBerthAct_stays fr a (.refl u)) e
  | closeBerth => exact localCommand_stays (fun fr a u => closeBerthAct_stays fr a (.refl u)) e
  | book => exact localCommand_stays (fun fr a u => bookAct_stays fr a (.refl u)) e
  | allocate => exact localCommand_stays (fun fr a u => allocateAct_stays fr a (.refl u)) e
  | confirm => exact localCommand_stays (fun fr a u => confirmAct_stays fr a (.refl u)) e
  | decline => exact localCommand_stays (fun fr a u => declineAct_stays fr a (.refl u)) e
  | depart => exact localCommand_stays (fun fr a u => departAct_stays fr a (.refl u)) e
  | offerTimerExpiry => exact unitEvent_stays (State.offerExpiry_stays _ (.refl s)) e
  | secondTick => cases h
  | noShowExpiry => exact unitEvent_stays (State.noShowTest_stays _ (.refl s)) e
  | tideStaleExpiry => exact unitEvent_stays (State.tideExpiry_stays (.refl s)) e
  | accountLoad => exact localCommand_stays (fun fr a u => accountLoadAct_stays fr a (.refl u)) e
  | accountUpdate => exact localCommand_stays (fun fr a u => accountUpdateAct_stays fr a (.refl u)) e
  | topUp => exact localCommand_stays (fun fr a u => topUpAct_stays fr a (.refl u)) e
  | accountRemove => exact localCommand_stays (fun fr a u => accountRemoveAct_stays fr a (.refl u)) e
  | accountRead => exact localCommand_stays (fun fr a u => accountReadAct_stays fr a (.refl u)) e
  | tariffLoad => exact localCommand_stays (fun fr a u => tariffLoadAct_stays fr a (.refl u)) e
  | officeOperation => cases h
  | powerPosting => exact unitEvent_stays (State.servePosting_stays _ (.refl s)) e
  | waterPosting => exact unitEvent_stays (State.servePosting_stays _ (.refl s)) e
  | holdServed => exact unitEvent_stays (State.grantFuel_stays _ (.refl s)) e
  | releaseServed => exact unitEvent_stays (State.grantFuel_stays _ (.refl s)) e
  | settleServed => exact unitEvent_stays (State.grantFuel_stays _ (.refl s)) e
  | outletLoad => exact localCommand_stays (fun fr a u => outletLoadAct_stays fr a (.refl u)) e
  | feederLoad => exact localCommand_stays (fun fr a u => feederLoadAct_stays fr a (.refl u)) e
  | protectionLoad => cases h
  | forceOff => exact localCommand_stays (fun fr a u => lockAct_stays _ fr a (.refl u)) e
  | releaseForce => exact localCommand_stays (fun fr a u => lockAct_stays _ fr a (.refl u)) e
  | serviceHold => cases h
  | serviceRelease => cases h
  | clearFault => exact localCommand_stays (fun fr a u => clearFaultAct_stays fr a (.refl u)) e
  | returnToService => exact localCommand_stays (fun fr a u => returnToServiceAct_stays fr a (.refl u)) e
  | tapLoad => exact localCommand_stays (fun fr a u => tapLoadAct_stays fr a (.refl u)) e
  | waterSuspend => cases h
  | waterResume => cases h
  | deviceLoad => exact localCommand_stays (fun fr a u => deviceLoadAct_stays fr a (.refl u)) e
  | deviceRemove => exact localCommand_stays (fun fr a u => deviceRemoveAct_stays fr a (.refl u)) e
  | credentialFill => exact localCommand_stays (fun fr a u => credentialFillAct_stays fr a (.refl u)) e
  | credentialUnknown => exact localCommand_stays (fun fr a u => credentialUnknownAct_stays fr a (.refl u)) e
  | invalidate => exact localCommand_stays (fun fr a u => invalidateAct_stays fr a (.refl u)) e
  | authoriseSale => exact localCommand_stays (fun fr a u => authoriseSaleAct_stays fr a (.refl u)) e
  | stopSale => exact localCommand_stays (fun fr a u => stopSaleAct_stays fr a (.refl u)) e
  | takeSale => exact localCommand_stays (fun fr a u => takeSaleAct_stays fr a (.refl u)) e
  | tankSet => exact localCommand_stays (fun fr a u => tankSetAct_stays fr a (.refl u)) e
  | tankAdd => exact localCommand_stays (fun fr a u => tankAddAct_stays fr a (.refl u)) e
  | freeze => exact localCommand_stays (fun fr a u => freezeAct_stays fr a (.refl u)) e
  | freezeRelease => cases h
  | closePeriod => exact localCommand_stays (fun fr a u => closePeriodAct_stays fr a (.refl u)) e
  | readTally => exact localCommand_stays (fun fr a u => readTallyAct_stays fr a (.refl u)) e
  | freezeAutoRelease => cases h
  | poll => exact unitEvent_stays (State.sendNext_stays _ _ (.refl s) fun c u => State.sendPoll_stays _ c (.refl u)) e
  | setOutputs => exact unitEvent_stays (State.sendNext_stays _ _ (.refl s) fun c u => State.sendOutputs_stays _ c (.refl u)) e
  | oneShotTransmit => exact unitEvent_stays (State.sendNext_stays _ _ (.refl s) fun c u => State.sendOneShot_stays _ c (.refl u)) e
  | statusReply => exact unitEvent_stays (State.takeStatus_stays _ (.refl s)) e
  | ackReceived => exact unitEvent_stays (State.takeAck_stays _ (.refl s)) e
  | replyTimeout => exact unitEvent_stays (State.noReply_stays (.refl s)) e
  | badReply => exact unitEvent_stays (State.takeBad_stays _ (.refl s)) e
  | stuckMeterDetect => exact unitEvent_stays (State.stuckDetect_stays _ (.refl s)) e
  | dispensePeriodExpiry => exact unitEvent_stays (State.dispenseExpiry_stays _ (.refl s)) e
  | leakDisagreeExpiry => exact unitEvent_stays (State.disagreeExpiry_stays _ (.refl s)) e
  | recoveryTimerExpiry => exact unitEvent_stays (State.timeRecovery_stays _ _ _ (.refl s)) e
  | leakSettleEnd => exact unitEvent_stays (State.settleExpiry_stays _ (.refl s)) e
  | queryTimeout => exact unitEvent_stays (State.queryExpiry_stays _ (.refl s)) e
  | nozzleTimeout => exact unitEvent_stays (State.nozzleExpiry_stays _ (.refl s)) e
  | cycleWithNothingToSend => exact unitEvent_stays (State.emptyCycle_stays (.refl s)) e

end Sys2Proof.Machine
end

