-- ==== Sys2Proof/Tests/Slice0.lean ====
section
/-! SUPPORT. Tests: ill-formed commands are refused; the hypotheses of every statement are met by concrete states, clause
by clause; and one step of each family on a small marina. -/

namespace Sys2Proof.Tests

open Sys2Proof Sys2Proof.Machine Sys2Proof.Claim

set_option Elab.async false
set_option maxRecDepth 8192

/-! ## A small marina -/

/-- An active part past its start-up. -/
def base : State := { State.reset with
  phase := .running, straps := ⟨5, false, false⟩, outlet := { OutletUnit.start with raw := State.reset.conditions } }

/-- A vessel. -/
def yacht : Vessel := ⟨100, 30, 200, 16⟩

/-- Berth 48 in a state, with a service side and an account. -/
def berthIn (st : BerthState) : Berth :=
  ⟨7, .visitor, 120, 40, 300, some ⟨9, .a⟩, st, some 7, some yacht, some 5000, some 40, .loaded⟩

/-- An account record. -/
def member : Account := ⟨1, 2, 5000, 1000, 500, 0, false, false, .good, 5000, 0, 0, 0, 0⟩

/-- A fault record with nothing set. -/
def sound : FaultRecord := ⟨KindMap.all false, KindMap.all none, [], none, 0, none, 0, false, none, false⟩

/-- Outlet 48 in a state. -/
def outletIn (st : OutletState) : Outlet :=
  { address := 9, side := .a, rating := 160, feeder := 3, state := st, reason := .loaded, lock := false, plug := .present
    readback := .opened, current := 0, leakA := false, leakB := false, breaker := false, reservation := none
    session := none, waiting := [], ends := [], endsDropped := false, fault := sound }

/-- An outlet or tap session. -/
def visit : Session := ⟨7, some 3, 100, 20, 640, 4, 0⟩

/-- Feeder 3. -/
def feeder3 : Feeder := ⟨400, 80, 350, 300, [], none, false, none⟩

/-- Tap 48 in a state. -/
def tapIn (st : TapState) : Tap :=
  { address := 9, side := .a, state := st, reason := .loaded, readback := .unknown, lastClose := 0, settleEnd := some 9000
    watchSum := 0, outOfService := false, session := none, waiting := [], ends := [], endsDropped := false
    fault := sound }

/-- Outputs at rest. -/
def dark : Image := ⟨⟨false, false, .dark⟩, ⟨false, false, .dark⟩⟩

/-- A device of a kind in a state, of index 3. -/
def deviceIn (k : DeviceKind) (st : DeviceState) : Device :=
  { kind := k, pollClass := .fast, watch := watchable k, index := if k = .pedestal then 0 else 3, state := st, misses := 0
    stored := none, energyA := none, energyB := none, litresA := none, litresB := none, total0 := none, total1 := none
    desired := dark, lastSent := some dark, lastTransmitted := some dark, acked := some dark, differSince := none
    sequence := false, slot := none, lastAddressed := none }

/-- A sale of account 7 at dispenser 3. -/
def sale7 : Sale :=
  ⟨none, 3, 0, some 7, none, 150, 2000, 0, 1333, 0, none, false, false, false, none, none⟩

/-- Dispenser 3 in a state, with a sale. -/
def dispenserIn (st : SaleState) (x : Option Sale) : Dispenser :=
  ⟨11, true, false, st, none, x, .hung, 0, none, none, some 700, false, false⟩

/-- Reader 3. -/
def reader3 : Reader := ⟨12, .entry, none, none, .closed, none⟩

/-- A cache entry of account 7. -/
def pass7 : CacheEntry := ⟨2, false, .visitor, some 7, none, true, .outside⟩

/-- The marina: account 7 in berth 48, its outlet and tap on pedestal 9, dispenser 3 at 11, reader 3 at 12. -/
def marina : State := { base with
  berth := { base.berth with berths := [(48, berthIn .occupied)] }
  charge := { base.charge with accounts := [(7, member)] }
  outlet := { base.outlet with outlets := [(48, outletIn .off)], feeders := [(3, feeder3)], serviceHold := false }
  tap := { base.tap with taps := [(48, tapIn .closed)] }
  fuel := { base.fuel with dispensers := [(3, dispenserIn .idle none)], tank0 := ⟨9000, 100, false⟩ }
  gate := { base.gate with readers := [(3, reader3)], cache := [(44, pass7)] }
  bus := { base.bus with devices :=
    [(9, deviceIn .pedestal .online), (11, deviceIn .dispenser .online), (12, deviceIn .gate .online)] } }

/-- The marina with berth 48 in a state. -/
def withBerth (st : BerthState) : State :=
  { marina with berth := { marina.berth with berths := [(48, berthIn st)] } }

/-- The marina with outlet 48 as given. -/
def withOutlet (o : Outlet) : State := { marina with outlet := { marina.outlet with outlets := [(48, o)] } }

/-- The marina with tap 48 as given. -/
def withTap (t : Tap) : State := { marina with tap := { marina.tap with taps := [(48, t)] } }

/-- The marina with dispenser 3 as given. -/
def withDispenser (d : Dispenser) : State :=
  { marina with fuel := { marina.fuel with dispensers := [(3, d)] } }

/-- The marina with work at the charge engine. -/
def withCharge (f : ChargeEngine → ChargeEngine) : State := { marina with charge := f marina.charge }

/-- A frame the management unit waits with for OFFICE. -/
def office : IntakeFrame := ⟨false, 0x22, 7, none⟩

/-- The marina with OFFICE work, the management unit waiting for it. -/
def withOffice (op : OfficeOp) (s : State) : State :=
  { s with mgmt := { s.mgmt with work := .office office }, charge := { s.charge with office := [op], lastGranted := .fuel } }

/-- The marina with the trunk unit changed. -/
def withTrunk (f : TrunkUnit → TrunkUnit) : State := { marina with trunk := f marina.trunk }

/-- The frame that brings a local command, addressed. -/
def note (c : Instr) : IntakeFrame :=
  match frameOf c with
  | some (t, b) => ⟨false, t, 7, b⟩
  | none => ⟨false, 0, 0, none⟩

/-- A state whose intake holds that frame. -/
def told (c : Instr) (s : State) : State := { s with trunk := { s.trunk with intake := some (note c) } }

/-- Whether a state takes a command that arrives with its fields. -/
def openTo (c : Instr) (s : State) : Bool :=
  ((frameOf c).bind fun p => p.2).isSome && s.active && decide (s.mgmt.work = .idle)

/-- A command arrives with its fields in a state that takes it and satisfies a property. -/
def Meets (c : Instr) (s : State) (p : State → Prop) : Prop := takes c (note c) (told c s) ∧ p (told c s)

theorem takes_told {c : Instr} {s : State} (h : openTo c s = true) : takes c (note c) (told c s) := by
  unfold openTo at h
  simp only [Bool.and_eq_true, decide_eq_true_eq] at h
  obtain ⟨⟨hb, ha⟩, hw⟩ := h
  cases e : frameOf c with
  | none => rw [e] at hb; cases hb
  | some p =>
    obtain ⟨t, b⟩ := p
    cases b with
    | none => rw [e] at hb; cases hb
    | some b => refine ⟨t, b, e, ha, hw, rfl, ?_, ?_, ?_⟩ <;> simp [note, e]

theorem meets {c : Instr} {s : State} {p : State → Prop} (h : openTo c s = true) (hp : p (told c s)) : Meets c s p :=
  ⟨takes_told h, hp⟩

theorem get_single {α : Type} {a b : Nat} {d x : α} (h : Table.get [(a, d)] b = some x) : b = a ∧ x = d := by
  simp only [Table.get] at h
  split at h
  · exact ⟨Eq.symm ‹_›, (Option.some.inj h).symm⟩
  · cases h

/-- What a command leaves, where it answers a next state. -/
def after (c : Instr) (s : State) : Option State :=
  match exec c s with
  | .next t => some t
  | _ => none

/-- The answers in the LOCAL queue. -/
def answers (s : State) : List Answer := s.trunk.own.filterMap fun e =>
  match e.frame with
  | .reply r => some r.answer
  | _ => none

/-- The answers a local command leaves in the LOCAL queue. -/
def reply (c : Instr) (s : State) : Option (List Answer) := (after c (told c s)).map answers

/-! ## Ill-formed commands -/

/-- A trunk frame with a payload of 256 bytes. -/
def longFrame : RxFrame := ⟨⟨5, 0, 1, 0, List.replicate 256 0⟩, 0, 0, none⟩

/-- A trunk frame whose reading is as given. -/
def readAs (b : LocalBody) : RxFrame := ⟨⟨5, 0, 1, 0, []⟩, 0, 0, some b⟩

/-- A bus frame with a payload of 256 bytes. -/
def longReply : BusReply := ⟨9, 0x81, 0, 0, List.replicate 256 0, 0⟩

/-- An ALLOCATE whose class mask names a class twice. -/
def twiceAllocate : Allocate := ⟨7, yacht, false, some (.known [.fuel, .fuel])⟩

/-- A DEVICE LOAD whose watch mask names a field twice. -/
def twiceDevice : DeviceLoad := ⟨9, .known .pedestal, none, some [.plugA, .plugA], none, none, false, false⟩

theorem test_wf_refuses_long_frames :
    Instr.wf (.upFrameReceived longFrame) = false ∧ Instr.wf (.downFrameReceived longFrame) = false ∧
    Instr.wf (.statusReply longReply) = false ∧ Instr.wf (.ackReceived longReply) = false ∧
    Instr.wf (.badReply longReply) = false := by decide

theorem test_wf_refuses_masks_that_name_a_thing_twice :
    Instr.wf (.allocate (.fields twiceAllocate)) = false ∧ Instr.wf (.deviceLoad (.fields twiceDevice)) = false ∧
    Instr.wf (.upFrameReceived (readAs (.allocate twiceAllocate))) = false ∧
    Instr.wf (.upFrameReceived (readAs (.deviceLoad twiceDevice))) = false := by decide

theorem test_wf_refuses_indices_out_of_range :
    Instr.wf (.offerTimerExpiry 0) = false ∧ Instr.wf (.noShowExpiry 49) = false ∧
    Instr.wf (.stuckMeterDetect 0) = false ∧ Instr.wf (.dispensePeriodExpiry 49) = false ∧
    Instr.wf (.leakDisagreeExpiry 0) = false ∧ Instr.wf (.leakSettleEnd 49) = false ∧
    Instr.wf (.recoveryTimerExpiry .outlet 0 .meter) = false ∧
    Instr.wf (.recoveryTimerExpiry .outlet 1 .valve) = false ∧
    Instr.wf (.recoveryTimerExpiry .tap 1 .overcurrent) = false ∧ Instr.wf (.nozzleTimeout 4) = false ∧
    Instr.wf (.queryTimeout (.gate 4)) = false ∧ Instr.wf (.queryTimeout (.dispenser 4)) = false := by decide

theorem test_wf_refuses_addresses_and_sources_out_of_range :
    Instr.wf (.poll 0) = false ∧ Instr.wf (.setOutputs 127) = false ∧ Instr.wf (.oneShotTransmit 127) = false ∧
    Instr.wf (.periodTimerExpiry ⟨.berth, 0⟩) = false ∧ Instr.wf (.periodTimerExpiry ⟨.account, 16777216⟩) = false ∧
    Instr.wf (.periodTimerExpiry ⟨.feeder, 4⟩) = false ∧ Instr.wf (.periodTimerExpiry ⟨.query, 8⟩) = false ∧
    Instr.wf (.periodTimerExpiry ⟨.journal, 1⟩) = false := by decide

theorem test_wf_takes_commands_in_range :
    Instr.wf (.offerTimerExpiry 48) = true ∧ Instr.wf (.poll 126) = true ∧ Instr.wf (.nozzleTimeout 3) = true ∧
    Instr.wf (.recoveryTimerExpiry .tap 48 .valve) = true ∧ Instr.wf (.periodTimerExpiry ⟨.query, 7⟩) = true := by
  decide

theorem test_no_word_spells_a_command : decodeTableWord 0 0 = none ∧ decodeTableWord 8 255 = none := by decide

/-! ## Hypotheses met: the machine as a whole -/

theorem test_hyp_StepRunsTheFrontCommandOrIdles :
    ({ base with pending := [.resetAsserted] } : State).pending = .resetAsserted :: [] ∧ base.pending = [] := by decide

theorem test_hyp_CommandsAnswerNextAndNeedAnActivePart :
    portCommand .secondTick = false ∧ State.reset.active = false ∧
    ({ base with straps := ⟨63, false, false⟩ } : State).active = false := by decide

theorem test_hyp_CommandsLeaveSettingsAlone :
    settingCommand .localSlotFill = false ∧ exec .localSlotFill State.reset = .next State.reset :=
  ⟨rfl, rfl⟩

theorem test_hyp_invariants :
    (base.active = true ∧ base.outlet.raw = base.conditions) ∧ State.reset.phase = .held ∧
    (⟨0, false, false⟩ : Straps).seg = State.reset.straps.seg ∧ State.reset.transparent = true := by decide

theorem test_hyp_PowerAndResetPin :
    State.reset.phase = .held ∧ base.phase ≠ .held := by decide

theorem test_hyp_StartupCompletes :
    let starting : State := { State.reset with phase := .startUp, straps := ⟨62, false, false⟩ }
    starting.phase = .startUp ∧ starting.transparent = false ∧
    ({ starting with straps := ⟨63, false, false⟩ } : State).transparent = true ∧
    starting.trunk.sources.get (sourceKey ⟨.status, 0⟩) ≠ none ∧
    (starting.berth = BerthUnit.start ∧ starting.outlet = OutletUnit.start ∧ starting.tap = TapUnit.start ∧
      starting.fuel = FuelUnit.start ∧ starting.bus = BusController.start ∧ starting.trunk.lost = false ∧
      starting.mgmt.timeValid = false) := by decide

/-- The head of a NO_ROUTE of segment 5. -/
def head5 : FrameHead := ⟨63, 5, 0xF2, 1⟩

/-- The marina with a LOCAL queue of a length. -/
def queued (n : Nat) (s : State) : State :=
  { s with trunk := { s.trunk with own := List.replicate n ⟨head5, .noRoute 1 2 3, 0⟩ } }

theorem test_hyp_LocalFrameCountedAndAnswered :
    (note (.openBerth (.fields 48))).broadcast = false ∧ (queued 15 base).trunk.own.length < 16 ∧
    16 ≤ (queued 16 base).trunk.own.length := by decide

/-- The marina with an intake as given. -/
def withIntake (fr : IntakeFrame) : State := { base with trunk := { base.trunk with intake := some fr } }

theorem test_hyp_FramesNotActedOnAreRefusedOrDiscarded :
    (frameOf (.time .badLength) = some (0x02, none) ∧
      ready 0x02 none ⟨true, 0x02, 7, none⟩ (withIntake ⟨true, 0x02, 7, none⟩)) ∧
    (frameOf (.restart (.fields ())) = some (0x04, some .restart) ∧ (0x04 : Byte) ∉ broadcastTypes ∧
      (withIntake ⟨true, 0x04, 7, some .restart⟩).active = true ∧
      (withIntake ⟨true, 0x04, 7, some .restart⟩).mgmt.work = .idle) ∧
    (0x60 : Byte) ∉ catalogue ∧ (0x60 : Byte) ∉ broadcastTypes := by decide

/-! ## Hypotheses met: configuration, clock and restart -/

theorem not_outside {x : ConfigItem} {lo hi : Int}
    (hr : ∀ r ∈ fieldRanges, r.1 = x.field → r.2 = (lo, hi)) (hx : lo ≤ x.value ∧ x.value ≤ hi) : ¬outside [x] := by
  rintro ⟨y, hy, lo', hi', hm, ho⟩
  obtain rfl := List.mem_singleton.1 hy
  have := hr _ hm rfl
  simp only [Prod.mk.injEq] at this
  omega

/-- A marina whose override, cacheable range and clock-bound settings are as a frame below changes them. -/
def tuned (f : SegmentConfig → SegmentConfig) : State :=
  { marina with mgmt := { marina.mgmt with config := f marina.mgmt.config } }

theorem test_hyp_SegmentConfigIsClampedStoredOrRefused :
    let c := SegmentConfig.defaults
    let lower : SegmentConfig := { c with silenceLimit := 4 }
    let high : ConfigItem := ⟨1, 0, 3601⟩
    let edge : ConfigItem := ⟨36, 10, 3600⟩
    Meets (.segmentConfig (.fields [high])) base (fun s => configFits s.mgmt.config [high] ∧ outside [high]) ∧
    Meets (.segmentConfig (.fields [edge])) base (fun s => configFits s.mgmt.config [edge] ∧ ¬outside [edge]) ∧
    Meets (.segmentConfig (.fields [⟨37, 0, 1⟩])) base (fun s => ¬configFits s.mgmt.config [⟨37, 0, 1⟩]) ∧
    Meets (.segmentConfig (.fields [⟨20, 0, 3⟩])) base (fun s => ¬configFits s.mgmt.config [⟨20, 0, 3⟩]) ∧
    Meets (.segmentConfig (.fields [high, high])) base (fun s => ¬configFits s.mgmt.config [high, high]) ∧
    Meets (.segmentConfig (.fields [⟨22, 0, 4⟩, ⟨21, 0, 5⟩])) base
      (fun s => ¬configFits s.mgmt.config [⟨22, 0, 4⟩, ⟨21, 0, 5⟩]) ∧
    (ReportClass.ofCode 1 = some .berth ∧ ReportClass.ofCode 10 = some .status) ∧
    ((tuned fun c => { c with outletOverride := true }).mgmt.config.outletOverride = true ∧ c.outletOverride = false) ∧
    (marina.trunk.lost = false ∧ lower.silenceLimit < marina.mgmt.config.silenceLimit ∧
      marina.trunk.silenceFrom + 4 * 1000 ≤ ({ marina with now := 4000 } : State).now ∧
      ¬marina.trunk.silenceFrom + 4 * 1000 ≤ ({ marina with now := 3999 } : State).now) ∧
    marina.source ⟨.alarm, 0⟩ ≠ none ∧
    (timed { c with modes := ClassMap.all .periodic } .query = false ∧
      timed { c with modes := ClassMap.all .periodic } .journal = true ∧ timed c .journal = false) := by
  have hit (x : ConfigItem) (h : (∃ r, (x.field, r) ∈ fieldRanges) ∨ ∃ n, (x.field, n) ∈ fieldLists ∧ 0 ≤ x.value ∧ x.value < n)
      (hc : byClass x.field → 1 ≤ x.cls ∧ x.cls ≤ 10) (l : (base.mgmt.config.writeAll [x]).cacheLow ≤
        (base.mgmt.config.writeAll [x]).cacheHigh) : configFits base.mgmt.config [x] :=
    ⟨fun y hy => (List.mem_singleton.1 hy) ▸ ⟨h, hc⟩, List.pairwise_singleton _ _, l⟩
  refine ⟨meets rfl ⟨hit _ (.inl ⟨(30, 3600), by decide⟩) (fun h => by rcases h with h | h <;> cases h) (by decide), ?_⟩,
    meets rfl ⟨hit _ (.inl ⟨(1, 3600), by decide⟩) (fun _ => by decide) (by decide), ?_⟩, meets rfl ?_, meets rfl ?_,
    meets rfl ?_, meets rfl ?_, by decide, by decide, by decide, by decide, by decide⟩
  · exact ⟨_, List.mem_singleton_self _, 30, 3600, by decide, .inr (by decide)⟩
  · exact not_outside (lo := 1) (hi := 3600) (by decide) (by decide)
  · intro h
    rcases (h.1 _ (List.mem_singleton_self _)).1 with ⟨r, h⟩ | ⟨n, h, -⟩
    · have : ∀ q ∈ fieldRanges, q.1 ≠ 37 := by decide
      exact this _ h rfl
    · have : ∀ q ∈ fieldLists, q.1 ≠ 37 := by decide
      exact this _ h rfl
  · intro h
    rcases (h.1 _ (List.mem_singleton_self _)).1 with ⟨r, h⟩ | ⟨n, h, -, hn⟩
    · have : ∀ q ∈ fieldRanges, q.1 ≠ 20 := by decide
      exact this _ h rfl
    · have : ∀ q ∈ fieldLists, q.1 = 20 → q.2 = 3 := by decide
      have := this _ h rfl
      simp only at this hn
      omega
  · intro h
    exact List.rel_of_pairwise_cons h.2.1 (List.mem_singleton_self _) ⟨rfl, fun h => by rcases h with h | h <;> cases h⟩
  · intro h
    exact absurd h.2.2 (by decide)

theorem test_hyp_ClockIsSetAndAdvances :
    Meets (.time (.fields 0xFFFFFFFF)) base (fun _ => True) ∧
    (base.active = true ∧ base.mgmt.timeValid = false) ∧
    ({ base with mgmt := { base.mgmt with timeValid := true, clock := 0xFFFFFFFF } } : State).mgmt.timeValid = true :=
  ⟨meets rfl trivial, by decide⟩

theorem test_hyp_RestartEndsWhatIsInProgress :
    let c : Instr := .restart (.fields ())
    let cash : Sale := { sale7 with account := none }
    let open48 : Tap := { tapIn .opened with session := some visit }
    let shed48 : Outlet := { outletIn (.waiting true) with session := some visit }
    let quiet (s : State) : Prop := s.charge.office.any OfficeOp.isRestart = false
    Meets c (withTap open48) (fun s => quiet s ∧ s.tap.taps.get 48 = some open48 ∧ open48.session ≠ none) ∧
    Meets c (withTap { tapIn .locked with outOfService := true })
      (fun s => quiet s ∧ ({ tapIn .locked with outOfService := true } : Tap).state = .locked) ∧
    Meets c (withOutlet shed48) (fun s => quiet s ∧ s.outlet.outlets.get 48 = some shed48 ∧ shed48.session ≠ none) ∧
    Meets c (withDispenser (dispenserIn .cardWait none)) (fun s => quiet s) ∧
    Meets c (withDispenser (dispenserIn .waitPump (some { sale7 with hold := 1 })))
      (fun s => quiet s ∧ sale7.account = some 7) ∧
    Meets c (withDispenser (dispenserIn .holding (some sale7))) (fun s => quiet s ∧ sale7.hold = 0) ∧
    Meets c (withDispenser (dispenserIn .authorised (some cash))) (fun s => quiet s ∧ cash.account = none) ∧
    Meets c (withDispenser (dispenserIn .delivering (some sale7)))
      (fun s => quiet s ∧ s.fuel.dispensers.get 3 = some (dispenserIn .delivering (some sale7))) ∧
    Meets c marina (fun s => quiet s ∧ s.trunk.sources ≠ []) ∧
    Meets c marina (fun s => quiet s ∧ ∀ i d, s.fuel.dispensers.get i = some d → d.state ≠ .authorised ∧ d.state ≠ .delivering) ∧
    Meets (.restart (.fields ())) (withCharge fun c => { c with office := [.restartStep ⟨3, 7, .release 10⟩] })
      (fun s => s.charge.office.any OfficeOp.isRestart = true) := by
  have rest (i : Nat) (d : Dispenser) (h : Table.get [(3, dispenserIn .idle none)] i = some d) :
      d.state ≠ .authorised ∧ d.state ≠ .delivering := by
    obtain ⟨-, rfl⟩ := get_single h
    decide
  refine ⟨meets rfl ?_, meets rfl ?_, meets rfl ?_, meets rfl ?_, meets rfl ?_, meets rfl ?_, meets rfl ?_, meets rfl ?_,
    meets rfl ?_, meets rfl ⟨rfl, rest⟩, meets rfl ?_⟩ <;> decide

/-! ## Hypotheses met: berths and tide -/

/-- A BERTH LOAD of berth 48. -/
def berth48 : BerthLoad := ⟨48, 7, .known .fuel, 600, 10, 1500, some ⟨126, .known .b⟩⟩

theorem test_hyp_BerthLoadStoresABerth :
    (∀ cls service, ¬berthRange { berth48 with index := 49 } cls service) ∧
    berthRange berth48 .fuel (some ⟨126, .b⟩) ∧
    Meets (.berthLoad (.fields berth48)) base (fun s => s.berth.berths.get 48 = none) ∧
    Meets (.berthLoad (.fields { berth48 with index := 1, service := some ⟨9, .known .a⟩ })) marina
      (fun s => ∃ p ∈ s.berth.berths, p.1 ≠ 1 ∧ p.2.service = some ⟨9, .a⟩) ∧
    Meets (.berthLoad (.fields berth48)) (withBerth .held)
      (fun s => s.berth.berths.get 48 = some (berthIn .held) ∧ (berthIn .held).cls ≠ .fuel) ∧
    Meets (.berthLoad (.fields berth48)) (withBerth .free)
      (fun s => s.berth.berths.get 48 = some (berthIn .free)) := by
  refine ⟨fun c r h => absurd h.2.1 (by decide), ⟨by decide, by decide, rfl, by decide, by decide, by decide, by decide,
    by decide, .inr ⟨_, _, rfl, rfl, by decide, by decide, rfl⟩⟩, meets rfl ?_, meets rfl ?_, meets rfl ?_, meets rfl ?_⟩
    <;> decide

theorem test_hyp_BerthReadReturnsTheBerth :
    Meets (.berthRead (.fields 49)) marina (fun _ => ¬(1 ≤ 49 ∧ 49 ≤ 48)) ∧
    Meets (.berthRead (.fields 1)) marina (fun s => s.berth.berths.get 1 = none) ∧
    Meets (.berthRead (.fields 48)) marina (fun s => s.berth.berths.get 48 = some (berthIn .occupied)) := by
  refine ⟨meets rfl ?_, meets rfl ?_, meets rfl ?_⟩ <;> decide

theorem test_hyp_BerthsAreOpenedClosedAndFreed :
    Meets (.openBerth (.fields 48)) (withBerth .closed)
      (fun s => s.berth.berths.get 48 = some (berthIn .closed)) ∧
    Meets (.closeBerth (.fields 48)) (withBerth .free) (fun s => s.berth.berths.get 48 = some (berthIn .free)) ∧
    Meets (.openBerth (.fields 48)) (withBerth .held) (fun _ => (berthIn .held).state.engaged = true) ∧
    Meets (.closeBerth (.fields 0)) marina (fun _ => berthCommand (.closeBerth (.fields 0)) = some 0) ∧
    Meets (.depart (.fields 1)) marina (fun s => s.berth.berths.get 1 = none) ∧
    Meets (.decline (.fields 48)) (withBerth .offered)
      (fun s => s.berth.berths.get 48 = some (berthIn .offered)) ∧
    Meets (.decline (.fields 48)) marina (fun _ => (berthIn .occupied).state ≠ .offered) ∧
    Meets (.depart (.fields 48)) marina (fun _ => (berthIn .occupied).service = some ⟨9, .a⟩) ∧
    Meets (.depart (.fields 48)) (withBerth .held) (fun _ => (berthIn .held).state ≠ .occupied) ∧
    ({ berthIn .occupied with service := none } : Berth).service = none := by
  refine ⟨meets rfl ?_, meets rfl ?_, meets rfl ?_, meets rfl ?_, meets rfl ?_, meets rfl ?_, meets rfl ?_,
    meets rfl ?_, meets rfl ?_, rfl⟩ <;> decide

/-- A BOOK of a berth by account 7. -/
def book (i : Nat) : Book := ⟨i, some 7, some yacht, some 0xFFFFFFFF⟩

theorem test_hyp_BerthsAreBookedAndConfirmed :
    Meets (.book (.fields { book 48 with account := none })) marina (fun _ => True) ∧
    Meets (.book (.fields { book 48 with vessel := some { yacht with loa := 601 } })) marina
      (fun _ => vesselOk { yacht with loa := 601 } = false) ∧
    Meets (.book (.fields (book 1))) marina (fun s => s.berth.berths.get 1 = none ∧ accountOk 7 = true) ∧
    Meets (.book (.fields (book 48))) marina (fun _ => (berthIn .occupied).state ≠ .free ∧ vesselOk yacht = true) ∧
    Meets (.book (.fields { book 48 with account := some 8 })) (withBerth .free) (fun s => s.account 8 = none) ∧
    Meets (.book (.fields (book 48))) (withBerth .free) (fun s => s.account 7 ≠ none) ∧
    Meets (.confirm (.fields ⟨48, some 0, none⟩)) marina (fun _ => optOk accountOk (some 0) = false) ∧
    Meets (.confirm (.fields ⟨1, none, none⟩)) marina (fun s => s.berth.berths.get 1 = none) ∧
    Meets (.confirm (.fields ⟨48, none, none⟩)) marina
      (fun s => s.berth.berths.get 48 = some (berthIn .occupied)) ∧
    Meets (.confirm (.fields ⟨48, none, none⟩)) (withBerth .free) (fun _ => (berthIn .free).state = .free) ∧
    Meets (.confirm (.fields ⟨48, some 8, some yacht⟩)) (withBerth .free) (fun s => s.account 8 = none) ∧
    Meets (.confirm (.fields ⟨48, none, none⟩)) (withBerth .held)
      (fun s => (berthIn .held).account.bind s.account ≠ none ∧ (berthIn .held).service = some ⟨9, .a⟩) := by
  refine ⟨meets rfl trivial, meets rfl ?_, meets rfl ?_, meets rfl ?_, meets rfl ?_, meets rfl ?_, meets rfl ?_,
    meets rfl ?_, meets rfl ?_, meets rfl ?_, meets rfl ?_, meets rfl ?_⟩ <;> decide

theorem test_hyp_OffersAndBookingsLapse :
    let later : State := { withBerth .held with mgmt := { base.mgmt with timeValid := true, clock := 41 } }
    ((withBerth .offered).active = true ∧ (withBerth .offered).berth.berths.get 48 = some (berthIn .offered) ∧
      (berthIn .offered).offerEnd = some 5000) ∧
    (later.active = true ∧ later.berth.berths.get 48 = some (berthIn .held) ∧ (berthIn .held).expiry = some 40 ∧
      later.mgmt.timeValid = true ∧ (40 : Clock) < later.mgmt.clock) ∧
    (withBerth .held).mgmt.timeValid = false := by decide

theorem test_hyp_TideIsStoredAndAges :
    let t : Tide := ⟨100, 50, 0, none, 0⟩
    let s : State := { base with berth := ⟨[], some t, false⟩ }
    Meets (.tide (.fields ⟨1201, -301, 0⟩)) base (fun _ => True) ∧
    (s.active = true ∧ s.berth.tide = some t ∧ s.berth.tideStale = false) :=
  ⟨meets rfl trivial, by decide⟩

theorem test_hyp_AllocateOffersTheBerthOfLeastWaste :
    let ask : Allocate := ⟨7, yacht, false, none⟩
    let free := withBerth .free
    let drained : State := { free with outlet := { free.outlet with feeders := [(3, { feeder3 with capacity := 127 })] } }
    let fitting (s : State) : Prop := ∃ p ∈ s.berth.berths, s.berthFits yacht [.visitor] p.2 = true
    Meets (.allocate (.fields { ask with account := 0 })) marina (fun _ => accountOk 0 = false) ∧
    Meets (.allocate (.fields { ask with classMask := some .unlisted })) marina (fun _ => accountOk 7 = true) ∧
    Meets (.allocate (.fields { ask with account := 8, classMask := some (.known [.fuel]) })) marina (fun s => s.account 8 = none) ∧
    Meets (.allocate (.fields ask)) marina
      (fun s => (s.taken (note (.allocate (.fields ask)))).testTide.chooseBerth ask [.visitor] = none) ∧
    Meets (.allocate (.fields ask)) free
      (fun s => ((s.taken (note (.allocate (.fields ask)))).testTide.chooseBerth ask [.visitor]).isSome = true) ∧
    ((free.chooseBerth ask [.visitor]).map (·.2) = some false ∧ fitting free ∧ free.Ordered) ∧
    (drained.chooseBerth ask [.visitor] = none ∧ fitting drained ∧ ∀ p ∈ drained.berth.berths, drained.powerCapable yacht p.2 = false) ∧
    (drained.chooseBerth { ask with acceptNoPower := true } [.visitor]).map (·.2) = some true ∧
    (free.chooseBerth { ask with vessel := { yacht with power := 0 } } [.visitor]).isSome = true ∧
    (free.tideIsStale = true ∧ marina.outletOfSide ⟨9, .a⟩ = some (48, outletIn .off)) ∧
    ({ free with berth := { free.berth with tide := some ⟨100, 50, 0, none, 0⟩ } } : State).tideIsStale = false := by
  refine ⟨meets rfl ?_, meets rfl ?_, meets rfl ?_, meets rfl ?_, meets rfl ?_, ⟨by decide, by decide, by constructor <;> decide⟩, ?_⟩
    <;> decide

/-! ## Hypotheses met: accounts and the charge engine -/

theorem test_hyp_AccountWorkIsHandedToOffice :
    (∃ p, officeWork (.tariffLoad (.fields ⟨3, 65535, 0, 0, 0⟩)) = some (.tariffLoad ⟨3, 65535, 0, 0, 0⟩, p) ∧ p) ∧
    Meets (.tariffLoad (.fields ⟨3, 65535, 0, 0, 0⟩)) base (fun _ => True) ∧
    Meets (.accountRemove (.fields 0)) base (fun _ => ¬accountRange 0) ∧
    Meets (.freeze (.fields ())) base (fun _ => True) :=
  ⟨⟨_, rfl, by decide⟩, meets rfl trivial, meets rfl (fun h => absurd h.1 (by decide)), meets rfl trivial⟩

theorem test_hyp_AccountReadReturnsTheRecord :
    Meets (.accountRead (.fields ⟨false, 16777216⟩)) marina (fun _ => 16777215 < 16777216) ∧
    Meets (.accountRead (.fields ⟨false, 7⟩)) marina (fun s => s.account 7 = some member) ∧
    Meets (.accountRead (.fields ⟨false, 0⟩)) marina (fun s => s.account 0 = none) ∧
    Meets (.accountRead (.fields ⟨true, 0⟩)) marina
      (fun s => s.account 7 = some member ∧ ∀ m, 0 < m → m < 7 → s.account m = none) ∧
    Meets (.accountRead (.fields ⟨true, 7⟩)) marina (fun s => ∀ m, 7 < m → s.account m = none) ∧
    marina.Ordered := by
  refine ⟨meets rfl (by decide), meets rfl (by decide), meets rfl (by decide), meets rfl ⟨by decide, ?_⟩, meets rfl ?_,
    ?_⟩
  · intro m _ h
    have : (7 : Nat) ≠ m := Nat.ne_of_gt h
    simp [told, State.account, marina, Table.get, this]
  · intro m h
    have : (7 : Nat) ≠ m := Nat.ne_of_lt h
    simp [told, State.account, marina, Table.get, this]
  · constructor <;> decide

/-- An ACCOUNT LOAD of account 8. -/
def load8 : AccountLoad := ⟨8, 3, 3, -99999999, 9999999, 9999999, some true⟩

theorem test_hyp_AccountLoadAndRemoveAreServed :
    let full : Table Account := (List.range 128).map fun i => (i + 10, member)
    let idle : State := { marina with berth := BerthUnit.start }
    (withOffice (.accountLoad load8) marina).mgmt.work = .office office ∧
    (officeTurn (.accountLoad { load8 with number := 7 }) [] (withOffice (.accountLoad { load8 with number := 7 }) marina) ∧
      marina.account 7 ≠ none) ∧
    (officeTurn (.accountLoad load8) [] (withOffice (.accountLoad load8) marina) ∧ marina.account 8 = none ∧
      marina.charge.accounts.length < 128) ∧
    128 ≤ full.length ∧
    (officeTurn (.accountRemove 7) [] (withOffice (.accountRemove 7) marina) ∧ usedBy marina 7 member) ∧
    ¬usedBy idle 7 member ∧ (officeTurn (.accountRemove 8) [] (withOffice (.accountRemove 8) marina)) := by
  refine ⟨rfl, ⟨⟨rfl, rfl, rfl⟩, by decide⟩, ⟨⟨rfl, rfl, rfl⟩, by decide, by decide⟩, by simp, ⟨⟨rfl, rfl, rfl⟩, ?_⟩, ?_,
    ⟨rfl, rfl, rfl⟩⟩
  · exact .inl ⟨_, List.mem_singleton_self _, rfl, rfl⟩
  · simp [usedBy, marina, member, outletIn, tapIn, dispenserIn, BerthUnit.start, base, State.reset, ChargeEngine.start]

theorem test_hyp_AccountUpdateAndTopUpAreServed :
    let f : AccountUpdate := ⟨7, some 0, none, none, some 5001, none⟩
    let near : State := withCharge fun c => { c with accounts := [(7, { member with topUps := 140737488355328 })] }
    let stands (x : Standing) : State := withCharge fun c => { c with accounts := [(7, { member with standing := x })] }
    (officeTurn (.accountUpdate f) [] (withOffice (.accountUpdate f) marina) ∧ marina.account 7 = some member) ∧
    (officeTurn (.topUp ⟨7, 1⟩) [] (withOffice (.topUp ⟨7, 1⟩) near) ∧
      (140737488355328 : Int) < 140737488355328 + 1) ∧
    (officeTurn (.topUp ⟨7, 99999999⟩) [] (withOffice (.topUp ⟨7, 99999999⟩) marina)) ∧ marina.account 8 = none ∧
    (member.derive = member.standing ∧ ({ member with balance := -1001 } : Account).derive ≠ member.standing) ∧
    ((stands .suspended).account 7 = some { member with standing := .suspended } ∧ occupies (stands .stopped) 7 ⟨9, .a⟩ ∧
      marina.berthOfSide ⟨9, .b⟩ = none ∧ (stands .low).Ordered) ∧
    (marina.outletOfSide ⟨9, .a⟩ = some (48, outletIn .off) ∧ marina.outletEligible (outletIn .off) = true ∧
      marina.tapOfSide ⟨9, .a⟩ = some (48, tapIn .closed)) ∧
    (serving (.waiting true) ∧ (∀ k, (outletIn .live).fault.latches.get k = false)) ∧
    marina.bus.devices.get 9 = some (deviceIn .pedestal .online) := by
  refine ⟨⟨⟨rfl, rfl, rfl⟩, by decide⟩, ⟨⟨rfl, rfl, rfl⟩, by decide⟩, ⟨rfl, rfl, rfl⟩, by decide, by decide,
    ⟨by decide, ⟨48, berthIn .occupied, by decide, by decide, by decide⟩, by decide, by constructor <;> decide⟩, by decide,
    ⟨.inr (.inl ⟨_, rfl⟩), fun k => by cases k <;> rfl⟩, by decide⟩

/-- A freeze in force. -/
def frozen : Freeze := ⟨some 3, Tallies.zero, 9000, 0, [⟨7, 5000, 0, 0, 0⟩], 600000⟩

/-- A state with a freeze in force. -/
def freezing (s : State) : State := { s with tally := { s.tally with freeze := some frozen } }

theorem test_hyp_TariffFreezeAndCloseAreServed :
    officeTurn (.tariffLoad ⟨0, 1, 2, 3, 4⟩) [] (withOffice (.tariffLoad ⟨0, 1, 2, 3, 4⟩) marina) ∧
    (officeTurn .freeze [] (withOffice .freeze marina) ∧ marina.tally.freeze = none) ∧
    (officeTurn .freeze [] (withOffice .freeze (freezing marina)) ∧ (freezing marina).tally.freeze = some frozen) ∧
    officeTurn .closePeriod [] (withOffice .closePeriod (freezing marina)) :=
  ⟨⟨rfl, rfl, rfl⟩, ⟨⟨rfl, rfl, rfl⟩, rfl⟩, ⟨⟨rfl, rfl, rfl⟩, rfl⟩, ⟨rfl, rfl, rfl⟩⟩

theorem test_hyp_ArbiterGrantsInOrderAndStandingIsDerived :
    marina.active = true ∧ marina.charge.nextGrant = none ∧
    (withOffice .freeze marina).charge.nextGrant ≠ some .power ∧
    member.power + 281474976710655 ≤ 281474976710655 := by decide

/-- The marina with outlet 48 in session and a POWER entry of its source. -/
def posting (z : Option Closing) : State :=
  { withOutlet { outletIn .live with session := if z.isNone then some visit else none } with
    charge := { marina.charge with power := [⟨48, 7, 1237, z⟩], lastGranted := .office } }

/-- A closing of the visit. -/
def closing7 : Closing := ⟨640, 7, 100, 4, .depart, some 3, none⟩

theorem test_hyp_MeteredPostingsAreDebited :
    ((posting none).active = true ∧ (posting none).charge.nextGrant = some Service.power.requester ∧
      (posting none).slots .power = [⟨48, 7, 1237, none⟩] ∧
      (posting none).sourceSession .power 48 = some visit ∧ (posting none).account 7 = some member) ∧
    ((posting (some closing7)).charge.nextGrant = some Service.power.requester ∧
      (posting (some closing7)).slots .power = [⟨48, 7, 1237, some closing7⟩] ∧
      (posting (some closing7)).waitingOf .power 48 = [] ∧
      (posting (some closing7)).sourceSession .power 48 = none ∧
      (posting (some closing7)).outlet.outlets.get 48 ≠ none) := by decide

/-- The marina with dispenser 3 holding and a request at the FUEL requester. -/
def asking (a : FuelAsk) : State :=
  { withDispenser (dispenserIn .holding (some sale7)) with
    charge := { marina.charge with fuel := [⟨3, 7, a⟩], lastGranted := .water } }

theorem test_hyp_FuelRequestsAreServed :
    ((asking (.hold 6000)).active = true ∧ (asking (.hold 6000)).charge.nextGrant = some .fuel ∧
      (asking (.hold 6000)).account 7 = some member ∧
      (asking (.hold 6000)).fuel.dispensers.get 3 = some (dispenserIn .holding (some sale7)) ∧
      ((6000 : Nat) : Int) ≤ member.balance + member.overdraft - member.held) ∧
    member.balance + member.overdraft - member.held < ((6001 : Nat) : Int) ∧
    (asking (.release 0)).charge.fuel = [⟨3, 7, .release 0⟩] ∧
    (asking (.settle 2000 1999)).charge.nextGrant = some .fuel := by decide

/-! ## Hypotheses met: outlets and feeders -/

/-- An OUTLET LOAD of outlet 48. -/
def load48 : OutletLoad := ⟨48, 126, .known .b, 320, 3⟩

theorem test_hyp_OutletLoadIsCheckedAndStored :
    Meets (.outletLoad (.fields { load48 with rating := 101 })) marina (fun _ => ¬outletRange { load48 with rating := 101 }) ∧
    Meets (.outletLoad (.fields { load48 with feeder := 0 })) marina (fun s => s.outlet.feeders.get 0 = none) ∧
    Meets (.outletLoad (.fields ⟨1, 9, .known .a, 100, 3⟩)) marina
      (fun s => s.outlet.feeders.get 3 ≠ none ∧ ∃ p ∈ s.outlet.outlets, p.1 ≠ 1 ∧ p.2.address = 9 ∧ p.2.side = .a) ∧
    Meets (.outletLoad (.fields { load48 with index := 1 })) marina
      (fun s => outletRange { load48 with index := 1 } ∧ s.outlet.outlets.get 1 = none ∧
        ¬∃ p ∈ s.outlet.outlets, p.1 ≠ 1 ∧ p.2.address = 126 ∧ p.2.side = .b) ∧
    Meets (.outletLoad (.fields load48)) (withOutlet (outletIn .ready))
      (fun s => s.outlet.outlets.get 48 = some (outletIn .ready) ∧ (outletIn .ready).address ≠ 126) ∧
    Meets (.outletLoad (.fields load48)) marina (fun s => s.outlet.outlets.get 48 = some (outletIn .off) ∧
      (outletIn .off).state = .off ∧ (outletIn .off).reservation = none) := by
  unfold outletRange
  refine ⟨meets rfl ?_, meets rfl ?_, meets rfl ?_, meets rfl ?_, meets rfl ?_, meets rfl ?_⟩ <;> decide

theorem test_hyp_FeederLoadAndOutletEvaluation :
    let full : Outlet := { outletIn .ready with waiting := List.replicate 4 ⟨7, 0, closing7⟩ }
    Meets (.feederLoad (.fields ⟨3, 4000, 10, 4000, 4000⟩)) marina (fun _ => ¬feederRange ⟨3, 4000, 10, 4000, 4000⟩) ∧
    Meets (.feederLoad (.fields ⟨0, 4000, 100, 4000, 3999⟩)) marina
      (fun s => feederRange ⟨0, 4000, 100, 4000, 3999⟩ ∧ s.outlet.feeders.get 0 = none) ∧
    Meets (.feederLoad (.fields ⟨3, 0, 10, 1, 0⟩)) marina
      (fun s => feederRange ⟨3, 0, 10, 1, 0⟩ ∧ s.outlet.feeders.get 3 = some feeder3) ∧
    (marina.outlet.outlets.get 48 = some (outletIn .off) ∧ marina.outletEligible (outletIn .off) = true ∧
      (outletIn .off).plug = .present) ∧
    marina.outletEligible (outletIn .ready) = true ∧
    marina.outletEligible { outletIn .live with lock := true } = false ∧
    ((outletIn .ready).plug = .present ∧ (outletIn .ready).plug ≠ .absent ∧ (outletIn .ready).state = .ready ∧
      (outletIn (.waiting false)).state ≠ .ready) ∧
    ((withOutlet full).outlet.outlets.get 48 = some full ∧ 4 ≤ full.waiting.length ∧ (outletIn .ready).waiting.length < 4) ∧
    ((outletIn .off).reservation = none ∧ ({ outletIn .off with reservation := some ⟨128, 3⟩ } : Outlet).reservation ≠ none) := by
  unfold feederRange
  refine ⟨meets rfl ?_, meets rfl ?_, meets rfl ?_, ?_, ?_, ?_, ?_, ?_, ?_⟩ <;> decide

/-- The marina with outlet 48 in session and a reservation on feeder 3. -/
def live48 : Outlet := { outletIn .live with session := some visit, reservation := some ⟨128, 3⟩ }

theorem test_hyp_AdmissionGrantsAndVacatingEnds :
    let withFeeder (o : Outlet) (f : Feeder) (q : List QueueEntry) : State := { withOutlet o with
      outlet := { (withOutlet o).outlet with feeders := [(3, f)], queue := q, attempts := [3] } }
    let entry : QueueEntry := ⟨48, false, 2, 0⟩
    let waits := outletIn (.waiting false)
    let trails : Outlet := { outletIn .ready with reservation := some ⟨200, 3⟩ }
    (hasRoom (withFeeder waits { feeder3 with capacity := 128 } []) waits { feeder3 with capacity := 128 } ∧
      marina.berthAccount ⟨9, .a⟩ = some 7 ∧ marina.outlet.queue = []) ∧
    ¬hasRoom (withFeeder waits { feeder3 with capacity := 127 } []) waits { feeder3 with capacity := 127 } ∧
    ¬hasRoom (withFeeder trails { feeder3 with capacity := 199 } []) trails { feeder3 with capacity := 199 } ∧
    hasRoom (withFeeder trails { feeder3 with capacity := 200 } []) trails { feeder3 with capacity := 200 } ∧
    ((withFeeder waits feeder3 [entry]).outlet.attempts = 3 :: [] ∧
      headFits (withFeeder waits feeder3 [entry]) 3 entry waits feeder3 7) ∧
    (∀ e o fd n, ¬headFits (withFeeder waits feeder3 []) 3 e o fd n) ∧
    (∃ e ∈ (withFeeder waits feeder3 [entry]).outlet.queue, e.outlet = 48 ∧ waits.feeder = 3) ∧
    ((withOutlet live48).outlet.outlets.get 48 = some live48 ∧ live48.session = some visit ∧
      live48.readback = .opened ∧ live48.reservation ≠ none ∧ findPosting 48 (withOutlet live48).charge.power = none) ∧
    ((findPosting 48 (posting none).charge.power).map (·.closing)) = some none ∧
    ((findPosting 48 (posting (some closing7)).charge.power).map (·.closing)) = some (some closing7) ∧
    (∃ r, ({ live48 with reservation := some ⟨128, 0⟩ } : Outlet).reservation = some r ∧ r.feeder ≠ live48.feeder) ∧
    (withOutlet live48).bus.devices.get 9 = some (deviceIn .pedestal .online) := by
  refine ⟨⟨⟨by decide, by decide, rfl⟩, by decide, rfl⟩, fun h => absurd h.2.1 (by decide), fun h => absurd h.1 (by decide),
    ⟨by decide, by decide, rfl⟩, ⟨rfl, ⟨[], [], rfl, rfl, rfl, fun x h => nomatch h⟩, rfl, by decide, by decide, by decide,
    rfl⟩, ?_, ⟨_, List.mem_singleton_self _, rfl, rfl⟩, by decide, by decide, by decide, ⟨_, rfl, by decide⟩, by decide⟩
  rintro e o fd n ⟨⟨a, b, h, -⟩, -⟩
  cases a <;> cases h

theorem test_hyp_ReservedSumHoldsAndSheddingOrder :
    let s := withOutlet live48
    let at_ (l : List Nat) : Feeder := { feeder3 with ring := l }
    (withOutlet (outletIn .ready)).Ordered ∧
    ((withOutlet (outletIn .ready)).fits feeder3 (outletIn .ready) = true) ∧
    (pickShed (s.shedCandidates 3) = some (48, 2, 100) ∧ live48.feeder = 3 ∧ s.outlet.attempts = []) ∧
    marina.shedCandidates 3 = [] ∧
    ((at_ [350]).ring ≠ [] ∧ 300 < [350].sum / [350].length ∧ [350].sum / [350].length ≤ 350) ∧
    350 < [351].sum / [351].length ∧ [300].sum / [300].length ≤ 300 ∧
    s.outlet.outlets.get 48 = some live48 ∧ s.outlet.feeders.get 3 = some feeder3 := by
  refine ⟨by constructor <;> decide, ?_⟩
  decide

/-- The marina with the outlet override configured. -/
def overriding (o : Outlet) : State :=
  { withOutlet o with mgmt := { base.mgmt with config := { base.mgmt.config with outletOverride := true } } }

theorem test_hyp_OfficeLocksAndServiceHold :
    Meets (.forceOff (.fields 48)) marina (fun s => s.mgmt.config.outletOverride = false) ∧
    Meets (.releaseForce (.fields 0)) (overriding live48) (fun s => s.mgmt.config.outletOverride = true) ∧
    Meets (.forceOff (.fields 1)) (overriding live48) (fun s => s.outlet.outlets.get 1 = none) ∧
    Meets (.forceOff (.fields 48)) (overriding live48)
      (fun s => s.outlet.outlets.get 48 = some live48 ∧ live48.state = .live) ∧
    (∀ k, live48.fault.latches.get k = false) ∧
    Meets (.serviceHold (.fields ())) (withTap { tapIn .opened with session := some visit })
      (fun s => s.tap.taps.get 48 = some { tapIn .opened with session := some visit }) ∧
    Meets (.serviceRelease (.fields ())) base (fun s => s.outlet.serviceHold = true) ∧
    Meets (.serviceRelease (.fields ())) marina (fun s => s.outlet.serviceHold = false) ∧
    Meets (.waterSuspend (.fields ())) marina (fun _ => True) ∧ Meets (.waterResume (.fields ())) marina (fun _ => True) := by
  refine ⟨meets rfl ?_, meets rfl ?_, meets rfl ?_, meets rfl ?_, fun k => by cases k <;> rfl, meets rfl ?_, meets rfl ?_,
    meets rfl ?_, meets rfl trivial, meets rfl trivial⟩ <;> decide

/-! ## Hypotheses met: protection and taps -/

/-- A PROTECTION LOAD of a kind with BY_COMMAND alone. -/
def guard (k : Coded FaultKind) (enable : Bool) : ProtectionLoad := ⟨k, enable, true, true, true, false, true, false⟩

theorem test_hyp_ProtectionLoadStoresAnEntry :
    Meets (.protectionLoad (.fields (guard .unlisted true))) marina (fun _ => True) ∧
    Meets (.protectionLoad (.fields { guard (.known .valve) true with byUnplug := true })) marina
      (fun _ => badMethods { guard (.known .valve) true with byUnplug := true } .valve) ∧
    Meets (.protectionLoad (.fields (guard (.known .valve) true))) marina
      (fun _ => ¬badMethods (guard (.known .valve) true) .valve ∧ (loadedEntry (guard (.known .valve) true) .valve).enable = true) ∧
    Meets (.protectionLoad (.fields (guard (.known .meter) false))) marina
      (fun _ => ¬badMethods (guard (.known .meter) false) .meter ∧
        (loadedEntry (guard (.known .meter) false) .meter).enable = false) := by
  unfold badMethods loadedEntry
  refine ⟨meets rfl trivial, meets rfl ?_, meets rfl ?_, meets rfl ?_⟩ <;> decide

/-- A fault record with a latch set. -/
def latched (k : FaultKind) : FaultRecord := { sound with latches := (KindMap.all false).set k true }

/-- A tripped outlet with a latch. -/
def tripped48 (k : FaultKind) : Outlet := { outletIn .tripped with fault := latched k }

/-- A locked tap with a latch. -/
def locked48 (k : FaultKind) : Tap := { tapIn .locked with fault := latched k }

theorem test_hyp_ClearFaultAndReturnToService :
    let protectless : State := { withOutlet (tripped48 .overcurrent) with
      outlet := { (withOutlet (tripped48 .overcurrent)).outlet with
        protection := (defaultProtection.set .overcurrent ⟨true, true, true, true, true, false, false⟩) } }
    let stuck : State := withOutlet { tripped48 .earthLeak with leakA := true, leakB := true }
    Meets (.clearFault (.fields ⟨.known .outlet, 49, none⟩)) marina (fun _ => ¬(1 ≤ 49 ∧ 49 ≤ 48)) ∧
    Meets (.clearFault (.fields ⟨.known .tap, 1, none⟩)) marina (fun s => s.tap.taps.get 1 = none) ∧
    Meets (.clearFault (.fields ⟨.known .outlet, 48, none⟩)) (withOutlet (outletIn .outOfService))
      (fun s => s.outlet.outlets.get 48 = some (outletIn .outOfService)) ∧
    Meets (.clearFault (.fields ⟨.known .outlet, 48, some (.known .overcurrent)⟩)) protectless
      (fun s => (s.outlet.protection.get .overcurrent).byCommand = false ∧
        (tripped48 .overcurrent).fault.latches.get .overcurrent = true) ∧
    Meets (.clearFault (.fields ⟨.known .outlet, 48, some (.known .earthLeak)⟩)) stuck
      (fun s => s.outletCondition { tripped48 .earthLeak with leakA := true, leakB := true } .earthLeak = true) ∧
    Meets (.clearFault (.fields ⟨.known .outlet, 48, some (.known .overcurrent)⟩)) (withOutlet (tripped48 .overcurrent))
      (fun s => s.outlet.outlets.get 48 = some (tripped48 .overcurrent) ∧
        s.outletCondition (tripped48 .overcurrent) .overcurrent = false ∧
        (s.outlet.protection.get .overcurrent).byCommand = true) ∧
    Meets (.clearFault (.fields ⟨.known .tap, 48, some (.known .leak)⟩)) (withTap (locked48 .leak))
      (fun s => s.tap.taps.get 48 = some (locked48 .leak) ∧ s.tapCondition (locked48 .leak) .leak = false) ∧
    Meets (.returnToService (.fields ⟨.known .outlet, 48⟩)) marina (fun _ => (outletIn .off).state ≠ .outOfService) ∧
    Meets (.returnToService (.fields ⟨.known .outlet, 48⟩)) (withOutlet (outletIn .outOfService))
      (fun s => s.outlet.outlets.get 48 = some (outletIn .outOfService)) ∧
    (∀ k, (outletIn .outOfService).fault.latches.get k = false) ∧
    Meets (.returnToService (.fields ⟨.known .tap, 48⟩)) (withTap { tapIn .locked with outOfService := true })
      (fun s => s.tap.taps.get 48 = some { tapIn .locked with outOfService := true }) := by
  refine ⟨meets rfl ?_, meets rfl ?_, meets rfl ?_, meets rfl ?_, meets rfl ?_, meets rfl ?_, meets rfl ?_, meets rfl ?_,
    meets rfl ?_, fun k => by cases k <;> rfl, meets rfl ?_⟩ <;> decide

theorem test_hyp_DetectionAtAnOutlet :
    let cutting (n : Bool) : State := { withOutlet live48 with outlet := { (withOutlet live48).outlet with
      protection := defaultProtection.set .meter ⟨true, true, false, n, false, true, false⟩ } }
    let shed : Outlet := { outletIn (.waiting true) with session := some visit, waiting := List.replicate 4 ⟨7, 0, closing7⟩ }
    ((marina.protectionOf .overcurrent).enable = true ∧ (marina.protectionOf .overcurrent).latch = true ∧
      (marina.protectionOf .leakDisagree).cut = false ∧ marina.outlet.outlets.get 48 = some (outletIn .off)) ∧
    (¬marina.mgmt.config.tripLimit ≤ (tripsNow marina sound).length) ∧
    marina.mgmt.config.tripLimit ≤ (tripsNow marina { sound with trips := [0, 0] }).length ∧
    (((cutting true).protectionOf .meter).latch = false ∧ ((cutting true).protectionOf .meter).cut = true ∧
      ((cutting true).protectionOf .meter).count = true ∧ ((cutting false).protectionOf .meter).count = false ∧
      (cutting true).outlet.outlets.get 48 = some live48 ∧ live48.session ≠ none) ∧
    (shed.session ≠ none ∧ 4 ≤ shed.waiting.length) ∧
    (marina.tap.taps.get 48 = some (tapIn .closed) ∧ (marina.protectionOf .leak).latch = true ∧
      ((cutting true).protectionOf .meter).enable = true) ∧
    ((tapIn .opened).state = .opened ∧ (tapIn .locked).state ≠ .opened ∧
      ({ tapIn .locked with outOfService := true } : Tap).outOfService = true) ∧
    (∀ e, ({ tapIn .closed with settleEnd := some 4 } : Tap).settleEnd = some e → e ≤ 4) := by
  refine ⟨?_, ?_, ?_, ?_, ?_, ?_, ?_, fun e h => by cases h; decide⟩ <;> decide

theorem test_hyp_UnpluggingClearsLatches :
    let s := withOutlet (tripped48 .overcurrent)
    s.outlet.outlets.get 48 = some (tripped48 .overcurrent) ∧ (s.outlet.protection.get .overcurrent).byUnplug = true ∧
    s.outletCondition (tripped48 .overcurrent) .overcurrent = false ∧
    (tripped48 .overcurrent).fault.latches.get .overcurrent = true ∧
    s.outletEligible { outletIn .off with reason := .recovered } = true ∧
    (s.outlet.protection.get .meter).byUnplug = false ∧ (outletIn .outOfService).state = .outOfService ∧
    (s.outletEligible { outletIn .off with reason := .recovered, lock := true } = false ∧ s.outlet.attempts = []) ∧
    (∀ k, (KindMap.all false).get k = false) := by
  refine ⟨rfl, by decide, by decide, by decide, by decide, by decide, rfl, by decide, fun k => by cases k <;> rfl⟩

theorem test_hyp_ProtectionTimersExpire :
    let o : Outlet := { outletIn .off with fault := { sound with
      stuck := 30, disagreeEnd := some 10, recovery := (KindMap.all none).set .meter (some 20) } }
    let t : Tap := { tapIn .closed with fault := { sound with recovery := (KindMap.all none).set .leak (some 20) } }
    ((withOutlet o).active = true ∧ (withOutlet o).outlet.outlets.get 48 = some o ∧ 30 ≤ o.fault.stuck ∧
      o.fault.disagreeEnd = some 10 ∧ o.fault.recovery.get .meter = some 20) ∧
    ((outletIn .off).fault.stuck < 30 ∧ (outletIn .off).fault.disagreeEnd = none) ∧
    ((withTap t).tap.taps.get 48 = some t ∧ t.fault.recovery.get .leak = some 20) := by decide

theorem test_hyp_TapsAreLoadedOpenedAndShut :
    let openTap : Tap := { tapIn .opened with session := some visit, settleEnd := none }
    Meets (.tapLoad (.fields ⟨48, 127, .known .a⟩)) marina (fun _ => ¬127 ≤ 126) ∧
    Meets (.tapLoad (.fields ⟨1, 9, .known .a⟩)) marina
      (fun s => ∃ p ∈ s.tap.taps, p.1 ≠ 1 ∧ p.2.address = 9 ∧ p.2.side = .a) ∧
    Meets (.tapLoad (.fields ⟨1, 9, .known .b⟩)) marina (fun s => s.tap.taps.get 1 = none) ∧
    Meets (.tapLoad (.fields ⟨48, 9, .known .a⟩)) marina (fun s => s.tap.taps.get 48 = some (tapIn .closed)) ∧
    Meets (.tapLoad (.fields ⟨48, 126, .known .a⟩)) (withTap openTap) (fun s => s.tap.taps.get 48 = some openTap) ∧
    (marina.tapOfSide ⟨9, .a⟩ = some (48, tapIn .closed) ∧ marina.tapEligible (tapIn .closed) = true ∧
      marina.berthAccount ⟨9, .a⟩ = some 7) ∧
    ((withTap openTap).tapOfSide ⟨9, .a⟩ = some (48, openTap) ∧ (withTap openTap).active = true ∧
      openTap.session = some visit ∧ findPosting 48 (withTap openTap).charge.water = none) ∧
    (tapIn .closed).settleEnd = some 9000 ∧
    (findPosting 48 [(⟨48, 7, 2, none⟩ : Posting)] = some ⟨48, 7, 2, none⟩ ∧ (tapIn .locked).state = .locked ∧
      marina.tapEligible { tapIn .closed with outOfService := true } = false) := by
  refine ⟨meets rfl ?_, meets rfl ?_, meets rfl ?_, meets rfl ?_, meets rfl ?_, ?_, ?_, ?_, ?_⟩ <;> decide

/-! ## Hypotheses met: fuel sales -/

theorem test_hyp_AuthoriseSaleIsCheckedAndStarts :
    let f : AuthoriseSale := ⟨3, 0, some 100, some 7⟩
    Meets (.authoriseSale (.fields { f with grade := 2 })) marina (fun _ => ¬({ f with grade := 2 } : AuthoriseSale).grade ≤ 1) ∧
    Meets (.authoriseSale (.fields { f with dispenser := 0 })) marina (fun s => s.fuel.dispensers.get 0 = none) ∧
    Meets (.authoriseSale (.fields { f with account := some 8 })) marina (fun s => s.account 8 = none) ∧
    Meets (.authoriseSale (.fields f)) (withDispenser (dispenserIn .settling (some sale7)))
      (fun _ => (dispenserIn .settling (some sale7)).state ≠ .idle) ∧
    Meets (.authoriseSale (.fields { f with grade := 1 })) marina (fun _ => (dispenserIn .idle none).hose1 = false) ∧
    Meets (.authoriseSale (.fields f)) marina
      (fun s => s.fuel.dispensers.get 3 = some (dispenserIn .idle none) ∧ s.saleCount < 16 ∧
        s.fuel.tank0.cutoff < s.fuel.tank0.level ∧ s.account 7 = some member ∧ member.standing = .good) ∧
    Meets (.authoriseSale (.fields { f with account := none })) marina (fun _ => True) ∧
    saleRange f := by
  refine ⟨meets rfl ?_, meets rfl ?_, meets rfl ?_, meets rfl ?_, meets rfl ?_, meets rfl ?_, meets rfl trivial, ?_⟩
  case refine_7 => exact ⟨by decide, by decide, fun x h => by cases h; decide, fun n h => by cases h; exact ⟨by decide, by decide⟩⟩
  all_goals decide

theorem test_hyp_SalesStopAndPumpsAreGranted :
    let authorised := dispenserIn .authorised (some sale7)
    Meets (.stopSale (.fields 4)) marina (fun _ => 3 < 4) ∧
    Meets (.stopSale (.fields 0)) marina (fun s => s.fuel.dispensers.get 0 = none) ∧
    Meets (.stopSale (.fields 3)) marina (fun s => s.fuel.dispensers.get 3 = some (dispenserIn .idle none)) ∧
    Meets (.stopSale (.fields 3)) (withDispenser authorised)
      (fun s => s.fuel.dispensers.get 3 = some authorised ∧ authorised.stopRequested = false) ∧
    Meets (.stopSale (.fields 3)) (withDispenser (dispenserIn .holding (some sale7)))
      (fun s => s.fuel.dispensers.get 3 = some (dispenserIn .holding (some sale7))) ∧
    ((withDispenser authorised).active = true ∧ authorised.nozzleEnd = some 700 ∧ authorised.sale = some sale7) ∧
    (dispenserIn .idle none).state ≠ .authorised ∧ (withDispenser authorised).Ordered ∧
    (withDispenser authorised).running = 1 := by
  refine ⟨meets rfl ?_, meets rfl ?_, meets rfl ?_, meets rfl ?_, meets rfl ?_, ?_, ?_, ?_, ?_⟩
  case refine_8 => constructor <;> decide
  all_goals decide

theorem test_hyp_DispenserReplyIsDelivered :
    let stored : Status := .dispenser 1 556 0 0 false 0 0 0
    let d : Device := { deviceIn .dispenser .online with stored := some stored }
    let carded (c' c : Nat) := WatchField.cardRead ∈ d.watch ∧ c' ≠ c
    let limited : Sale := { sale7 with limit := 1 }
    (carded 1 2 ∧ ¬carded 1 1) ∧
    (withDispenser (dispenserIn .authorised (some limited))).fuel.dispensers.get 3 =
      some (dispenserIn .authorised (some limited)) ∧
    ({ dispenserIn .authorised (some limited) with stopAcked := true } : Dispenser).stopAcked = true ∧
    ((dispenserIn .authorised none).nozzle ≠ .lifted ∧ limited.limit ≤ 1 ∧ 0 < sale7.limit) ∧
    ({ dispenserIn .delivering (some sale7) with nozzle := .lifted } : Dispenser).nozzle = .lifted ∧
    ((dispenserIn .idle none).state ≠ .authorised ∧ (dispenserIn .idle none).state ≠ .delivering) := by decide

theorem test_hyp_CardReadAtADispenser :
    let lost : State := { marina with trunk := { marina.trunk with lost := true } }
    let asks (n : Nat) : State := { marina with gate := { marina.gate with queries := List.replicate n ⟨5, .gate 3, 0, 1500⟩ } }
    let dry : State := { marina with fuel := { marina.fuel with tank0 := ⟨100, 100, false⟩ } }
    let d := dispenserIn .idle none
    (marina.fuel.dispensers.get 3 = some d ∧ ∀ code, ¬startRefused marina d 0 code) ∧
    (startRefused marina d 1 2 ∧ startRefused dry d 0 4) ∧
    ((dispenserIn .holding (some sale7)).state ≠ .idle ∧ (dispenserIn .holding (some sale7)).state ≠ .cardWait) ∧
    (marina.hit 556 = some pass7 ∧ marina.hit 557 = none ∧ marina.gate.queries.length < 4) ∧
    (4 ≤ (asks 4).gate.queries.length ∧ (asks 4).hit 557 = none ∧ (asks 3).gate.queries.length < 4) ∧
    (lost.gate.queries.length < 4 ∧ lost.trunk.lost = true ∧ marina.trunk.lost = false) ∧
    (codeOf .expired 6 ∧ codeOf .queryBusy 14) := by
  refine ⟨⟨rfl, ?_⟩, ⟨.inl ⟨by decide, rfl⟩, .inr (.inr ⟨by decide, by decide, by decide, rfl⟩)⟩, by decide, by decide,
    by decide, by decide, by unfold codeOf; decide⟩
  rintro code (h | h | h)
  · exact h.1 (by decide)
  · exact absurd h.2.1 (by decide)
  · exact absurd h.2.2.1 (by decide)

theorem test_hyp_sales_and_tanks :
    Meets (.takeSale (.fields ())) { marina with fuel := { marina.fuel with sales := [sale7] } }
      (fun s => s.fuel.sales = sale7 :: []) ∧
    Meets (.takeSale (.fields ())) marina (fun s => s.fuel.sales = []) ∧
    Meets (.tankSet (.fields ⟨2, 0, none⟩)) marina (fun _ => ¬2 ≤ 1) ∧
    Meets (.tankAdd (.fields ⟨0, 4294958296, none⟩)) marina (fun s => ¬s.fuel.tank0.level + 4294958296 ≤ 4294967295) ∧
    Meets (.tankAdd (.fields ⟨0, 4294958295, some 4294967295⟩)) marina
      (fun s => s.fuel.tank0.level + 4294958295 ≤ 4294967295) ∧
    ((withDispenser (dispenserIn .delivering (some sale7))).fuel.dispensers.get 3 =
      some (dispenserIn .delivering (some sale7)) ∧ sale7.account = some 7 ∧ sale7.grade = 0) ∧
    ({ sale7 with account := none, grade := 1 } : Sale).grade ≠ 0 := by
  refine ⟨meets rfl ?_, meets rfl ?_, meets rfl ?_, meets rfl ?_, meets rfl ?_, ?_, ?_⟩ <;> decide

/-! ## Hypotheses met: the gate unit -/

/-- A CREDENTIAL FILL of token 556, whose index is 44. -/
def fill : CredentialFill := ⟨556, .known .visitor, some 7, none, true, false⟩

/-- A pending query of reader 3 for a token. -/
def asked (t : Token) : Query := ⟨t, .gate 3, 0, 1500⟩

/-- The marina with that query pending. -/
def waitingFor (t : Token) : State := { marina with gate := { marina.gate with queries := [asked t] } }

/-- The marina with that query pending, and one of dispenser 3, which waits with the card. -/
def bothWait : State := { withDispenser { dispenserIn .cardWait none with card := some ⟨556, 0, 2000⟩ } with
  gate := { marina.gate with queries := [asked 556, ⟨556, .dispenser 3, 0, 1500⟩] } }

/-- The two requesters differ, and the reader is loaded. -/
theorem waitingOnce_both : waitingOnce bothWait bothWait.gate.queries := by
  refine ⟨by decide, ?_⟩
  intro q hq i hi
  simp only [bothWait, List.mem_cons, List.not_mem_nil, or_false] at hq
  obtain rfl | rfl := hq <;> cases hi
  decide

theorem test_hyp_CredentialFillIsStored :
    Meets (.credentialFill (.fields { fill with account := none })) marina
      (fun _ => ∀ k, ¬fillRange { fill with account := none } k) ∧
    fillRange fill .visitor ∧
    Meets (.credentialFill (.fields fill)) { marina with gate := { marina.gate with cache := [(44, { pass7 with tag := 3, pinned := true })] } }
      (fun s => ∃ e, s.gate.cache.get 44 = some e ∧ e.pinned = true ∧ e.tag ≠ 2) ∧
    Meets (.credentialFill (.fields fill)) { marina with gate := { marina.gate with cache := [(44, { pass7 with tag := 3 })] } }
      (fun s => ¬notStored s 556) ∧
    Meets (.credentialFill (.fields fill)) marina (fun s => s.queriesFor 556 = []) ∧
    Meets (.credentialFill (.fields fill)) bothWait (fun s => waitingOnce s (s.queriesFor 556) ∧
      (s.judge (askerAt reader3.side) (fillEntry fill .visitor)).1 = .granted) ∧
    (bothWait.judge .dispenser (fillEntry { fill with account := some 8 } .visitor)).1 ≠ .granted ∧
    (bothWait.judge .entry (fillEntry { fill with account := some 8 } .visitor)).1 ≠ .granted ∧
    ((asked 556).requester = .gate 3 ∧ bothWait.gate.readers.get 3 = some reader3 ∧
      ∃ x, bothWait.fuel.dispensers.get 3 = some x ∧ x.card ≠ none) := by
  refine ⟨meets rfl ?_, ?_, meets rfl ⟨_, rfl, rfl, by decide⟩, meets rfl ?_, meets rfl (by decide),
    meets rfl ⟨waitingOnce_both, by decide⟩, by decide, by decide, rfl, rfl, _, rfl, by decide⟩
  · rintro k ⟨hk, -, h | h⟩
    · cases hk; cases h
    · exact h rfl
  · exact ⟨rfl, fun n h => by cases h; exact ⟨by decide, by decide⟩, .inr (by decide)⟩
  · rintro (h | ⟨e, h, hp, -⟩)
    · exact h (by decide)
    · cases h; cases hp

theorem test_hyp_UnknownCredentialAndQueryTimeout :
    Meets (.credentialUnknown (.fields 556)) (waitingFor 556) (fun s => (s.queriesFor 556).length = 1) ∧
    Meets (.credentialUnknown (.fields 557)) (waitingFor 556) (fun s => s.queriesFor 557 = []) ∧
    ((waitingFor 556).active = true ∧ (waitingFor 556).queryOf (.gate 3) = some (asked 556) ∧
      (waitingFor 556).gate.readers.get 3 ≠ none) ∧ marina.queryOf (.gate 3) = none ∧
    (waitingOnce bothWait (bothWait.queriesFor 556) ∧
      bothWait.gate.journal.length + (bothWait.queriesFor 556).length ≤ 32) ∧
    (codeOf .unknownToken 12 ∧ codeOf .officeTimeout 13) := by
  refine ⟨meets rfl ?_, meets rfl ?_, ?_, ?_, ⟨waitingOnce_both, ?_⟩, by simp [codeOf], by simp [codeOf]⟩ <;> decide

theorem test_hyp_InvalidateRemovesCacheEntries :
    Meets (.invalidate (.fields (.token 556))) marina (fun _ => True) ∧
    Meets (.invalidate (.fields (.all true))) marina (fun _ => True) := ⟨meets rfl trivial, meets rfl trivial⟩

theorem test_hyp_CardsAreDecidedInOrder :
    let timed : State := { marina with mgmt := { marina.mgmt with timeValid := true, clock := 6 } }
    (timed.mgmt.timeValid = true ∧ (5 : Clock) < timed.mgmt.clock) ∧
    marina.account 7 = some member ∧ marina.account 8 = none ∧
    ((berthIn .occupied).account = some 7) ∧ ({ pass7 with presence := .inside } : CacheEntry).presence = .inside ∧
    (marina.gate.readers.get 3 = some reader3 ∧ marina.hit 556 = some pass7 ∧
      (marina.judge .entry pass7).1 = .granted) ∧
    (marina.judge .entry { pass7 with account := some 8 }).1 ≠ .granted ∧
    (marina.hit 557 = none ∧ marina.queryOf (.gate 3) = none ∧ marina.gate.queries.length < 4 ∧
      marina.trunk.lost = false) ∧ (waitingFor 556).queryOf (.gate 3) ≠ none := by decide

theorem test_hyp_GateReplyIsDelivered :
    let stored : Status := .gate 1 556 2 true
    let d : Device := { deviceIn .gate .online with stored := some stored }
    let passed (e : Nat) : State := { marina with
      gate := { marina.gate with readers := [(3, { reader3 with windowEnd := some e })] }, now := 10 }
    d.stored = some (.gate 1 556 2 true) ∧ (.cardRead ∈ d.watch ∧ .exitButton ∈ d.watch ∧ .door ∈ d.watch) ∧
    (marina.gate.readers.get 3 = some reader3 ∧ reader3.windowEnd = none) ∧
    ((passed 9).gate.readers.get 3 = some { reader3 with windowEnd := some 9 } ∧ 9 < (passed 9).now ∧
      ¬10 < (passed 10).now) ∧
    (marina.gate.cache.get (556 % 256) = some pass7 ∧ pass7.tag = 556 / 256 ∧
      marina.mgmt.config.cacheLow ≤ 556 ∧ 556 ≤ marina.mgmt.config.cacheHigh) := by decide

/-! ## Hypotheses met: the pedestal bus -/

/-- A DEVICE LOAD of a gate. -/
def gate12 : DeviceLoad := ⟨12, .known .gate, none, none, some 3, some (.known .exit), false, false⟩

/-- What it gives. -/
def gateForm : DeviceFields := ⟨.gate, .fast, watchable .gate, 3, .exit, false, false⟩

/-- A DEVICE LOAD of a dispenser. -/
def pump11 : DeviceLoad := ⟨11, .known .dispenser, none, none, some 3, none, true, true⟩

/-- What it gives. -/
def pumpForm : DeviceFields := ⟨.dispenser, .fast, watchable .dispenser, 3, .entry, true, true⟩

theorem test_hyp_DevicesAreLoadedAndRemoved :
    (∀ g, ¬deviceForm { gate12 with gateSide := none } g ∨ g.kind ≠ .gate) ∧
    (deviceForm gate12 gateForm ∧ deviceForm { gate12 with address := 126 } gateForm) ∧
    Meets (.deviceLoad (.fields { gate12 with address := 126 })) marina
      (fun s => deviceExists { gate12 with address := 126 } gateForm s) ∧
    Meets (.deviceLoad (.fields gate12)) base (fun s => s.bus.devices.get 12 = none) ∧
    Meets (.deviceLoad (.fields gate12)) marina (fun s => s.bus.devices.get 12 = some (deviceIn .gate .online)) ∧
    Meets (.deviceLoad (.fields gate12)) marina (fun s => ¬deviceBusy gateForm (deviceIn .gate .online) s ∧
      s.gate.readers.get (deviceIn .gate .online).index = some reader3) ∧
    Meets (.deviceLoad (.fields pump11)) marina (fun s => ¬deviceBusy pumpForm (deviceIn .dispenser .online) s ∧
      s.fuel.dispensers.get (deviceIn .dispenser .online).index = some (dispenserIn .idle none)) ∧
    Meets (.deviceRemove (.fields 9)) (withOutlet (outletIn (.waiting false)))
      (fun s => ¬deviceUsed 9 (deviceIn .pedestal .online) s ∧ serving (.waiting false) ∧
        s.outletOfSide (outletIn (.waiting false)).ref = some (48, outletIn (.waiting false)) ∧
        ∀ k, (outletIn (.waiting false)).fault.latches.get k = false) ∧
    Meets (.deviceRemove (.fields 127)) marina (fun _ => ¬127 ≤ 126) ∧
    Meets (.deviceRemove (.fields 1)) marina (fun s => s.bus.devices.get 1 = none) ∧
    Meets (.deviceRemove (.fields 9)) (withOutlet live48) (fun s => ∃ p ∈ s.outlet.outlets, p.2.address = 9 ∧ p.2.session ≠ none) ∧
    Meets (.deviceRemove (.fields 12)) marina (fun s => ¬deviceUsed 12 (deviceIn .gate .online) s) ∧ marina.Ordered := by
  have hf (a : Nat) (h : 1 ≤ a) (h' : a ≤ 126) : deviceForm { gate12 with address := a } gateForm :=
    ⟨rfl, h, h', .inr ⟨rfl, rfl⟩, rfl, by decide, fun e => (by cases e), fun _ => ⟨rfl, by decide, rfl, rfl, rfl⟩,
      fun e => (by cases e)⟩
  refine ⟨fun g => ?_, ⟨hf 12 (by decide) (by decide), hf 126 (by decide) (by decide)⟩, meets rfl ?_, meets rfl ?_,
    meets rfl ?_, meets rfl ?_, meets rfl ?_, meets rfl ?_, meets rfl ?_, meets rfl ?_, meets rfl ?_, meets rfl ?_, ?_⟩
  · by_cases h : g.kind = .gate
    · refine .inl fun k => ?_
      have := (k.2.2.2.2.2.2.2.1 h).2.2.1
      cases this
    · exact .inr h
  · exact .inr ⟨by decide, (12, deviceIn .gate .online), by decide, by decide, rfl, rfl⟩
  · decide
  · decide
  · exact ⟨by rintro (⟨-, -, h⟩ | ⟨h, -⟩) <;> [exact h (by decide); cases h], by decide⟩
  · refine ⟨?_, by decide⟩
    rintro (⟨h, -⟩ | ⟨-, r, hr, h, -⟩)
    · cases h
    · obtain ⟨-, rfl⟩ := get_single hr
      exact h rfl
  · refine ⟨?_, .inr (.inl ⟨false, rfl⟩), by decide, fun k => by cases k <;> rfl⟩
    rintro (⟨-, ⟨p, hp, -, h⟩ | ⟨p, hp, -, h⟩⟩ | ⟨h, -⟩)
    · cases List.mem_singleton.1 hp
      exact h.elim (· rfl) (· rfl)
    · cases List.mem_singleton.1 hp
      cases h
    · cases h
  · decide
  · decide
  · decide
  · rintro (h | h)
    · cases h.1
    · cases h.1
  · constructor <;> decide

/-- The marina with pedestal 9 as given and the bus as left by the last exchange. -/
def withPedestal (d : Device) : State := { marina with bus := { marina.bus with devices := [(9, d)] } }

/-- The marina in an exchange with pedestal 9. -/
def exchanging (r : Request) : State := { marina with bus := { marina.bus with exchange := some ⟨9, r, false, 0⟩ } }

/-- A pedestal that differs, one with a one-shot, and one of the slow class. -/
def differs : Device := { deviceIn .pedestal .online with differSince := some 0 }
def commanded : Device := { deviceIn .pedestal .online with slot := some ⟨.unlock 5, 0, true⟩ }
def unhurried : Device := { deviceIn .pedestal .online with pollClass := .slow }

theorem idle9 {d : Device} (h : d.differSince = none) (c : Cycle) : imagesOver (withPedestal d) c := by
  rintro - - b n ⟨x, hx, -, -, hd, -⟩
  obtain ⟨-, rfl⟩ := get_single hx
  simp [h] at hd

theorem quiet9 {d : Device} (h : d.differSince = none) (hs : d.slot = none) (c : Cycle) : shotsOver (withPedestal d) c := by
  refine ⟨idle9 h c, ?_⟩
  rintro - b ⟨-, x, hx, -, hd⟩
  obtain ⟨-, rfl⟩ := get_single hx
  exact hd hs

theorem slow9 (c : Cycle) (h : c.classes = []) : fastOver (withPedestal unhurried) c := by
  refine ⟨quiet9 rfl rfl c, ?_⟩
  rintro - b ⟨-, x, hx, hd | ⟨-, hd | ⟨-, t, ht, -⟩⟩⟩
  · obtain ⟨-, rfl⟩ := get_single hx
    exact absurd hd.1 (by decide)
  · obtain ⟨-, rfl⟩ := get_single hx
    rw [classIn, h] at hd
    cases hd
  · obtain ⟨-, rfl⟩ := get_single hx
    cases ht

theorem nothing_waits {s : State} (h : s.bus.devices = []) (c : Cycle) : cycleOver s c := by
  refine ⟨⟨⟨?_, ?_⟩, ?_⟩, ?_⟩
  · rintro - - b n ⟨x, hx, -⟩
    rw [h] at hx
    cases hx
  · rintro - b ⟨-, x, hx, -⟩
    rw [h] at hx
    cases hx
  · rintro - b ⟨-, x, hx, -⟩
    rw [h] at hx
    cases hx
  · rintro - b ⟨-, -, x, hx, -⟩
    rw [h] at hx
    cases hx

theorem test_hyp_BusSendsWhatIsDueInItsTurn :
    let plain := withPedestal (deviceIn .pedestal .online)
    let c := Cycle.start
    let wrapped : State := { withPedestal unhurried with bus := { (withPedestal unhurried).bus with
      cycle := { c with slowPosition := 9 } } }
    let spent : State := { base with bus := { base.bus with cycle := { c with sent := true } } }
    busTurn (withPedestal differs) (.outputs 9) { c with imaged := [9] } ∧
    busTurn (withPedestal commanded) (.oneShot 9) { c with stage := .oneShots, position := 9 } ∧
    busTurn plain (.poll 9) { c with stage := .fast, position := 9, fastPolled := [9] } ∧
    busTurn (withPedestal unhurried) (.poll 9) { c with stage := .done, slowPosition := 9 } ∧
    busTurn wrapped (.poll 9) { c with stage := .done, slowPosition := 9 } ∧
    (plain.active = true ∧ plain.Ordered ∧ plain.bus.devices.get 9 = some (deviceIn .pedestal .online) ∧
      commanded.slot ≠ none) ∧
    (∀ x, ¬busTurn (exchanging (.poll false)) (.poll 9) x) ∧ (exchanging (.poll false)).bus.exchange ≠ none ∧
    (base.active = true ∧ base.Ordered ∧ base.bus.exchange = none ∧ cycleOver base c ∧ base.bus.cycle.sent = false ∧
      base.bus.cycle.empty < 8) ∧
    (spent.bus.exchange = none ∧ cycleOver spent spent.bus.cycle ∧ spent.bus.cycle.sent = true ∧
      cycleOver spent (cycleAfter spent.bus.cycle)) ∧
    8 ≤ ({ c with empty := 8 } : Cycle).empty := by
  refine ⟨⟨rfl, .inl ⟨9, .inl ⟨rfl, by decide, rfl, rfl, 0, ⟨differs, rfl, rfl, .inl rfl, rfl, by decide⟩, ?_⟩⟩⟩,
    ⟨rfl, .inl ⟨9, .inr (.inl ⟨idle9 rfl _, .head _, ⟨⟨by decide, commanded, rfl, rfl, by decide⟩, ?_⟩, rfl, rfl⟩)⟩⟩,
    ⟨rfl, .inl ⟨9, .inr (.inr (.inl ⟨quiet9 rfl rfl _, .head _, ⟨⟨by decide, _, rfl, .inr ⟨by decide, .inl rfl⟩⟩, ?_⟩,
      rfl, rfl⟩))⟩⟩,
    ⟨rfl, .inl ⟨9, .inr (.inr (.inr ⟨slow9 _ rfl, by decide, rfl, rfl, .inl ⟨⟨⟨by decide, by decide, _, rfl, rfl,
      by decide⟩, by decide⟩, ?_⟩⟩))⟩⟩,
    ⟨rfl, .inl ⟨9, .inr (.inr (.inr ⟨slow9 _ rfl, by decide, rfl, rfl, .inr ⟨⟨⟨by decide, by decide, _, rfl, rfl,
      by decide⟩, ?_⟩, ?_⟩⟩))⟩⟩,
    ⟨rfl, by constructor <;> decide, rfl, by decide⟩, fun x h => (nomatch h.1), by decide,
    ⟨rfl, by constructor <;> decide, rfl, nothing_waits rfl _, rfl, by decide⟩,
    ⟨rfl, nothing_waits rfl _, rfl, nothing_waits rfl _⟩, by decide⟩
  · rintro x n ⟨d, hx, -, -, hd, -⟩
    obtain ⟨rfl, rfl⟩ := get_single hx
    cases hd
    exact .inr ⟨rfl, Nat.le_refl _⟩
  · rintro b ⟨-, d, hx, -⟩
    exact Nat.le_of_eq (get_single hx).1.symm
  · rintro b ⟨-, d, hx, -⟩
    exact Nat.le_of_eq (get_single hx).1.symm
  · rintro b ⟨⟨-, -, d, hx, -⟩, -⟩
    exact Nat.le_of_eq (get_single hx).1.symm
  · rintro b ⟨-, -, d, hx, -⟩
    exact Nat.le_of_eq (get_single hx).1.symm
  · rintro b ⟨-, -, d, hx, -⟩
    exact Nat.le_of_eq (get_single hx).1

/-- A frame of pedestal 9 with a function and a payload. -/
def frame9 (function : Byte) (p : List Byte) : BusReply :=
  let r : BusReply := ⟨9, function, 0, BitVec.ofNat 8 p.length, p, 0⟩
  { r with crc := busCrc r }

theorem test_hyp_StatusReplyBringsADeviceOnline :
    let x : SideStatus := parseSide (List.replicate 16 0) 0
    let pressed : Device := { deviceIn .pedestal .online with stored := some (.pedestal { x with button := 1, plug := true } x) }
    let stored : Outlet := { outletIn .live with readback := .closed }
    (exchanging (.poll false)).active = true ∧
    (exchanging (.poll false)).bus.exchange = some ⟨9, .poll false, false, 0⟩ ∧
    (exchanging (.poll false)).bus.devices.get 9 = some (deviceIn .pedestal .online) ∧
    whole ⟨9, .poll false, false, 0⟩ (frame9 0x81 (List.replicate 16 0)) ∧
    (parseStatus .pedestal (frame9 0x81 (List.replicate 16 0)).payload).isSome = true ∧
    parseStatus .pedestal (List.replicate 16 0) = some (.pedestal x x) ∧
    (parseStatus .gate (List.replicate 7 0)).isSome = true ∧ (parseStatus .dispenser (List.replicate 23 0)).isSome = true ∧
    (WatchField.plugA ∈ pressed.watch ∧ WatchField.buttonA ∈ pressed.watch ∧ x.button ≠ 1 ∧ x.plug ≠ true) ∧
    marina.outlet.outlets.get 48 = some (outletIn .off) ∧
    (stored.readback ≠ .opened ∧ (outletIn .off).readback = .opened ∧ (outletIn .off).state ≠ .live) :=
  ⟨rfl, rfl, rfl, ⟨rfl, rfl, rfl⟩, rfl, rfl, rfl, rfl, by decide, rfl, by decide⟩

theorem test_hyp_MeterDeltasAndPayloadLayouts :
    let sold (x : Sale) : State := withDispenser (dispenserIn .delivering (some x))
    (withOutlet live48).outlet.outlets.get 48 = some live48 ∧ live48.session = some visit ∧
    findPosting 48 (withOutlet live48).charge.power = none ∧ (outletIn .off).session = none ∧
    ((findPosting 48 (posting none).charge.power).map (·.closing)) = some none ∧
    ((findPosting 48 (posting (some closing7)).charge.power).map (·.closing)) = some (some closing7) ∧
    ((withTap { tapIn .opened with session := some visit }).tap.taps.get 48 =
      some { tapIn .opened with session := some visit } ∧ findPosting 48 marina.charge.water = none) ∧
    ((sold sale7).fuel.dispensers.get 3 = some (dispenserIn .delivering (some sale7)) ∧ sale7.account = some 7) ∧
    ({ sale7 with account := none, grade := 1 } : Sale).account = none := by decide

theorem test_hyp_AcknowledgementsAndMissesAreTaken :
    let x : Exchange := ⟨9, .oneShot (.unlock 5), false, 0⟩
    let third : Device := { deviceIn .gate .online with slot := some ⟨.unlock 5, 3, false⟩ }
    let given : Reader := { reader3 with unlock := some ⟨556, some .unknown, .outside⟩ }
    let at_ (m : Nat) : Device := { deviceIn .gate .missing with misses := m }
    let stopped : Dispenser := { dispenserIn .delivering (some sale7) with stopRequested := true }
    ((exchanging (.setOutputs dark)).bus.exchange = some ⟨9, .setOutputs dark, false, 0⟩ ∧
      whole ⟨9, .setOutputs dark, false, 0⟩ (frame9 0x82 []) ∧ (frame9 0x82 []).flags.getLsbD 0 = false) ∧
    (let d : Device := { deviceIn .pedestal .online with slot := some ⟨.unlock 5, 1, false⟩ }
     d.slot = some ⟨.unlock 5, 1, false⟩ ∧ (⟨.unlock 5, 1, false⟩ : Slot).bit = (frame9 0x82 []).flags.getLsbD 0) ∧
    (¬whole ⟨9, .poll false, false, 0⟩ { frame9 0x82 [] with length := 1 }) ∧
    (whole ⟨9, .poll false, false, 0⟩ (frame9 0x82 []) ∧ (frame9 0x82 []).function ≠ 0x81) ∧
    (whole x (frame9 0x82 []) ∧ (⟨.unlock 5, 0, true⟩ : Slot).bit ≠ x.bit ∧
      ({ x with bit := true } : Exchange).bit ≠ (frame9 0x82 []).flags.getLsbD 0) ∧
    (dispenserIn .authorised (some sale7)).state = .authorised ∧ stopped.stopRequested = true ∧
    ((deviceIn .pedestal .online).slot = none ∧ third.slot ≠ none) ∧
    ((∃ z, third.slot = some z ∧ 3 ≤ z.count) ∧ (afterMiss 3 third).1 ≠ .lost ∧ (deviceIn .gate .lost).state = .lost) ∧
    ((afterMiss 3 (at_ 2)).1 = .lost ∧ (at_ 2).state ≠ .lost ∧ (afterMiss 3 (at_ 1)).1 ≠ .lost) ∧
    (marina.gate.readers.get 3 = some reader3 ∧ given.unlock = some ⟨556, some .unknown, .outside⟩ ∧
      marina.holder 556 = some pass7 ∧ pass7.presence = .outside) ∧
    (deviceIn .dispenser .online).kind = .dispenser ∧
    (marina.Ordered ∧ (withPedestal (deviceIn .pedestal .lost)).Ordered ∧
      ∀ d, (withPedestal (deviceIn .pedestal .lost)).bus.devices.get 9 = some d → d.state = .lost) ∧
    (marina.outletOfSide (outletIn .off).ref = some (48, outletIn .off) ∧
      marina.tapOfSide (tapIn .opened).ref = some (48, tapIn .closed)) := by
  unfold whole
  refine ⟨by decide, by decide, by decide, by decide, by decide, rfl, rfl, by decide, ⟨⟨_, rfl, by decide⟩, by decide, rfl⟩,
    by decide, by decide, rfl, ⟨by constructor <;> decide, by constructor <;> decide,
    fun d h => (get_single h).2 ▸ rfl⟩, by decide⟩

/-! ## Hypotheses met: trunk, reports and tallies -/

/-- A valid trunk frame to a destination, of a type. -/
def sent (dest type : Byte) : RxFrame :=
  let f : Frame := ⟨dest, 1, type, 2, []⟩
  ⟨f, 0, trunkCrc f 0, none⟩

theorem test_hyp_ReceivedTrunkFramesAreRouted :
    State.reset.phase ≠ .running ∧ marina.phase = .running ∧ marina.transparent = false ∧ marina.segment = 5 ∧
    goodFrame (sent 5 0x35) ∧ goodFrame (sent 63 0x40) ∧ goodFrame (sent 6 0xF0) ∧ goodFrame (sent 6 0x01) ∧
    ¬goodFrame { sent 5 1 with crc := (sent 5 1).crc + 1 } ∧ ¬goodFrame (sent 64 1) ∧
    marina.trunk.downConnected = false ∧ marina.trunk.intake = none ∧
    (List.replicate 8 (sent 63 1).frame).length = 8 := by
  unfold goodFrame
  decide

/-- A THRU entry and a LOCAL entry. -/
def thruEntry (m : Nat) : ThruEntry := ⟨(sent 63 1).frame, m⟩
def ownEntry (m : Nat) : LocalEntry := ⟨head5, .noRoute 1 2 3, m⟩

theorem test_hyp_TrunkPortsAndTransmitters :
    let busy := withTrunk fun t => { t with transmitting := some (.ownFrame head5 (.noRoute 1 2 3)) }
    let both (now : Nat) : State := { withTrunk fun t => { t with thru := [thruEntry 0], own := [ownEntry 0] } with now := now }
    marina.phase = .running ∧
    (withTrunk fun t => { t with heldEnd := some 500, pauseEnd := some 200 }).trunk.heldEnd = some 500 ∧
    ((both 200).trunk.thru = [thruEntry 0] ∧ (both 200).trunk.transmitting = none ∧
      (both 200).mgmt.config.upstreamPriority = .thruFirst ∧ ¬(both 200).mgmt.config.promoteAge < (both 200).now - 0) ∧
    (both 201).mgmt.config.promoteAge < (both 201).now - 0 ∧
    busy.trunk.transmitting ≠ none ∧ (marina.trunk.thru = [] ∧ marina.trunk.own = []) ∧
    (withTrunk fun t => { t with links := [.pause], down := [(sent 6 1).frame] }).trunk.links = [.pause] ∧
    (LocalFrame.report ⟨⟨.journal, 0⟩, .change, 0, false, false, .journal [] true⟩).journal? = some ([], true) := by decide

theorem queuedReport_of {s : State} {x : SourceId} (h : queuedReport s x) : s.reportQueued x = true := by
  have reports {f : LocalFrame} (h : isReportOf x f) : f.reports x = true := by
    rcases h with ⟨r, rfl, h⟩ | ⟨hc, r, rfl, h⟩
    · simp [LocalFrame.reports, h]
    · simp [LocalFrame.reports, hc, h]
  unfold State.reportQueued
  simp only [Bool.or_eq_true, List.any_eq_true]
  rcases h with ⟨e, he, h⟩ | ⟨h, f, ht, hf⟩ | ⟨r, hr, h⟩
  · exact .inl (.inl ⟨e, he, reports h⟩)
  · exact .inl (.inr (by rw [ht]; exact reports hf))
  · exact .inr (by rw [hr]; exact reports h)

/-- The marina with the berth source as given. -/
def sourced (r : SourceRecord) : State :=
  withTrunk fun t => { t with sources := [(sourceKey ⟨.berth, 48⟩, r), (sourceKey ⟨.sale, 0⟩, SourceRecord.clear)] }

theorem test_hyp_LocalSlotsAndReportsAreBuilt :
    let s := sourced ⟨true, some 4, none, none, none⟩
    let timed : State := { sourced ⟨false, none, some 9, none, none⟩ with
      mgmt := { base.mgmt with config := { base.mgmt.config with modes := ClassMap.all .periodic } } }
    (queued 16 marina).active = true ∧ 16 ≤ (queued 16 marina).trunk.own.length ∧
    ({ marina with mgmt := { marina.mgmt with work := .reply ⟨1, 2, 3, .refused .busy⟩ } } : State).trunk.own.length < 16 ∧
    (withTrunk fun t => { t with noRoute := some ⟨1, 2, 3⟩ }).trunk.noRoute = some ⟨1, 2, 3⟩ ∧
    s.Ordered ∧ SourceId.wf ⟨.berth, 48⟩ = true ∧
    due s (sourceKey ⟨.berth, 48⟩) ⟨true, some 4, none, none, none⟩ ∧
    (∀ k q, due s k q → dueAt ⟨true, some 4, none, none, none⟩ < dueAt q ∨
      dueAt ⟨true, some 4, none, none, none⟩ = dueAt q ∧ sourceKey ⟨.berth, 48⟩ ≤ k) ∧
    (s.bodyOf ⟨.berth, 48⟩).isSome = true ∧
    due timed (sourceKey ⟨.berth, 48⟩) ⟨false, none, some 9, none, none⟩ ∧
    (∀ k r, ¬due (sourced SourceRecord.clear) k r) := by
  have unqueued (r : SourceRecord) (x : SourceId) : ¬queuedReport (sourced r) x := fun h =>
    absurd (queuedReport_of h) (by simp [State.reportQueued, sourced, withTrunk, marina, base, State.reset, TrunkUnit.start,
      ManagementUnit.start, Work.reply?])
  have source {r q : SourceRecord} {k : Nat} (h : (sourced r).trunk.sources.get k = some q) :
      k = sourceKey ⟨.berth, 48⟩ ∧ q = r ∨ q = SourceRecord.clear := by
    unfold sourced withTrunk at h
    simp only [Table.get] at h
    split at h
    · exact .inl ⟨Eq.symm ‹_›, (Option.some.inj h).symm⟩
    · split at h
      · exact .inr (Option.some.inj h).symm
      · cases h
  refine ⟨rfl, by decide, by decide, rfl, by constructor <;> decide, rfl,
    ⟨by decide, unqueued _ _, .inl ⟨rfl, .inl rfl⟩⟩, ?_, by decide,
    ⟨by decide, fun h => absurd (queuedReport_of h) (by decide), .inr ⟨by decide, .inl rfl⟩⟩, ?_⟩
  · rintro k q ⟨h, -, m⟩
    rcases source h with ⟨rfl, rfl⟩ | rfl
    · exact .inr ⟨rfl, Nat.le_refl _⟩
    · rcases m with m | m
      · cases m.1
      · exact absurd rfl m.1
  · rintro k r ⟨h, -, m⟩
    rcases source h with ⟨-, rfl⟩ | rfl
    all_goals
      rcases m with m | m
      · cases m.1
      · exact absurd rfl m.1

theorem test_hyp_ReadReturnsTheReport :
    let c : Instr := .read (.fields ⟨8, 0⟩)
    let f : LocalFrame := .report ⟨⟨.sale, 0⟩, .change, 0, false, false, .journal [] false⟩
    let going : State := withTrunk fun t => { t with transmitting := some (.ownFrame head5 f) }
    Meets (.read (.fields ⟨11, 0⟩)) marina (fun _ => ReportClass.ofCode 11 = none) ∧
    Meets (.read (.fields ⟨1, 49⟩)) marina (fun _ => SourceId.wf ⟨.berth, 49⟩ = false) ∧
    Meets (.read (.fields ⟨1, 48⟩)) marina (fun s => s.source ⟨.berth, 48⟩ = none) ∧
    Meets c marina (fun s => s.source ⟨.sale, 0⟩ = some SourceRecord.clear ∧ ¬queuedReport s ⟨.sale, 0⟩ ∧
      (s.bodyOf ⟨.sale, 0⟩).isSome = true) ∧
    Meets c (withTrunk fun t => { t with own := [⟨head5, f, 0⟩] })
      (fun s => s.source ⟨.sale, 0⟩ ≠ none ∧ queuedReport s ⟨.sale, 0⟩) ∧
    Meets (.read (.fields ⟨3, 48⟩)) (withTrunk fun t => { t with sources := [(sourceKey ⟨.tap, 48⟩, SourceRecord.clear)] })
      (fun s => s.source ⟨.tap, 48⟩ ≠ none ∧ ¬queuedReport s ⟨.tap, 48⟩ ∧ (s.bodyOf ⟨.tap, 48⟩).isSome = true ∧
        s.tap.taps.get 48 = some (tapIn .closed)) ∧
    Meets c going (fun s => queuedReport s ⟨.sale, 0⟩) := by
  refine ⟨meets rfl (by decide), meets rfl (by decide), meets rfl (by decide),
    meets rfl ⟨by decide, fun h => absurd (queuedReport_of h) (by decide), by decide⟩,
    meets rfl ⟨by decide, .inl ⟨_, List.mem_singleton_self _, .inl ⟨_, rfl, rfl⟩⟩⟩,
    meets rfl ⟨by decide, fun h => absurd (queuedReport_of h) (by decide), by decide, by decide⟩,
    meets rfl (.inr (.inl ⟨_, _, rfl, .inl ⟨_, rfl, rfl⟩⟩))⟩

theorem test_hyp_MarksTimersAndSilence :
    marina.source ⟨.berth, 48⟩ = none ∧ marina.source ⟨.sale, 0⟩ = some SourceRecord.clear ∧
    base.outlet.raw = base.conditions ∧ marina.outlet.raw ≠ marina.conditions ∧
    (sourced ⟨false, none, none, some 60000, none⟩).source ⟨.berth, 48⟩ = some ⟨false, none, none, some 60000, none⟩ ∧
    sourceKey ⟨.berth, 48⟩ ≠ sourceKey ⟨.alarm, 0⟩ ∧
    (marina.active = true ∧ marina.trunk.lost = false) ∧
    (bothWait.trunk.lost = false ∧ waitingOnce bothWait bothWait.gate.queries) ∧ (withTrunk fun t => { t with lost := true }).trunk.lost = true := by
  refine ⟨?_, ?_, ?_, ?_, ?_, ?_, ?_, ⟨?_, waitingOnce_both⟩, ?_⟩ <;> decide

theorem test_hyp_FreezeEndsAndPagesAreRead :
    Meets (.freezeRelease (.fields ())) marina (fun s => s.tally.freeze = none) ∧
    Meets (.freezeRelease (.fields ())) (freezing marina) (fun s => s.tally.freeze = some frozen) ∧
    Meets (.readTally (.fields 5)) (freezing marina) (fun s => s.tally.freeze = some frozen ∧ 4 + (1 + 7) / 8 ≤ 5) ∧
    Meets (.readTally (.fields 4)) (freezing marina) (fun _ => 4 ≤ 4 ∧ 4 < 4 + (1 + 7) / 8) ∧
    Meets (.readTally (.fields 0)) marina (fun s => s.tally.freeze = none) ∧
    ((freezing marina).active = true ∧ marina.tally.freeze = none) := by
  refine ⟨meets rfl ?_, meets rfl ?_, meets rfl ?_, meets rfl ?_, meets rfl ?_, ?_⟩ <;> decide

theorem test_hyp_tables_and_queues :
    marina.Ordered ∧ marina.Bounded ∧ marina.OneReport ∧ step marina = .next marina.tick := by
  refine ⟨by constructor <;> decide, by constructor <;> decide, ?_, rfl⟩
  exact List.nodup_nil

/-! ## One step of each family -/

theorem test_step_power_and_reset :
    (after (.powerOn ⟨5, false, true⟩) marina).map (·.phase) = some .startUp ∧
    (after .resetAsserted marina) = some State.reset ∧
    (after (.resetReleased ⟨5, false, false⟩) State.reset).map (·.segment) = some 5 ∧
    ((after (.powerOn ⟨5, false, false⟩) marina).bind (after .startupComplete)).map (·.outlet.raw) =
      some { RawStatus.all false with tideStale := true, clockInvalid := true, serviceHold := true } := by decide

theorem test_step_berths :
    reply (.openBerth (.fields 48)) (withBerth .closed) = some [.accepted [] (.berthState 48 7 .free)] ∧
    reply (.closeBerth (.fields 48)) marina = some [.refused .wrongState] ∧
    reply (.book (.fields (book 48))) (withBerth .free) = some [.accepted [] (.berthState 48 7 .held)] ∧
    reply (.confirm (.fields ⟨48, none, none⟩)) (withBerth .held) = some [.accepted [] (.berthState 48 7 .occupied)] ∧
    reply (.decline (.fields 48)) (withBerth .offered) = some [.accepted [] (.berthState 48 7 .free)] ∧
    reply (.depart (.fields 48)) marina = some [.accepted [] (.berthState 48 7 .free)] ∧
    reply (.berthRead (.fields 48)) (withBerth .offered) =
      some [.accepted [] (.berth 48 ((withBerth .offered).berthView (berthIn .offered)))] ∧
    ((withBerth .offered).berthView (berthIn .offered)).remaining = some 5 := by decide

theorem test_step_allocation_and_tide :
    reply (.allocate (.fields ⟨7, { yacht with power := 0 }, false, none⟩)) (withBerth .free) =
      some [.accepted [.tideStale] (.allocated 48 7 90 0)] ∧
    reply (.allocate (.fields ⟨7, { yacht with power := 0 }, false, some .unlisted⟩)) (withBerth .free) =
      some [.refused .outOfRange] ∧
    reply (.tide (.fields ⟨1201, 50, 0⟩)) marina = some [.accepted [.clamped] .none] ∧
    ((after (.offerTimerExpiry 48) (withBerth .offered)).bind fun s => s.berth.berths.get 48).map (·.state) =
      some .free := by decide

theorem test_step_local_frames :
    (after .unknownType (withIntake ⟨false, 0x60, 7, none⟩)).map answers = some [.refused .unknownType] ∧
    (after .broadcastDiscard (withIntake ⟨true, 0x04, 7, some .restart⟩)).map (·.trunk.localDiscards) = some 1 ∧
    (after (.time .badLength) (withIntake ⟨false, 0x02, 7, none⟩)).map answers = some [.refused .badLength] ∧
    reply (.segmentConfig (.fields [⟨1, 0, 3601⟩])) base =
      some [.accepted [.clamped] (.config { SegmentConfig.defaults with offerTime := 3600 })] ∧
    reply (.time (.fields 9)) base = some [.accepted [] (.time 0 false)] ∧
    reply (.restart (.fields ())) marina = some [.accepted [] .none] := by decide

theorem test_step_charge_engine :
    let s : State := { posting none with
      charge := { (posting none).charge with tariff := [(1, ⟨38, 0, 0, 0⟩)] } }
    (after .powerPosting s).bind (fun t => (t.account 7).map fun a => (a.balance, a.power)) = some (4953, 47) ∧
    (after .powerPosting s).bind (fun t => (t.outlet.outlets.get 48).bind fun o => o.session.map (·.residual)) =
      some 646 ∧
    (after .officeOperation (withOffice (.topUp ⟨7, 100⟩) marina)).map answers =
      some [.accepted [] (.toppedUp 5100 .good)] ∧
    (after .officeOperation (withOffice (.accountLoad load8) marina)).map answers =
      some [.accepted [] (.accountLoaded 8 .suspended 2)] ∧
    (after .officeOperation (withOffice .closePeriod (freezing marina))).map answers =
      some [.accepted [] (.closed 1)] := by decide

theorem test_step_outlets :
    ((after (.outletLoad (.fields load48)) (told (.outletLoad (.fields load48)) marina)).bind
      fun s => s.outlet.outlets.get 48).map (·.address) = some 126 ∧
    reply (.forceOff (.fields 48)) (overriding live48) = some [.accepted [] (.outletLock 48 .off true)] ∧
    reply (.feederLoad (.fields ⟨3, 0, 10, 1, 0⟩)) marina = some [.accepted [] (.feeder 3 0 false)] ∧
    reply (.serviceHold (.fields ())) marina = some [.accepted [] .none] ∧
    ((marina.admissionCheck 48).outlet.outlets.get 48).map (·.reservation) = some (some ⟨128, 3⟩) := by decide

theorem test_step_protection_and_taps :
    reply (.clearFault (.fields ⟨.known .outlet, 48, none⟩)) (withOutlet (tripped48 .overcurrent)) =
      some [.accepted [] (.outletLatches .live (KindMap.all false))] ∧
    reply (.returnToService (.fields ⟨.known .tap, 48⟩)) (withTap { tapIn .locked with outOfService := true }) =
      some [.accepted [] (.tapState 48 .closed)] ∧
    ((marina.buttonPress ⟨9, .a⟩).tap.taps.get 48).map (·.state) = some .opened ∧
    reply (.waterSuspend (.fields ())) (withTap { tapIn .opened with session := some visit }) =
      some [.accepted [] (.waterSuspend true 1)] := by decide

theorem test_step_fuel :
    (after (.authoriseSale (.fields ⟨3, 0, some 100, none⟩)) (told (.authoriseSale (.fields ⟨3, 0, some 100, none⟩))
      marina)).map (fun s => (s.fuel.dispensers.get 3).map (·.state)) = some (some .authorised) ∧
    ((after .holdServed (asking (.hold 6000))).bind fun s => s.account 7).map (·.held) = some 6000 ∧
    ((after .settleServed (asking (.settle 0 1999))).bind fun s => s.account 7).map (·.balance) = some 3001 ∧
    ((State.enterSettling false 3 3120 false (withDispenser (dispenserIn .delivering (some { sale7 with
      account := none, price := 176 })))).fuel.sales.map (·.amount)) = [some 5491] ∧
    reply (.tankAdd (.fields ⟨0, 1, none⟩)) marina = some [.accepted [] (.tank 0 ⟨9001, 100, false⟩)] := by decide

theorem test_step_gate :
    ((marina.gateCard 3 556).gate.journal.map (·.decision)) = [.granted] ∧
    ((marina.gateCard 3 557).gate.queries) = [⟨557, .gate 3, 0, 1500⟩] ∧
    ((after (.queryTimeout (.gate 3)) (waitingFor 556)).map fun s => s.gate.journal.map (·.decision)) =
      some [.officeTimeout] ∧
    reply (.credentialFill (.fields fill)) marina = some [.accepted [] (.credential 44 0)] ∧
    reply (.invalidate (.fields (.all false))) marina = some [.accepted [] (.invalidated 1)] := by decide

theorem test_step_bus :
    (after (.poll 9) marina).map (·.bus.exchange) = some (some ⟨9, .poll false, false, 0⟩) ∧
    ((after (.statusReply (frame9 0x81 (List.replicate 16 0))) (exchanging (.poll false))).bind fun s =>
      s.bus.devices.get 9).map (·.state) = some .online ∧
    ((after .replyTimeout (exchanging (.poll false))).bind fun s => s.bus.devices.get 9).map
      (fun d => (d.state, d.misses)) = some (.missing, 1) ∧
    reply (.deviceRemove (.fields 12)) marina = some [.accepted [] .none] ∧
    (after .cycleWithNothingToSend base).map (·.bus.cycle.counter) = some 1 := by decide

theorem test_step_trunk :
    (after (.upFrameReceived (sent 5 0x35)) marina).map (·.trunk.intake) =
      some (some ⟨false, 0x35, 2, some .serviceHold⟩) ∧
    (after (.downFrameReceived (sent 63 0x40)) marina).map (·.trunk.thru.length) = some 1 ∧
    (after .upstreamTransmit (withTrunk fun t => { t with thru := [thruEntry 0] })).map (·.trunk.transmitting) =
      some (some (.thru (sent 63 1).frame)) ∧
    (after .upstreamSilenceExpiry marina).map (fun s => (s.trunk.lost, s.now)) = some (true, 5000) ∧
    (after .localSlotFill (sourced ⟨true, some 4, none, none, none⟩)).map (·.trunk.own.length) = some 1 := by decide

theorem test_step_tallies :
    reply (.freezeRelease (.fields ())) (freezing marina) = some [.accepted [] .none] ∧
    reply (.readTally (.fields 4)) (freezing marina) = some [.accepted [] (.page (.accounts [⟨7, 5000, 0, 0, 0⟩]))] ∧
    (after .freezeAutoRelease (freezing marina)).map (·.tally.lastEnd) = some (some .autoRelease) := by decide

theorem test_step_edges :
    let starting : State := { State.reset with phase := .startUp, straps := ⟨5, false, false⟩ }
    let fresh : Slot := ⟨.unlock 5, 0, true⟩
    let waitsAlone : State := { withOutlet (outletIn (.waiting false)) with outlet := {
      (withOutlet (outletIn (.waiting false))).outlet with
        feeders := [(3, { feeder3 with ring := [300] })], queue := [⟨48, false, 2, 0⟩] } }
    let replaced : State := { withPedestal { deviceIn .pedestal .online with slot := some fresh } with
      bus := { (withPedestal { deviceIn .pedestal .online with slot := some fresh }).bus with
        exchange := some ⟨9, .oneShot (.unlock 4), false, 0⟩ } }
    ((after (.portConnected .up) starting).bind fun s => s.source ⟨.status, 0⟩).map (·.mark) = some true ∧
    ((after (.ackReceived (frame9 0x82 [])) replaced).bind fun s => s.bus.devices.get 9).map (·.slot) = some (some fresh) ∧
    ((after (.startupComplete) { starting with straps := ⟨63, false, false⟩ }).map (·.outlet.raw.serviceHold)) = some true ∧
    (waitsAlone.compareMean 3).outlet.queue = [] := by decide

end Sys2Proof.Tests
end

section
/-! SUPPORT. How a command whose frame stands in the intake is carried out, what taking the frame leaves of the state, and
two facts of tables the look-ups rest on. -/

namespace Sys2Proof.Machine

open Sys2Proof Sys2Proof.Claim

/-! ## Tables -/

namespace Table

variable {α : Type}

/-- The entry a key reads as is one the table holds. -/
theorem mem_of_get {t : Table α} {n : Nat} {a : α} (h : t.get n = some a) : (n, a) ∈ t := by
  induction t with
  | nil => simp at h
  | cons p t ih =>
    obtain ⟨k, b⟩ := p
    unfold get at h
    split at h
    · next e => cases e; cases h; exact List.mem_cons_self
    · exact List.mem_cons_of_mem _ (ih h)

/-- In a table whose keys rise, every entry held is the one its key reads as. -/
theorem get_of_mem {t : Table α} (hs : sorted t = true) {n : Nat} {a : α} (h : (n, a) ∈ t) : t.get n = some a := by
  induction t with
  | nil => simp at h
  | cons p t ih =>
    obtain ⟨k, b⟩ := p
    rcases List.mem_cons.1 h with e | h
    · cases e; simp [get]
    · have hk : k ≠ n := (lt_of_sorted hs _ h).ne
      simp [get, hk, ih (sorted_tail hs) h]

end Table

/-! ## Taking a frame -/

section
variable (fr : IntakeFrame) (s : State)

@[simp] theorem State.taken_now : (s.taken fr).now = s.now := rfl
@[simp] theorem State.taken_berth : (s.taken fr).berth = s.berth := rfl
@[simp] theorem State.taken_charge : (s.taken fr).charge = s.charge := rfl
@[simp] theorem State.taken_account (n : Nat) : (s.taken fr).account n = s.account n := rfl

@[simp] theorem State.taken_config : (s.taken fr).mgmt.config = s.mgmt.config := by
  unfold State.taken; split <;> rfl

@[simp] theorem State.taken_clock : (s.taken fr).mgmt.clock = s.mgmt.clock := by
  unfold State.taken; split <;> rfl

@[simp] theorem State.taken_timeValid : (s.taken fr).mgmt.timeValid = s.mgmt.timeValid := by
  unfold State.taken; split <;> rfl

end

/-- A local command whose frame is ready completes with what its act makes of the state the frame is taken from. -/
theorem exec_of_takes {α : Type} {c : Instr} {type : Byte} {mk : α → LocalBody} {a : α} {fr : IntakeFrame} {s : State}
    {act : IntakeFrame → α → State → State} {ans : Answer} {effect : State}
    (hx : exec c s = localCommand type mk (.fields a) act s) (hf : frameOf c = some (type, some (mk a)))
    (h : takes c fr s) (hact : act fr a (s.taken fr) = effect.answer fr ans) : exec c s = done fr ans effect := by
  obtain ⟨type', body, hf', ha, hw, hi, ht, hb, hc⟩ := h
  obtain ⟨rfl, rfl⟩ : type = type' ∧ mk a = body := by simpa [hf] using hf'
  rw [hx, localCommand_fields act ha hw hi ht hb hc, hact, done]

/-- A unit's event in an active part completes with its effect. -/
theorem exec_of_active {c : Instr} {s : State} {act : State → State} (hx : exec c s = unitEvent act s)
    (h : s.active = true) : exec c s = acted (act s) := by
  rw [hx, unitEvent_active h, acted]

end Sys2Proof.Machine
end

section
/-! SUPPORT. What the berth commands do (01 R2 to R10), case by case. -/

namespace Sys2Proof.Machine

open Sys2Proof Sys2Proof.Claim

/-! ## The shared checks and updates -/

theorem indexOk_iff {i : Nat} : indexOk i = true ↔ 1 ≤ i ∧ i ≤ 48 :=
  decide_eq_true_iff

section
variable {fr : IntakeFrame} {i : Nat} {s : State} {act : Berth → State}

theorem State.withBerth_outOfRange (h : ¬(1 ≤ i ∧ i ≤ 48)) : s.withBerth fr i act = s.refuse fr .outOfRange := by
  have : indexOk i = false := by simpa using mt indexOk_iff.1 h
  simp [State.withBerth, this]

theorem State.withBerth_notFound (h : 1 ≤ i ∧ i ≤ 48) (hb : s.berth.berths.get i = none) :
    s.withBerth fr i act = s.refuse fr .notFound := by
  simp [State.withBerth, indexOk_iff.2 h, hb]

theorem State.withBerth_loaded {b : Berth} (h : 1 ≤ i ∧ i ≤ 48) (hb : s.berth.berths.get i = some b) :
    s.withBerth fr i act = act b := by
  simp [State.withBerth, indexOk_iff.2 h, hb]

end

theorem State.acceptBerth_loaded {fr : IntakeFrame} {i : Nat} {b : Berth} {s : State}
    (hb : s.berth.berths.get i = some b) :
    s.acceptBerth fr i = s.accept fr [] (.berthState i b.label b.state) := by
  simp [State.acceptBerth, hb]

theorem State.changeBerth_get (i : Nat) (b : Berth) (r : BerthReason) (s : State) :
    (s.changeBerth i b r).berth.berths.get i = some { b with reason := r } := by
  simp [State.changeBerth]

/-- A command that changed a berth, and then what leaves the berths alone, answers with the state it gave the berth. -/
theorem State.acceptBerth_changed {fr : IntakeFrame} {i : Nat} {b : Berth} {r : BerthReason} {s t : State}
    (h : (s.changeBerth i b r).Leaves t) : t.acceptBerth fr i = t.accept fr [] (.berthState i b.label b.state) :=
  State.acceptBerth_loaded (b := { b with reason := r }) (by rw [h.berth]; exact State.changeBerth_get i b r s)

/-! ## BERTH LOAD (01 R2) -/

/-- The service side a load gives: none at all, or a side of a pedestal whose address is in range. -/
theorem serviceOf_eq_some_iff {x : Option SideFields} {service : Option SideRef} :
    serviceOf x = some service ↔
      (x = none ∧ service = none ∨ ∃ y side, x = some y ∧ y.side = .known side ∧ 1 ≤ y.address ∧ y.address ≤ 126 ∧
        service = some ⟨y.address, side⟩) := by
  unfold serviceOf
  cases x with
  | none => simp [eq_comm]
  | some y =>
    obtain ⟨address, side⟩ := y
    cases side with
    | unlisted => simp
    | known side =>
      by_cases h : 1 ≤ address ∧ address ≤ 126
      · simp [busAddressOk, h, eq_comm]
      · have hno : busAddressOk address = false := decide_eq_false h
        simpa [hno] using fun h1 h126 => absurd (And.intro h1 h126) h

/-- The fields are in their ranges where the three checks of the model say so. -/
theorem berthRange_iff {f : BerthLoad} {cls : BerthClass} {service : Option SideRef} :
    berthRange f cls service ↔ f.cls = .known cls ∧ serviceOf f.service = some service ∧ berthLoadOk f = true := by
  simp only [berthRange, serviceOf_eq_some_iff, berthLoadOk, Bool.and_eq_true, indexOk_iff, decide_eq_true_eq]
  tauto

theorem BerthState.engaged_iff {x : BerthState} : x.engaged = true ↔ x = .offered ∨ x = .held ∨ x = .occupied := by
  cases x <;> simp [BerthState.engaged]

/-- Another berth names the service side a load gives. -/
def State.serviceNamed (s : State) (i : Nat) (service : Option SideRef) : Bool :=
  service.isSome && s.berth.berths.any fun p => decide (p.1 ≠ i ∧ p.2.service = service)

theorem State.serviceNamed_iff {s : State} {i : Nat} {service : Option SideRef} :
    s.serviceNamed i service = true ↔ ∃ p ∈ s.berth.berths, p.1 ≠ i ∧ service ≠ none ∧ p.2.service = service := by
  cases service <;> simp [State.serviceNamed]

/-- A BERTH LOAD stores a berth, whose source then exists and is marked, and answers with its state. -/
def State.loadBerth (fr : IntakeFrame) (i : Nat) (b : Berth) (s : State) : State :=
  (((s.setBerth i b).createSource .berth i).mark .berth i).accept fr [] (.berthLoaded i b.state)

section
variable {fr : IntakeFrame} {f : BerthLoad} {s : State}

theorem berthLoadAct_outOfRange (h : ∀ cls service, ¬berthRange f cls service) :
    berthLoadAct fr f s = s.refuse fr .outOfRange := by
  unfold berthLoadAct
  split
  · next cls service hc hv =>
    have : berthLoadOk f = false := by
      simpa [berthRange_iff, hc, hv] using h cls service
    simp [this]
  · rfl

variable {cls : BerthClass} {service : Option SideRef}

theorem berthLoadAct_exists (h : berthRange f cls service) (hn : s.serviceNamed f.index service = true) :
    berthLoadAct fr f s = s.refuse fr .exists := by
  obtain ⟨hc, hv, hok⟩ := berthRange_iff.1 h
  unfold State.serviceNamed at hn
  simp only [berthLoadAct, hc, hv, hok, hn]
  rfl

theorem berthLoadAct_absent (h : berthRange f cls service) (hn : s.serviceNamed f.index service = false)
    (hb : s.berth.berths.get f.index = none) :
    berthLoadAct fr f s = s.loadBerth fr f.index
      ⟨f.label, cls, f.maxLength, f.maxBeam, f.depth, service, .closed, none, none, none, none, .loaded⟩ := by
  obtain ⟨hc, hv, hok⟩ := berthRange_iff.1 h
  unfold State.serviceNamed at hn
  simp only [berthLoadAct, hc, hv, hok, hn, hb]
  rfl

theorem berthLoadAct_wrongState {b : Berth} (h : berthRange f cls service)
    (hn : s.serviceNamed f.index service = false) (hb : s.berth.berths.get f.index = some b)
    (he : b.state.engaged = true) (hc : b.cls ≠ cls ∨ b.service ≠ service) :
    berthLoadAct fr f s = s.refuse fr .wrongState := by
  obtain ⟨hcls, hv, hok⟩ := berthRange_iff.1 h
  unfold State.serviceNamed at hn
  simp only [berthLoadAct, hcls, hv, hok, hn, hb, he, hc]
  rfl

theorem berthLoadAct_loaded {b : Berth} (h : berthRange f cls service)
    (hn : s.serviceNamed f.index service = false) (hb : s.berth.berths.get f.index = some b)
    (hc : ¬(b.state.engaged = true ∧ (b.cls ≠ cls ∨ b.service ≠ service))) :
    berthLoadAct fr f s = s.loadBerth fr f.index { b with
      label := f.label, cls := cls, maxLength := f.maxLength, maxBeam := f.maxBeam, depth := f.depth
      service := service, reason := .loaded } := by
  obtain ⟨hcls, hv, hok⟩ := berthRange_iff.1 h
  have hk : (b.state.engaged && decide (b.cls ≠ cls ∨ b.service ≠ service)) = false := by simpa using hc
  unfold State.serviceNamed at hn
  simp only [berthLoadAct, hcls, hv, hok, hn, hb, hk]
  rfl

end

/-! ## OPEN BERTH, CLOSE BERTH, DECLINE and DEPART (01 R5, R6, R9, R10) -/

section
variable {fr : IntakeFrame} {i : Nat} {b : Berth} {r : SideRef} {s : State} (hi : 1 ≤ i ∧ i ≤ 48)
  (hb : s.berth.berths.get i = some b)
include hi hb

theorem openBerthAct_closed (hs : b.state = .closed) :
    openBerthAct fr i s =
      (s.changeBerth i { b with state := .free } .opened).accept fr [] (.berthState i b.label .free) := by
  rw [openBerthAct, State.withBerth_loaded hi hb]
  simp only [hs]
  exact State.acceptBerth_changed (.refl _)

theorem openBerthAct_free (hs : b.state = .free) :
    openBerthAct fr i s = s.accept fr [] (.berthState i b.label .free) := by
  rw [openBerthAct, State.withBerth_loaded hi hb]
  simp only [hs]
  rw [State.acceptBerth_loaded hb, hs]

theorem openBerthAct_engaged (hs : b.state.engaged = true) :
    openBerthAct fr i s = s.refuse fr .wrongState := by
  rw [openBerthAct, State.withBerth_loaded hi hb]
  rcases BerthState.engaged_iff.1 hs with hs | hs | hs <;> simp only [hs]

theorem closeBerthAct_free (hs : b.state = .free) :
    closeBerthAct fr i s =
      (s.changeBerth i { b with state := .closed } .closed).accept fr [] (.berthState i b.label .closed) := by
  rw [closeBerthAct, State.withBerth_loaded hi hb]
  simp only [hs]
  exact State.acceptBerth_changed (.refl _)

theorem closeBerthAct_closed (hs : b.state = .closed) :
    closeBerthAct fr i s = s.accept fr [] (.berthState i b.label .closed) := by
  rw [closeBerthAct, State.withBerth_loaded hi hb]
  simp only [hs]
  rw [State.acceptBerth_loaded hb, hs]

theorem closeBerthAct_engaged (hs : b.state.engaged = true) : closeBerthAct fr i s = s.refuse fr .wrongState := by
  rw [closeBerthAct, State.withBerth_loaded hi hb]
  rcases BerthState.engaged_iff.1 hs with hs | hs | hs <;> simp only [hs]

theorem declineAct_waiting (hs : b.state = .offered ∨ b.state = .held) :
    declineAct fr i s = (s.freeBerth i b .declined).accept fr [] (.berthState i b.label .free) := by
  rw [declineAct, State.withBerth_loaded hi hb]
  rcases hs with hs | hs <;> simp only [hs] <;> exact State.acceptBerth_changed (.refl _)

theorem declineAct_wrongState (ho : b.state ≠ .offered) (hh : b.state ≠ .held) :
    declineAct fr i s = s.refuse fr .wrongState := by
  rw [declineAct, State.withBerth_loaded hi hb]
  cases hs : b.state <;> simp_all

theorem departAct_unserved (hs : b.state = .occupied) (hv : b.service = none) :
    departAct fr i s = (s.freeBerth i b .departed).accept fr [] (.berthState i b.label .free) := by
  rw [departAct, State.withBerth_loaded hi hb]
  simp only [hs, hv]
  exact State.acceptBerth_changed (.refl _)

theorem departAct_served (hs : b.state = .occupied) (hv : b.service = some r) :
    departAct fr i s =
      (((s.freeBerth i b .departed).cutSide r .depart).flushAttempts).accept fr [] (.berthState i b.label .free) := by
  rw [departAct, State.withBerth_loaded hi hb]
  simp only [hs, hv]
  exact State.acceptBerth_changed (State.flushAttempts_leaves (State.cutSide_leaves r .depart (.refl _)))

theorem departAct_wrongState (hs : b.state ≠ .occupied) :
    departAct fr i s = s.refuse fr .wrongState := by
  rw [departAct, State.withBerth_loaded hi hb]
  cases h : b.state <;> simp_all

end

/-! ## BOOK (01 R7) -/

section
variable {fr : IntakeFrame} {f : Book} {s : State}

theorem bookAct_missing (h : f.account = none ∨ f.vessel = none ∨ f.arriveBy = none) :
    bookAct fr f s = s.refuse fr .outOfRange := by
  unfold bookAct
  split
  · next ha hv ht => simp [ha, hv, ht] at h
  · rfl

variable {n : Nat} {v : Vessel} {t : Clock}

theorem bookAct_outOfRange (ha : f.account = some n) (hv : f.vessel = some v) (ht : f.arriveBy = some t)
    (h : accountOk n = false ∨ vesselOk v = false) : bookAct fr f s = s.refuse fr .outOfRange := by
  simp only [bookAct, ha, hv, ht]
  exact if_pos (by rcases h with h | h <;> simp [h])

/-- An index out of range is refused whatever the other fields are. -/
theorem bookAct_index (hi : ¬(1 ≤ f.index ∧ f.index ≤ 48)) : bookAct fr f s = s.refuse fr .outOfRange := by
  unfold bookAct
  split
  · split
    · rfl
    · exact State.withBerth_outOfRange hi
  · rfl

section
variable (ha : f.account = some n) (hv : f.vessel = some v) (ht : f.arriveBy = some t) (hn : accountOk n = true)
  (hvs : vesselOk v = true)
include ha hv ht hn hvs

/-- A BOOK with its fields in range checks the berth, its state and the account, in this order. -/
theorem bookAct_inRange :
    bookAct fr f s = s.withBerth fr f.index fun b =>
      if b.state ≠ .free then s.refuse fr .wrongState
      else if (s.account n).isNone then s.refuse fr .notFound
      else
        (s.changeBerth f.index { b with
          state := .held, account := some n, vessel := some v
          expiry := some (bookingExpiry t s.mgmt.config.noShowGrace) } .booked).acceptBerth fr f.index := by
  simp only [bookAct, ha, hv, ht]
  exact if_neg (by simp [hn, hvs])

variable (hi : 1 ≤ f.index ∧ f.index ≤ 48)
include hi

theorem bookAct_absent (hb : s.berth.berths.get f.index = none) : bookAct fr f s = s.refuse fr .notFound :=
  (bookAct_inRange ha hv ht hn hvs).trans (State.withBerth_notFound hi hb)

variable {b : Berth} (hb : s.berth.berths.get f.index = some b)
include hb

theorem bookAct_wrongState (hs : b.state ≠ .free) : bookAct fr f s = s.refuse fr .wrongState := by
  rw [bookAct_inRange ha hv ht hn hvs, State.withBerth_loaded hi hb, if_pos hs]

theorem bookAct_notFound (hs : b.state = .free) (hp : s.account n = none) : bookAct fr f s = s.refuse fr .notFound := by
  rw [bookAct_inRange ha hv ht hn hvs, State.withBerth_loaded hi hb, if_neg (not_not.2 hs), hp]
  rfl

theorem bookAct_books (hs : b.state = .free) (hp : s.account n ≠ none) :
    bookAct fr f s = (s.changeBerth f.index { b with
      state := .held, account := some n, vessel := some v
      expiry := some (bookingExpiry t s.mgmt.config.noShowGrace) } .booked).accept fr []
        (.berthState f.index b.label .held) := by
  rw [bookAct_inRange ha hv ht hn hvs, State.withBerth_loaded hi hb, if_neg (not_not.2 hs), if_neg (by simpa using hp)]
  exact State.acceptBerth_changed (.refl _)

end

end

/-! ## CONFIRM (01 R8) -/

section
variable {fr : IntakeFrame} {f : Confirm} {s : State} {b : Berth} {r : SideRef}

/-- The fields a CONFIRM gives are in their ranges. -/
def confirmOk (f : Confirm) : Bool := optOk accountOk f.account && optOk vesselOk f.vessel

/-- A CONFIRM may take the berth: a FREE one with account and vessel given, an OFFERED or a HELD one. -/
def Confirmable (f : Confirm) (b : Berth) : Prop :=
  b.state = .free ∧ f.account ≠ none ∧ f.vessel ≠ none ∨ b.state = .offered ∨ b.state = .held

theorem confirmAct_outOfRange (h : confirmOk f = false) : confirmAct fr f s = s.refuse fr .outOfRange := by
  rw [confirmOk] at h
  rw [confirmAct, h]
  rfl

theorem confirmAct_index (hi : ¬(1 ≤ f.index ∧ f.index ≤ 48)) : confirmAct fr f s = s.refuse fr .outOfRange := by
  unfold confirmAct
  split
  · rfl
  · exact State.withBerth_outOfRange hi

theorem confirmAct_absent (hok : confirmOk f = true) (hi : 1 ≤ f.index ∧ f.index ≤ 48)
    (hb : s.berth.berths.get f.index = none) : confirmAct fr f s = s.refuse fr .notFound := by
  rw [confirmOk] at hok
  rw [confirmAct, hok]
  exact State.withBerth_notFound hi hb

section
variable (hok : confirmOk f = true) (hi : 1 ≤ f.index ∧ f.index ≤ 48) (hb : s.berth.berths.get f.index = some b)
include hok hi hb

theorem confirmAct_wrongState (hs : b.state = .closed ∨ b.state = .occupied) :
    confirmAct fr f s = s.refuse fr .wrongState := by
  rw [confirmOk] at hok
  rw [confirmAct, hok, State.withBerth_loaded hi hb]
  rcases hs with hs | hs <;> simp only [hs] <;> rfl

theorem confirmAct_missing (hs : b.state = .free) (h : f.account = none ∨ f.vessel = none) :
    confirmAct fr f s = s.refuse fr .outOfRange := by
  rw [confirmOk] at hok
  rw [confirmAct, hok, State.withBerth_loaded hi hb]
  have : (f.account.isNone || f.vessel.isNone) = true := by simpa using h
  simp only [hs, this]
  rfl

variable (hc : Confirmable f b)
include hc

/-- A berth that may be confirmed is, where its account is present, and its service side is evaluated. -/
theorem confirmAct_confirmable :
    confirmAct fr f s =
      if ((confirmed f b).account.bind s.account).isNone then s.refuse fr .notFound
      else
        (b.service.elim (s.changeBerth f.index (confirmed f b) .confirmed) fun r =>
          (s.changeBerth f.index (confirmed f b) .confirmed).evalSide r .depart).acceptBerth fr f.index := by
  rw [confirmOk] at hok
  rw [confirmAct, hok, State.withBerth_loaded hi hb]
  have hv : b.state = .free → (f.account.isNone || f.vessel.isNone) = false := by
    rcases hc with ⟨-, ha, hv⟩ | hs | hs
    · simpa using fun _ => ⟨Option.isSome_iff_ne_none.2 ha, Option.isSome_iff_ne_none.2 hv⟩
    · simp [hs]
    · simp [hs]
  rcases hc with ⟨hs, -⟩ | hs | hs <;> simp only [hs, hv] <;> cases b.service <;> rfl

theorem confirmAct_notFound (ha : (confirmed f b).account.bind s.account = none) :
    confirmAct fr f s = s.refuse fr .notFound := by
  rw [confirmAct_confirmable hok hi hb hc, ha]
  rfl

theorem confirmAct_unserved (ha : (confirmed f b).account.bind s.account ≠ none) (hv : b.service = none) :
    confirmAct fr f s = (s.changeBerth f.index (confirmed f b) .confirmed).accept fr []
      (.berthState f.index b.label .occupied) := by
  rw [confirmAct_confirmable hok hi hb hc, if_neg (by simpa using ha), hv]
  exact State.acceptBerth_changed (.refl _)

theorem confirmAct_served (ha : (confirmed f b).account.bind s.account ≠ none) (hv : b.service = some r) :
    confirmAct fr f s = ((s.changeBerth f.index (confirmed f b) .confirmed).evalSide r .depart).accept fr []
      (.berthState f.index b.label .occupied) := by
  rw [confirmAct_confirmable hok hi hb hc, if_neg (by simpa using ha), hv]
  exact State.acceptBerth_changed (State.evalSide_leaves r .depart (.refl _))

end

end

end Sys2Proof.Machine
end

section
/-! SUPPORT. What the timers of the berth unit and the tide record do (01 R11 to R14, R16). -/

namespace Sys2Proof.Machine

open Sys2Proof Sys2Proof.Claim

/-! ## Offers and bookings that lapse (01 R11, R12) -/

theorem State.offerExpiry_offered {i : Nat} {b : Berth} {e : Nat} {s : State} (hb : s.berth.berths.get i = some b)
    (hs : b.state = .offered) (he : b.offerEnd = some e) :
    s.offerExpiry i = (s.advanceTo e).freeBerth i b .expired := by
  simp only [State.offerExpiry, hb, hs, he]

/-- A booking the no-show test frees: a HELD berth whose expiry is before a valid clock. -/
def Lapsed (m : ManagementUnit) (b : Berth) : Prop :=
  b.state = .held ∧ m.timeValid = true ∧ ∃ e, b.expiry = some e ∧ e < m.clock

theorem State.noShowTest_absent {i : Nat} {s : State} (hb : s.berth.berths.get i = none) : s.noShowTest i = s := by
  simp [State.noShowTest, hb]

theorem State.noShowTest_lapsed {i : Nat} {b : Berth} {s : State} (hb : s.berth.berths.get i = some b)
    (hl : Lapsed s.mgmt b) : s.noShowTest i = s.freeBerth i b .noShow := by
  obtain ⟨hs, hv, e, he, hlt⟩ := hl
  simp [State.noShowTest, hb, hs, he, hv, hlt]

theorem State.noShowTest_standing {i : Nat} {b : Berth} {s : State} (hb : s.berth.berths.get i = some b)
    (hl : ¬Lapsed s.mgmt b) : s.noShowTest i = s := by
  unfold State.noShowTest
  simp only [hb]
  split
  · next e hs he =>
    refine if_neg fun h => hl ?_
    obtain ⟨hv, hlt⟩ : s.mgmt.timeValid = true ∧ e < s.mgmt.clock := by simpa using h
    exact ⟨hs, hv, e, he, hlt⟩
  · rfl

@[simp] theorem State.noShowTest_mgmt (i : Nat) (s : State) : (s.noShowTest i).mgmt = s.mgmt := by
  cases hb : s.berth.berths.get i with
  | none => rw [State.noShowTest_absent hb]
  | some b =>
    by_cases hl : Lapsed s.mgmt b
    · rw [State.noShowTest_lapsed hb hl]; rfl
    · rw [State.noShowTest_standing hb hl]

/-- A berth freed by the no-show test. -/
def Berth.noShow (b : Berth) : Berth := { b.freed with reason := .noShow }

/-- A FREE berth is not freed again. -/
theorem not_lapsed_noShow (m : ManagementUnit) (b : Berth) : ¬Lapsed m b.noShow := fun h => BerthState.noConfusion h.1

theorem State.noShowTest_get_ne {i j : Nat} (s : State) (h : j ≠ i) :
    (s.noShowTest i).berth.berths.get j = s.berth.berths.get j := by
  cases hb : s.berth.berths.get i with
  | none => rw [State.noShowTest_absent hb]
  | some b =>
    by_cases hl : Lapsed s.mgmt b
    · rw [State.noShowTest_lapsed hb hl]
      exact Table.get_set_ne _ _ h
    · rw [State.noShowTest_standing hb hl]

/-- Tests of the berths in turn leave a berth as it stands, where its booking has not lapsed. -/
theorem State.noShowFold_standing {i : Nat} {b : Berth} (l : List Nat) {s : State}
    (hb : s.berth.berths.get i = some b) (hl : ¬Lapsed s.mgmt b) :
    (l.foldl (fun t j => t.noShowTest j) s).berth.berths.get i = some b := by
  induction l generalizing s with
  | nil => exact hb
  | cons j l ih =>
    refine ih ?_ (by rwa [State.noShowTest_mgmt])
    by_cases hj : i = j
    · subst hj
      exact (congrArg (·.berth.berths.get i) (State.noShowTest_standing hb hl)).trans hb
    · rwa [State.noShowTest_get_ne s hj]

/-- Tests of the berths in turn free a berth whose booking has lapsed, once its turn comes. -/
theorem State.noShowFold_lapsed {i : Nat} {b : Berth} {l : List Nat} {s : State}
    (hb : s.berth.berths.get i = some b) (hl : Lapsed s.mgmt b) (hi : i ∈ l) :
    (l.foldl (fun t j => t.noShowTest j) s).berth.berths.get i = some b.noShow := by
  induction l generalizing s with
  | nil => cases hi
  | cons j l ih =>
    by_cases hj : i = j
    · refine State.noShowFold_standing l ?_ (not_lapsed_noShow _ b)
      subst hj
      exact (congrArg (·.berth.berths.get i) (State.noShowTest_lapsed hb hl)).trans (State.changeBerth_get i _ _ s)
    · have hmem : i ∈ l := (List.mem_cons.1 hi).resolve_left hj
      exact ih (by rwa [State.noShowTest_get_ne s hj]) (by rwa [State.noShowTest_mgmt]) hmem

/-! ## Tide (01 R13, R14) -/

theorem State.tideIsStale_iff {s : State} :
    s.tideIsStale = true ↔ s.berth.tide = none ∨
      ∃ t, s.berth.tide = some t ∧ s.mgmt.config.tideStaleLimit < (s.now - t.taken) / 1000 := by
  unfold State.tideIsStale
  cases s.berth.tide with
  | none => simp
  | some t => simp only [decide_eq_true_eq]; simp [Tide.age]

/-- Staleness is presented as it is at the test. -/
theorem State.testTide_tideStale (s : State) : s.testTide.berth.tideStale = s.tideIsStale := by
  unfold State.testTide
  split
  · assumption
  · rfl

@[simp] theorem State.testTide_now (s : State) : s.testTide.now = s.now := by unfold State.testTide; split <;> rfl
@[simp] theorem State.testTide_mgmt (s : State) : s.testTide.mgmt = s.mgmt := by unfold State.testTide; split <;> rfl

theorem State.tideExpiry_fresh {t : Tide} {s : State} (ht : s.berth.tide = some t) (hs : s.berth.tideStale = false) :
    s.tideExpiry = (s.advanceTo (t.taken + (s.mgmt.config.tideStaleLimit + 1) * 1000)).testTide := by
  simp [State.tideExpiry, ht, hs]

theorem State.usableTide_stale {s : State} (h : s.tideIsStale = true) : s.usableTide = s.mgmt.config.tideFloor := by
  simp [State.usableTide, h]

theorem State.usableTide_fresh {t : Tide} {s : State} (h : s.tideIsStale = false) (ht : s.berth.tide = some t) :
    s.usableTide = min t.current t.low := by
  simp [State.usableTide, h, ht]

end Sys2Proof.Machine
end

section
/-! SUPPORT. How ALLOCATE chooses a berth (01 R15 to R20). -/

namespace Sys2Proof.Machine

open Sys2Proof Sys2Proof.Claim

/-! ## The choice of a berth (01 R17 to R19) -/

section
variable {v : Vessel}

theorem leastWaste_eq_none_iff {l : Table Berth} : leastWaste v l = none ↔ l = [] := by
  cases l with
  | nil => simp [leastWaste]
  | cons p l =>
    unfold leastWaste
    split
    · simp
    · split <;> simp

/-- The choice from a list is its head or the choice from the rest, whichever wastes less, and the head of equals. -/
theorem leastWaste_cons {p q : Nat × Berth} {l : Table Berth} (h : leastWaste v (p :: l) = some q) :
    q = p ∧ (∀ r, leastWaste v l = some r → waste v p.2 ≤ waste v r.2) ∨
      leastWaste v l = some q ∧ waste v q.2 < waste v p.2 := by
  unfold leastWaste at h
  split at h
  · next hn => exact .inl ⟨by simpa using h.symm, by simp [hn]⟩
  · next r hr =>
    split at h
    · next hlt =>
      obtain rfl : r = q := by simpa using h
      exact .inr ⟨hr, hlt⟩
    · next hle =>
      refine .inl ⟨by simpa using h.symm, fun r' hr' => ?_⟩
      obtain rfl : r = r' := by simpa [hr] using hr'
      exact Nat.not_lt.1 hle

theorem leastWaste_mem {q : Nat × Berth} {l : Table Berth} (h : leastWaste v l = some q) : q ∈ l := by
  induction l with
  | nil => simp [leastWaste] at h
  | cons p l ih =>
    rcases leastWaste_cons h with ⟨rfl, -⟩ | ⟨hq, -⟩
    · exact List.mem_cons_self
    · exact List.mem_cons_of_mem _ (ih hq)

theorem leastWaste_le {q : Nat × Berth} {l : Table Berth} (h : leastWaste v l = some q) :
    ∀ p ∈ l, waste v q.2 ≤ waste v p.2 := by
  induction l generalizing q with
  | nil => simp
  | cons p l ih =>
    intro r hr
    rcases leastWaste_cons h with ⟨rfl, hle⟩ | ⟨hq, hlt⟩ <;> rcases List.mem_cons.1 hr with rfl | hr
    · exact le_rfl
    · cases hc : leastWaste v l with
      | none => simp [leastWaste_eq_none_iff.1 hc] at hr
      | some q' => exact (hle q' hc).trans (ih hc r hr)
    · exact hlt.le
    · exact ih hq r hr

/-- In a table whose keys rise, the choice has the lowest key among those of its waste. -/
theorem leastWaste_lowest {q : Nat × Berth} {l : Table Berth} (hs : Table.sorted l = true)
    (h : leastWaste v l = some q) : ∀ p ∈ l, waste v p.2 = waste v q.2 → q.1 ≤ p.1 := by
  induction l generalizing q with
  | nil => simp
  | cons p l ih =>
    intro r hr he
    rcases leastWaste_cons h with ⟨rfl, -⟩ | ⟨hq, hlt⟩ <;> rcases List.mem_cons.1 hr with rfl | hr
    · exact le_rfl
    · exact (Table.lt_of_sorted hs r hr).le
    · omega
    · exact ih (Table.sorted_tail hs) hq r hr he

end

/-- The berths that fit (01 R17). -/
def State.fitting (s : State) (f : Allocate) (mask : List BerthClass) : Table Berth :=
  s.berth.berths.filter fun p => s.berthFits f.vessel mask p.2

/-- The berths that fit and are power-capable (01 R18). -/
def State.capable (s : State) (f : Allocate) (mask : List BerthClass) : Table Berth :=
  (s.fitting f mask).filter fun p => s.powerCapable f.vessel p.2

/-- The berth is offered without the power asked for: no berth that fits is power-capable (01 R19). -/
def State.powerless (s : State) (f : Allocate) (mask : List BerthClass) : Bool :=
  decide (f.vessel.power ≠ 0) && (s.capable f mask).isEmpty

/-- The berths the choice is made from (01 R19): those that fit where no power is asked, those power-capable where there
are such, and those that fit again where ACCEPT_NO_POWER is given. -/
def State.offerable (s : State) (f : Allocate) (mask : List BerthClass) : Table Berth :=
  if f.vessel.power = 0 then s.fitting f mask
  else if s.powerless f mask then if f.acceptNoPower then s.fitting f mask else []
  else s.capable f mask

section
variable {s : State} {f : Allocate} {mask : List BerthClass}

/-- The choice is that of least waste among the candidates. -/
theorem State.chooseBerth_eq :
    s.chooseBerth f mask = (leastWaste f.vessel (s.offerable f mask)).map (·, s.powerless f mask) := by
  change (if f.vessel.power = 0 then (leastWaste f.vessel (s.fitting f mask)).map (·, false)
    else match leastWaste f.vessel (s.capable f mask) with
      | some p => some (p, false)
      | none => if f.acceptNoPower then (leastWaste f.vessel (s.fitting f mask)).map (·, true) else none) = _
  unfold State.offerable State.powerless
  by_cases hp : f.vessel.power = 0
  · simp [hp]
  · cases hc : leastWaste f.vessel (s.capable f mask) with
    | none =>
      have he := leastWaste_eq_none_iff.1 hc
      by_cases ha : f.acceptNoPower = true <;> simp [hp, he, ha, leastWaste]
    | some p =>
      have he : (s.capable f mask).isEmpty = false := by
        simpa using List.ne_nil_of_mem (leastWaste_mem hc)
      simp [hp, he, hc]

theorem State.mem_fitting {p : Nat × Berth} :
    p ∈ s.fitting f mask ↔ p ∈ s.berth.berths ∧ s.berthFits f.vessel mask p.2 = true := List.mem_filter

theorem State.mem_capable {p : Nat × Berth} :
    p ∈ s.capable f mask ↔
      (p ∈ s.berth.berths ∧ s.berthFits f.vessel mask p.2 = true) ∧ s.powerCapable f.vessel p.2 = true := by
  rw [State.capable, List.mem_filter, State.mem_fitting]

theorem State.powerless_iff : s.powerless f mask = true ↔ f.vessel.power ≠ 0 ∧ ∀ q, q ∉ s.capable f mask := by
  simp [State.powerless, List.isEmpty_iff, List.eq_nil_iff_forall_not_mem]

/-- Where no berth that fits has the power asked for, those that fit are candidates, if ACCEPT_NO_POWER is given. -/
theorem State.mem_offerable_powerless {p : Nat × Berth} (h : s.powerless f mask = true) :
    p ∈ s.offerable f mask ↔ f.acceptNoPower = true ∧ p ∈ s.fitting f mask := by
  rw [State.offerable, if_neg (State.powerless_iff.1 h).1, if_pos h]
  cases f.acceptNoPower <;> simp

/-- Otherwise the candidates are the berths that fit, with power where it is asked. -/
theorem State.mem_offerable_powered {p : Nat × Berth} (h : s.powerless f mask = false) :
    p ∈ s.offerable f mask ↔
      p ∈ s.fitting f mask ∧ (f.vessel.power ≠ 0 → s.powerCapable f.vessel p.2 = true) := by
  unfold State.offerable
  by_cases hp : f.vessel.power = 0
  · simp [hp]
  · simp [hp, h, State.capable]

/-- Who the candidates are, by the power asked for. -/
theorem State.mem_offerable {p : Nat × Berth} :
    p ∈ s.offerable f mask ↔
      f.vessel.power = 0 ∧ p ∈ s.fitting f mask ∨ f.vessel.power ≠ 0 ∧ p ∈ s.capable f mask ∨
        f.vessel.power ≠ 0 ∧ (∀ q, q ∉ s.capable f mask) ∧ f.acceptNoPower = true ∧ p ∈ s.fitting f mask := by
  cases h : s.powerless f mask with
  | true =>
    obtain ⟨hp, hn⟩ := State.powerless_iff.1 h
    simp [State.mem_offerable_powerless h, hp, hn]
  | false =>
    have hn : ¬(f.vessel.power ≠ 0 ∧ ∀ q, q ∉ s.capable f mask) := by
      rw [← State.powerless_iff, h]
      simp
    rw [State.mem_offerable_powered h, State.capable, List.mem_filter]
    tauto

/-- The candidates stand in the order of the berth table. -/
theorem State.offerable_sorted (h : s.Ordered) : Table.sorted (s.offerable f mask) = true := by
  have hf : Table.sorted (s.fitting f mask) = true := Table.sorted_filter _ _ h.berths
  unfold State.offerable
  split
  · exact hf
  · split
    · split
      · exact hf
      · rfl
    · exact Table.sorted_filter _ _ hf

theorem State.chooseBerth_eq_none_iff : s.chooseBerth f mask = none ↔ ∀ p, p ∉ s.offerable f mask := by
  rw [State.chooseBerth_eq, Option.map_eq_none_iff, leastWaste_eq_none_iff, List.eq_nil_iff_forall_not_mem]

theorem State.chooseBerth_eq_some {p : Nat × Berth} {powerless : Bool} (h : s.chooseBerth f mask = some (p, powerless)) :
    leastWaste f.vessel (s.offerable f mask) = some p ∧ powerless = s.powerless f mask := by
  rw [State.chooseBerth_eq] at h
  obtain ⟨q, hq, he⟩ := Option.map_eq_some_iff.1 h
  obtain ⟨rfl, rfl⟩ := Prod.mk.inj he
  exact ⟨hq, rfl⟩

end

theorem State.berthFits_iff {s : State} {v : Vessel} {mask : List BerthClass} {b : Berth} :
    s.berthFits v mask b = true ↔ b.state = .free ∧ b.cls ∈ mask ∧ v.loa ≤ b.maxLength ∧ v.beam ≤ b.maxBeam ∧
      (s.mgmt.config.keelClearance : Int) ≤ b.depth + s.usableTide - v.draft := by
  simp [State.berthFits, and_assoc]

theorem State.powerCapable_iff {s : State} {v : Vessel} {b : Berth} :
    s.powerCapable v b = true ↔ ∃ r i o f, b.service = some r ∧ s.outletOfSide r = some (i, o) ∧
      s.outlet.feeders.get o.feeder = some f ∧ v.power * 10 ≤ o.rating ∧ o.state ≠ .outOfService ∧
      s.reservedSum o.feeder + (o.rating * f.diversity + 99) / 100 ≤ f.capacity := by
  unfold State.powerCapable
  cases hr : b.service with
  | none => simp
  | some r =>
    cases ho : s.outletOfSide r with
    | none => simp [ho]
    | some p =>
      obtain ⟨i, o⟩ := p
      cases hf : s.outlet.feeders.get o.feeder with
      | none => simp [ho, hf]
      | some f => simp only [Option.bind_some, ho, hf, decide_eq_true_eq]; simp [figureOf, ho, hf]

/-- The outlet of a side is the loaded one that names the side. -/
theorem State.outletOfSide_eq_some {s : State} {r : SideRef} {i : Nat} {o : Outlet}
    (hs : Table.sorted s.outlet.outlets = true) (h : s.outletOfSide r = some (i, o)) :
    s.outlet.outlets.get i = some o ∧ o.address = r.address ∧ o.side = r.side := by
  have hmem := List.mem_of_find?_eq_some h
  have hp := List.find?_some h
  exact ⟨Table.get_of_mem hs hmem, by simpa using hp⟩

/-! ## ALLOCATE (01 R15, R20) -/

section
variable {fr : IntakeFrame} {f : Allocate} {s : State}

theorem classesAsked_eq_some {mask : List BerthClass}
    (h : f.classMask = none ∧ mask = [.visitor] ∨ f.classMask = some (.known mask)) :
    classesAsked f = some mask := by
  rcases h with ⟨h, rfl⟩ | h <;> simp [classesAsked, h]

theorem allocateAct_outOfRange
    (h : accountOk f.account = false ∨ vesselOk f.vessel = false ∨ f.classMask = some .unlisted) :
    allocateAct fr f s = s.refuse fr .outOfRange := by
  unfold allocateAct
  split
  · rfl
  · next mask hm =>
    have hc : f.classMask ≠ some .unlisted := fun hc => by simp [classesAsked, hc] at hm
    exact if_pos (by rcases h with h | h | h <;> simp_all)

section
variable {mask : List BerthClass} (hm : classesAsked f = some mask) (ha : accountOk f.account = true)
  (hv : vesselOk f.vessel = true)
include hm ha hv

theorem allocateAct_notFound (hp : s.account f.account = none) : allocateAct fr f s = s.refuse fr .notFound := by
  simp [allocateAct, hm, ha, hv, hp]

theorem allocateAct_noFit (hp : s.account f.account ≠ none) (hc : s.testTide.chooseBerth f mask = none) :
    allocateAct fr f s = s.testTide.refuse fr .noFit := by
  simp [allocateAct, hm, ha, hv, hp, hc]

theorem allocateAct_offers {i : Nat} {b : Berth} {powerless : Bool} (hp : s.account f.account ≠ none)
    (hc : s.testTide.chooseBerth f mask = some ((i, b), powerless)) :
    allocateAct fr f s =
      (s.testTide.changeBerth i { b with
        state := .offered, account := some f.account, vessel := some f.vessel
        offerEnd := some (s.now + s.mgmt.config.offerTime * 1000) } .offered).accept fr
          (flagIf s.testTide.tideIsStale .tideStale ++ flagIf powerless .powerUnavailable)
          (.allocated i b.label (waste f.vessel b) s.testTide.usableTide) := by
  simp [allocateAct, hm, ha, hv, hp, hc]

end

end

end Sys2Proof.Machine
end

section
/-! The statements of chapter 1, each settled from the lemmas above. -/

namespace Sys2Proof.Machine

open Sys2Proof Sys2Proof.Claim

/-- Settles O14: with the fields in range, by the cases of the service side named elsewhere, the entry absent, and the
entry loaded. -/
theorem berthLoadStoresABerth : Obligations.BerthLoadStoresABerth := by
  intro f fr s h
  have run {ans : Answer} {effect : State} (ha : berthLoadAct fr f (s.taken fr) = effect.answer fr ans) :
      exec (.berthLoad (.fields f)) s = done fr ans effect := exec_of_takes rfl rfl h ha
  have unnamed {service : Option SideRef}
      (hn : ¬∃ p ∈ s.berth.berths, p.1 ≠ f.index ∧ service ≠ none ∧ p.2.service = service) :
      (s.taken fr).serviceNamed f.index service = false := eq_false_of_ne_true (mt State.serviceNamed_iff.1 hn)
  refine ⟨fun hr => run (berthLoadAct_outOfRange hr), fun cls service hr => ⟨fun hn => ?_, fun hn hb => ?_,
    fun b hn hb => ⟨fun ⟨he, hc⟩ => ?_, fun hc => ?_⟩⟩⟩
  · exact run (berthLoadAct_exists hr (State.serviceNamed_iff.2 hn))
  · exact run (berthLoadAct_absent hr (unnamed hn) hb)
  · exact run (berthLoadAct_wrongState hr (unnamed hn) hb (BerthState.engaged_iff.2 he) hc)
  · exact run (berthLoadAct_loaded hr (unnamed hn) hb (by rwa [BerthState.engaged_iff]))

/-- Settles O15: the entry read is given as its view, which holds its fields as they stand. -/
theorem berthReadReturnsTheBerth : Obligations.BerthReadReturnsTheBerth := by
  intro i fr s h
  have run {ans : Answer} {effect : State} (ha : berthReadAct fr i (s.taken fr) = effect.answer fr ans) :
      exec (.berthRead (.fields i)) s = done fr ans effect := exec_of_takes rfl rfl h ha
  exact ⟨fun hi => run (State.withBerth_outOfRange hi), fun hi hb => run (State.withBerth_notFound hi hb),
    fun b hi hb => run (State.withBerth_loaded hi hb)⟩

/-- OPEN BERTH and CLOSE BERTH, by the states of the berth. -/
theorem openAndCloseBerth : Claim.OpenAndCloseBerth := by
  intro i b fr s h1 h48 hb
  have hi := And.intro h1 h48
  refine ⟨fun h => ?_, fun h => ?_⟩
  · have run {ans : Answer} {effect : State} (ha : openBerthAct fr i (s.taken fr) = effect.answer fr ans) :
        exec (.openBerth (.fields i)) s = done fr ans effect := exec_of_takes rfl rfl h ha
    exact ⟨fun hs => run (openBerthAct_closed hi hb hs), fun hs => run (openBerthAct_free hi hb hs),
      fun hs => run (openBerthAct_engaged hi hb hs)⟩
  · have run {ans : Answer} {effect : State} (ha : closeBerthAct fr i (s.taken fr) = effect.answer fr ans) :
        exec (.closeBerth (.fields i)) s = done fr ans effect := exec_of_takes rfl rfl h ha
    exact ⟨fun hs => run (closeBerthAct_free hi hb hs), fun hs => run (closeBerthAct_closed hi hb hs),
      fun hs => run (closeBerthAct_engaged hi hb hs)⟩

/-- The four commands on a berth begin with the same two checks. -/
theorem berthCommandsNameALoadedBerth : Claim.BerthCommandsNameALoadedBerth := by
  intro c i fr s hc h
  have checked : ∃ act, ∀ ans effect, (s.taken fr).withBerth fr i act = State.answer fr ans effect →
      exec c s = done fr ans effect := by
    unfold berthCommand at hc
    split at hc <;> cases hc
    all_goals exact ⟨_, fun ans effect ha => exec_of_takes rfl rfl h ha⟩
  obtain ⟨act, run⟩ := checked
  exact ⟨fun hi => run _ _ (State.withBerth_outOfRange hi),
    fun h1 h48 hb => run _ _ (State.withBerth_notFound ⟨h1, h48⟩ hb)⟩

/-- DECLINE and DEPART, by the states of the berth. -/
theorem declineAndDepartFreeABerth : Claim.DeclineAndDepartFreeABerth := by
  intro i b fr s h1 h48 hb
  have hi := And.intro h1 h48
  refine ⟨fun h => ?_, fun h => ?_⟩
  · have run {ans : Answer} {effect : State} (ha : declineAct fr i (s.taken fr) = effect.answer fr ans) :
        exec (.decline (.fields i)) s = done fr ans effect := exec_of_takes rfl rfl h ha
    exact ⟨fun hs => run (declineAct_waiting hi hb hs), fun ho hh => run (declineAct_wrongState hi hb ho hh)⟩
  · have run {ans : Answer} {effect : State} (ha : departAct fr i (s.taken fr) = effect.answer fr ans) :
        exec (.depart (.fields i)) s = done fr ans effect := exec_of_takes rfl rfl h ha
    exact ⟨fun hs hv => run (departAct_unserved hi hb hs hv), fun r hs hv => run (departAct_served hi hb hs hv),
      fun hs => run (departAct_wrongState hi hb hs)⟩

/-- Settles O16, from its three parts. -/
theorem berthsAreOpenedClosedAndFreed : Obligations.BerthsAreOpenedClosedAndFreed :=
  ⟨openAndCloseBerth, berthCommandsNameALoadedBerth, declineAndDepartFreeABerth⟩

/-- BOOK, by its missing fields, the ranges of those given, and the berth. -/
theorem bookHoldsAFreeBerth : Claim.BookHoldsAFreeBerth := by
  intro f fr s h
  have run {ans : Answer} {effect : State} (ha : bookAct fr f (s.taken fr) = effect.answer fr ans) :
      exec (.book (.fields f)) s = done fr ans effect := exec_of_takes rfl rfl h ha
  refine ⟨fun hm => ?_, fun n v t ha hv ht h1 h48 => ⟨fun hr => run (bookAct_outOfRange ha hv ht hr), fun hn hvs => ?_⟩⟩
  · rcases hm with hm | hm | hm | hi
    · exact run (bookAct_missing (.inl hm))
    · exact run (bookAct_missing (.inr (.inl hm)))
    · exact run (bookAct_missing (.inr (.inr hm)))
    · exact run (bookAct_index hi)
  have hi := And.intro h1 h48
  refine ⟨fun hb => run (bookAct_absent ha hv ht hn hvs hi hb), fun b hb =>
    ⟨fun hs => run (bookAct_wrongState ha hv ht hn hvs hi hb hs),
      fun hs hp => run (bookAct_notFound ha hv ht hn hvs hi hb hs hp), fun hs hp => run ?_⟩⟩
  rw [bookAct_books (s := s.taken fr) ha hv ht hn hvs hi hb hs hp, State.taken_config]
  rfl

/-- CONFIRM, by the ranges of its fields and the states of the berth. -/
theorem confirmOccupiesABerth : Claim.ConfirmOccupiesABerth := by
  intro f fr s h
  have run {ans : Answer} {effect : State} (ha : confirmAct fr f (s.taken fr) = effect.answer fr ans) :
      exec (.confirm (.fields f)) s = done fr ans effect := exec_of_takes rfl rfl h ha
  refine ⟨fun hr => hr.elim (fun hok => run (confirmAct_outOfRange hok)) fun hi => run (confirmAct_index hi),
    fun hok h1 h48 hb => run (confirmAct_absent hok ⟨h1, h48⟩ hb), fun b hok h1 h48 hb => ?_⟩
  have hi := And.intro h1 h48
  exact ⟨fun hs => run (confirmAct_wrongState hok hi hb hs), fun hs hm => run (confirmAct_missing hok hi hb hs hm),
    fun hc => ⟨fun ha => run (confirmAct_notFound hok hi hb hc ha),
      fun ha hv => run (confirmAct_unserved hok hi hb hc ha hv),
      fun r ha hv => run (confirmAct_served hok hi hb hc ha hv)⟩⟩

/-- Settles O17, from its two parts. -/
theorem berthsAreBookedAndConfirmed : Obligations.BerthsAreBookedAndConfirmed :=
  ⟨bookHoldsAFreeBerth, confirmOccupiesABerth⟩

/-- The offer timer and the no-show test of one berth. -/
theorem oneOfferOrBookingLapses : Claim.OffersAndBookingsLapse := by
  intro i b s h hb
  refine ⟨fun e hs he => ?_, fun e hs he hv hlt => ?_, fun e hs he hn => ?_⟩
  · rw [exec_of_active rfl h, State.offerExpiry_offered hb hs he]
    rfl
  · rw [exec_of_active rfl h, State.noShowTest_lapsed hb ⟨hs, hv, e, he, hlt⟩]
    rfl
  · have hl : ¬Lapsed s.mgmt b := by
      rintro ⟨-, hv, e', he', hlt⟩
      obtain rfl : e = e' := by simpa [he] using he'
      rcases hn with hn | hle
      · simp [hn] at hv
      · exact absurd hlt (BitVec.not_lt.2 hle)
    rw [exec_of_active rfl h, State.noShowTest_standing hb hl]

/-- Every berth of the table has its turn, and keeps what the test made of it. -/
theorem noShowTestFreesEveryLapsedBooking : Claim.NoShowTestFreesEveryLapsedBooking := by
  intro s i b hb
  split
  · next hl => exact State.noShowFold_lapsed hb hl (List.mem_map_of_mem (Table.mem_of_get hb))
  · next hl => exact State.noShowFold_standing _ hb hl

/-- Settles O18, from its two parts. -/
theorem offersAndBookingsLapse : Obligations.OffersAndBookingsLapse :=
  ⟨oneOfferOrBookingLapses, noShowTestFreesEveryLapsedBooking⟩

/-- Settles O19: the frame stores the record, the test presents what the age says, and the expiry makes the test. -/
theorem tideIsStoredAndAges : Obligations.TideIsStoredAndAges := by
  refine ⟨fun f fr s h => exec_of_takes (act := tideAct) rfl rfl h ?_,
    fun s => ⟨s.testTide_tideStale, State.tideIsStale_iff⟩, fun s t h ht hs => ?_⟩
  · simp only [tideAct, State.clockValue, State.taken_timeValid, State.taken_clock, State.taken_now]
    rfl
  · rw [exec_of_active rfl h, State.tideExpiry_fresh ht hs]
    rfl

/-- ALLOCATE, by its fields, the account and the choice of a berth. -/
theorem allocateOffersTheChosenBerth : Claim.AllocateOffersTheChosenBerth := by
  intro f fr s h
  have run {ans : Answer} {effect : State} (ha : allocateAct fr f (s.taken fr) = effect.answer fr ans) :
      exec (.allocate (.fields f)) s = done fr ans effect := exec_of_takes rfl rfl h ha
  refine ⟨fun hr => run (allocateAct_outOfRange hr), fun mask hm ha hv =>
    ⟨fun hp => run (allocateAct_notFound (classesAsked_eq_some hm) ha hv hp), fun hp =>
      ⟨fun hc => run (allocateAct_noFit (classesAsked_eq_some hm) ha hv hp hc), fun i b powerless hc => run ?_⟩⟩⟩
  rw [allocateAct_offers (s := s.taken fr) (classesAsked_eq_some hm) ha hv hp hc, State.taken_config]
  rfl

/-- A berth is found where there is a candidate, and is the one of least waste and, of equals, of lower index. -/
theorem allocateFindsABerth : Claim.AllocateFindsABerth := by
  intro f mask s fits capable wanted
  have hcap : ∀ q, capable q ↔ q ∈ s.capable f mask := fun q => State.mem_capable.symm
  have hwanted : ∀ p, wanted p ↔ p ∈ s.offerable f mask := fun p => by
    simp only [State.mem_offerable, State.mem_fitting, State.mem_capable]
    rfl
  refine ⟨by simp only [hwanted]; exact State.chooseBerth_eq_none_iff, fun i b powerless h => ?_⟩
  obtain ⟨hq, rfl⟩ := State.chooseBerth_eq_some h
  refine ⟨(hwanted _).2 (leastWaste_mem hq), by simp only [hcap]; exact State.powerless_iff, fun ho p hp => ?_⟩
  have hp := (hwanted p).1 hp
  rcases (leastWaste_le hq p hp).lt_or_eq with hlt | he
  · exact .inl hlt
  · exact .inr ⟨he, leastWaste_lowest (State.offerable_sorted ho) hq p hp he.symm⟩

/-- The chosen berth is a candidate, and wastes no more than any other. -/
theorem chosenBerthHasLeastWaste : Claim.ChosenBerthHasLeastWaste := by
  intro s f mask i b powerless h
  obtain ⟨hq, hpl⟩ := State.chooseBerth_eq_some h
  have hmem := leastWaste_mem hq
  have hle := leastWaste_le hq
  cases powerless with
  | true =>
    have hoff (p : Nat × Berth) := State.mem_offerable_powerless (p := p) hpl.symm
    obtain ⟨ha, hfit⟩ := (hoff _).1 hmem
    obtain ⟨hb, hf⟩ := State.mem_fitting.1 hfit
    refine ⟨hb, hf, by simp, fun _ => ⟨ha, fun p hp hf => eq_false_of_ne_true fun hc => ?_⟩,
      fun p hp hf _ => hle p ((hoff p).2 ⟨ha, State.mem_fitting.2 ⟨hp, hf⟩⟩)⟩
    exact (State.powerless_iff.1 hpl.symm).2 p (State.mem_capable.2 ⟨⟨hp, hf⟩, hc⟩)
  | false =>
    have hoff (p : Nat × Berth) := State.mem_offerable_powered (p := p) hpl.symm
    obtain ⟨hfit, hc⟩ := (hoff _).1 hmem
    obtain ⟨hb, hf⟩ := State.mem_fitting.1 hfit
    exact ⟨hb, hf, fun hp _ => hc hp, by simp,
      fun p hp hf hc => hle p ((hoff p).2 ⟨State.mem_fitting.2 ⟨hp, hf⟩, fun h => hc ⟨h, rfl⟩⟩)⟩

/-- What fits, what is power-capable, and the usable tide. -/
theorem fitPowerAndUsableTide : Claim.FitPowerAndUsableTide := fun _ _ _ =>
  ⟨fun _ => State.berthFits_iff, rfl, State.powerCapable_iff,
    fun _ _ _ ho h => State.outletOfSide_eq_some ho.outlets h, State.usableTide_stale,
    fun _ h ht => State.usableTide_fresh h ht⟩

/-- Settles O20, from its four parts. -/
theorem allocateOffersTheBerthOfLeastWaste : Obligations.AllocateOffersTheBerthOfLeastWaste :=
  ⟨allocateOffersTheChosenBerth, chosenBerthHasLeastWaste, allocateFindsABerth, fitPowerAndUsableTide⟩

end Sys2Proof.Machine
end

section
/-! SUPPORT. What a step does as a whole: a property of the blocks that the units' operations keep, and that holds at
power-on, is kept by every step. -/

namespace Sys2Proof.Machine

open Sys2Proof Sys2Proof.Claim

theorem State.startTimers_keeps {before s : State} (h : before.Keeps s) : before.Keeps s.startTimers :=
  State.keeps_mk h

/-- The end of start-up keeps what the units' operations keep, but for the phase. -/
theorem State.begun_keeps (s : State) : s.Keeps s.begun := by
  unfold State.begun
  exact State.mark_keeps _ _ (State.markStatus_keeps (State.startTimers_keeps (State.createSource_keeps _ _
    (State.keeps_mk (.refl s)))))

/-- What the commands of power, reset and start-up can do: put every block at its power-on values, complete start-up, or
nothing. -/
theorem exec_of_restarts {c : Instr} {s t : State} (h : Instr.restarts c = true) (e : exec c s = .next t) :
    (∃ (straps : Straps) (phase : Phase),
      t = { State.reset with pending := s.pending, straps := straps, phase := phase }) ∨
    t = s ∨ t = State.begun { s with phase := .running } := by
  cases c with
  | powerOn straps => cases e; exact .inl ⟨straps, .startUp, rfl⟩
  | resetAsserted => cases e; exact .inl ⟨State.reset.straps, .held, rfl⟩
  | resetReleased straps =>
    by_cases hp : s.phase = .held
    · cases (if_pos hp).symm.trans e; exact .inl ⟨straps, .startUp, rfl⟩
    · cases (if_neg hp).symm.trans e; exact .inr (.inl rfl)
  | startupComplete =>
    by_cases hp : s.phase = .startUp
    · cases (if_pos hp).symm.trans e; exact .inr (.inr rfl)
    · cases (if_neg hp).symm.trans e; exact .inr (.inl rfl)
  | _ => cases h

/-- A property of the blocks that holds at power-on and that the units' operations keep is kept by every step. -/
theorem keptByStep_of_keeps {P : State → Prop} (reset : P State.reset)
    (blocks : ∀ (s : State) (pending : List Instr) (phase : Phase) (straps : Straps) (now : Nat), P s →
      P { s with pending := pending, phase := phase, straps := straps, now := now })
    (keeps : ∀ s t : State, s.Keeps t → P s → P t) : KeptByStep P := by
  intro s t hs e
  cases hp : s.pending with
  | nil =>
    cases (step_nil hp).symm.trans e
    exact blocks s s.pending s.phase s.straps (s.now + 1) hs
  | cons c rest =>
    have e := (step_cons hp).symm.trans e
    have hq : P { s with pending := rest } := blocks s rest s.phase s.straps s.now hs
    cases hc : Instr.restarts c with
    | false => exact keeps _ _ (exec_keeps hc e) hq
    | true =>
      obtain ⟨straps, phase, rfl⟩ | rfl | rfl := exec_of_restarts hc e
      · exact blocks State.reset rest phase straps State.reset.now reset
      · exact hq
      · exact keeps _ _ (State.begun_keeps _) (blocks s rest .running s.straps s.now hs)

theorem State.reset_ordered : State.reset.Ordered := by constructor <;> decide

theorem State.reset_bounded : State.reset.Bounded := by constructor <;> decide

/-- Settles O59: both properties hold at power-on, read the blocks alone, and are among what every operation keeps. -/
theorem tablesStayOrderedAndQueuesBounded : Obligations.TablesStayOrderedAndQueuesBounded :=
  ⟨keptByStep_of_keeps State.reset_ordered (fun _ _ _ _ _ h => { h with }) fun _ _ h => h.ordered,
    keptByStep_of_keeps State.reset_bounded (fun _ _ _ _ _ h => { h with }) fun _ _ h => h.bounded⟩

end Sys2Proof.Machine
end

section
/-! SUPPORT. The account frames as they are taken: what is handed to the OFFICE requester (02 R36), and ACCOUNT READ
(02 R26). -/

namespace Sys2Proof.Machine

open Sys2Proof Sys2Proof.Claim

/-! ## Ranges -/

theorem accountOk_iff {n : Nat} : accountOk n = true ↔ accountRange n := decide_eq_true_iff

theorem balanceOk_iff {x : Int} : balanceOk x = true ↔ balanceRange x := decide_eq_true_iff

theorem warningOk_iff {x : Int} : warningOk x = true ↔ warningRange x := decide_eq_true_iff

/-- An optional field is in its range where every value it gives is. -/
theorem optOk_iff {α : Type} {p : α → Bool} {x : Option α} : optOk p x = true ↔ ∀ a, x = some a → p a = true := by
  cases x <;> simp [optOk]

/-! ## Frames handed to OFFICE (02 R36) -/

/-- A local command whose frame is ready acts on the state the frame is taken from. -/
theorem exec_of_takes_acted {α : Type} {c : Instr} {type : Byte} {mk : α → LocalBody} {a : α} {fr : IntakeFrame}
    {s : State} (act : IntakeFrame → α → State → State) (hx : exec c s = localCommand type mk (.fields a) act s)
    (hf : frameOf c = some (type, some (mk a))) (h : takes c fr s) : exec c s = acted (act fr a (s.taken fr)) := by
  obtain ⟨type', body, hf', ha, hw, hi, ht, hb, hc⟩ := h
  obtain ⟨rfl, rfl⟩ : type = type' ∧ mk a = body := by simpa [hf] using hf'
  rw [hx, localCommand_fields act ha hw hi ht hb hc, acted]

/-- A frame with office work is handed over where a check of its fields passes, and refused otherwise; the check passes
exactly where the fields are in their ranges. -/
theorem officeWork_handed {c : Instr} {op : OfficeOp} {inRange : Prop} {fr : IntakeFrame} {s : State}
    (hw : officeWork c = some (op, inRange)) (h : takes c fr s) :
    ∃ ok : Bool, (ok = true ↔ inRange) ∧
      exec c s = acted (if ok then (s.taken fr).handOffice fr op else (s.taken fr).refuse fr .outOfRange) := by
  unfold officeWork at hw
  split at hw <;> cases hw
  case h_1 f =>
    refine ⟨_, ?_, exec_of_takes_acted accountLoadAct rfl rfl h⟩
    simp [accountOk_iff, balanceOk_iff, warningOk_iff, classOk, overdraftOk, and_assoc]
  case h_2 f =>
    refine ⟨_, ?_, exec_of_takes_acted accountUpdateAct rfl rfl h⟩
    simp [accountOk_iff, optOk_iff, warningOk_iff, classOk, overdraftOk, and_assoc]
  case h_3 f =>
    exact ⟨_, by simp [accountOk_iff, balanceOk_iff], exec_of_takes_acted topUpAct rfl rfl h⟩
  case h_4 n => exact ⟨_, accountOk_iff, exec_of_takes_acted accountRemoveAct rfl rfl h⟩
  case h_5 f =>
    exact ⟨_, by simp [classOk, priceOk, and_assoc], exec_of_takes_acted tariffLoadAct rfl rfl h⟩
  case h_6 => exact ⟨true, by simp, exec_of_takes_acted freezeAct rfl rfl h⟩
  case h_7 => exact ⟨true, by simp, exec_of_takes_acted closePeriodAct rfl rfl h⟩

/-- Settles O21, by whether the check of the fields passes. -/
theorem accountWorkIsHandedToOffice : Obligations.AccountWorkIsHandedToOffice := by
  intro c op inRange fr s hw h
  obtain ⟨ok, hok, hx⟩ := officeWork_handed hw h
  refine ⟨fun hr => ?_, fun hr => ?_⟩
  · rw [hx, if_pos (hok.2 hr)]; rfl
  · rw [hx, if_neg (mt hok.1 hr)]; rfl

/-! ## ACCOUNT READ (02 R26) -/

namespace Table

variable {α : Type} {t : Table α} {n : Nat} {a : α}

/-- The first entry of a key is the one the key reads as. -/
theorem find?_key (t : Table α) (n : Nat) : t.find? (fun p => decide (p.1 = n)) = (t.get n).map (n, ·) := by
  induction t with
  | nil => rfl
  | cons p t ih =>
    obtain ⟨k, b⟩ := p
    by_cases h : k = n
    · subst h; simp [get]
    · simp [get, h, ih]

/-- In a table whose keys rise, the first entry above a number is the one with no key between. -/
theorem find?_above (hs : sorted t = true) {m : Nat} (hm : m < n) (hn : t.get n = some a)
    (hb : ∀ k, m < k → k < n → t.get k = none) : t.find? (fun p => decide (m < p.1)) = some (n, a) := by
  induction t with
  | nil => cases hn
  | cons p t ih =>
    obtain ⟨k, b⟩ := p
    by_cases hk : m < k
    · have hle : k ≤ n := by
        rcases List.mem_cons.1 (mem_of_get hn) with e | h
        · cases e; exact le_rfl
        · exact (lt_of_sorted hs _ h).le
      have hkn : k = n := hle.eq_of_not_lt fun hlt => by simpa [get] using hb k hk hlt
      subst hkn
      obtain rfl : b = a := by simpa [get] using hn
      simp [hk]
    · have hne (j : Nat) (hj : m < j) : get ((k, b) :: t) j = get t j := if_neg (by omega)
      simpa [hk] using ih (sorted_tail hs) (by rwa [← hne n hm]) fun j h1 h2 => (hne j h1).symm.trans (hb j h1 h2)

/-- No entry is above a number, where no key above it is read. -/
theorem find?_above_eq_none (hs : sorted t = true) {m : Nat} (hb : ∀ k, m < k → t.get k = none) :
    t.find? (fun p => decide (m < p.1)) = none := by
  refine List.find?_eq_none.2 fun p hp => ?_
  rw [decide_eq_true_eq]
  intro hlt
  simpa [hb p.1 hlt] using get_of_mem hs (n := p.1) (a := p.2) hp

end Table

section
variable {fr : IntakeFrame} {f : AccountRead} {s : State}

theorem accountReadAct_outOfRange (h : 16777215 < f.number) : accountReadAct fr f s = s.refuse fr .outOfRange :=
  if_pos h

section
variable (h : f.number ≤ 16777215)
include h

/-- ACCOUNT READ returns the first record of those its form looks for. -/
theorem accountReadAct_inRange :
    accountReadAct fr f s =
      (s.charge.accounts.find? fun p => if f.walk then decide (f.number < p.1) else decide (p.1 = f.number)).elim
        (s.refuse fr .notFound) fun p => s.accept fr [] (.account p.1 p.2 (s.noticePending p.1)) := by
  have hr : ¬Config.maxAccount < f.number := Nat.not_lt.2 h
  rw [accountReadAct, if_neg hr]
  split <;> next e => rw [e]; rfl

theorem accountReadAct_direct (hw : f.walk = false) :
    accountReadAct fr f s =
      (s.account f.number).elim (s.refuse fr .notFound) fun a =>
        s.accept fr [] (.account f.number a (s.noticePending f.number)) := by
  simp only [accountReadAct_inRange h, hw, Bool.false_eq_true, if_false, Table.find?_key, State.account]
  cases s.charge.accounts.get f.number <;> rfl

variable (hw : f.walk = true) (ho : s.Ordered)
include hw ho

theorem accountReadAct_next {n : Nat} {a : Account} (hlt : f.number < n) (hn : s.account n = some a)
    (hb : ∀ m, f.number < m → m < n → s.account m = none) :
    accountReadAct fr f s = s.accept fr [] (.account n a (s.noticePending n)) := by
  simp only [accountReadAct_inRange h, hw, if_true, Table.find?_above ho.accounts hlt hn hb]
  rfl

theorem accountReadAct_last (hb : ∀ m, f.number < m → s.account m = none) :
    accountReadAct fr f s = s.refuse fr .notFound := by
  simp only [accountReadAct_inRange h, hw, if_true, Table.find?_above_eq_none ho.accounts hb]
  rfl

end

end

/-- Taking a frame leaves the tables in order. -/
theorem State.taken_ordered {fr : IntakeFrame} {s : State} (h : s.Ordered) : (s.taken fr).Ordered :=
  (State.taken_keeps fr (.refl s)).ordered h

/-- Settles O22: the direct form reads the key named, the walking form the first key above it. -/
theorem accountReadReturnsTheRecord : Obligations.AccountReadReturnsTheRecord := by
  intro f fr s h
  have run {ans : Answer} {effect : State} (ha : accountReadAct fr f (s.taken fr) = effect.answer fr ans) :
      exec (.accountRead (.fields f)) s = done fr ans effect := exec_of_takes rfl rfl h ha
  refine ⟨fun hr => run (accountReadAct_outOfRange hr),
    fun hr hw => ⟨fun a ha => run ?_, fun ha => run ?_⟩, fun hr hw ho =>
      ⟨fun n a hlt hn hb => run (accountReadAct_next hr hw (State.taken_ordered ho) hlt hn hb),
        fun hb => run (accountReadAct_last hr hw (State.taken_ordered ho) hb)⟩⟩
  · rw [accountReadAct_direct hr hw, State.taken_account, ha]; rfl
  · rw [accountReadAct_direct hr hw, State.taken_account, ha]; rfl

end Sys2Proof.Machine
end

section
/-! SUPPORT. The order of the charge arbiter (02 R35), and what a debit does to a record (02 R27, R32, R40). -/

namespace Sys2Proof.Machine

open Sys2Proof Sys2Proof.Claim

/-! ## The arbiter (02 R35) -/

/-- The requesters as the arbiter asks them: in cyclic order, from the one after that last granted. -/
def ChargeEngine.asked (c : ChargeEngine) : List ArbiterClass :=
  (List.range 4).map fun k => Nat.iterate ArbiterClass.next (k + 1) c.lastGranted

theorem ChargeEngine.nextGrant_eq (c : ChargeEngine) : c.nextGrant = c.asked.find? c.hasWork := rfl

/-- Every requester is asked. -/
theorem ChargeEngine.mem_asked (c : ChargeEngine) (a : ArbiterClass) : a ∈ c.asked := by
  unfold ChargeEngine.asked
  generalize c.lastGranted = l
  cases l <;> cases a <;> decide

/-- The arbiter grants the first requester asked that has work. -/
theorem ChargeEngine.nextGrant_eq_some_iff {c : ChargeEngine} {a : ArbiterClass} :
    c.nextGrant = some a ↔
      ∃ k, k < 4 ∧ a = Nat.iterate ArbiterClass.next (k + 1) c.lastGranted ∧ c.hasWork a = true ∧
        ∀ j, j < k → c.hasWork (Nat.iterate ArbiterClass.next (j + 1) c.lastGranted) = false := by
  rw [ChargeEngine.nextGrant_eq, List.find?_eq_some_iff_getElem]
  constructor
  · rintro ⟨hw, k, hk, ha, hj⟩
    simp only [ChargeEngine.asked, List.length_map, List.length_range, List.getElem_map, List.getElem_range,
      Bool.not_eq_true'] at hk ha hj
    exact ⟨k, hk, ha.symm, hw, hj⟩
  · rintro ⟨k, hk, ha, hw, hj⟩
    refine ⟨hw, k, by simpa [ChargeEngine.asked] using hk, ?_⟩
    simp only [ChargeEngine.asked, List.getElem_map, List.getElem_range, Bool.not_eq_true']
    exact ⟨ha.symm, hj⟩

theorem ChargeEngine.hasWork_eq_false_iff {c : ChargeEngine} :
    (∀ a, c.hasWork a = false) ↔ c.power = [] ∧ c.water = [] ∧ c.fuel = [] ∧ c.office = [] := by
  constructor
  · intro h
    have hp := h .power
    have hw := h .water
    have hf := h .fuel
    have ho := h .office
    simp only [ChargeEngine.hasWork, Bool.not_eq_false', List.isEmpty_iff] at hp hw hf ho
    exact ⟨hp, hw, hf, ho⟩
  · rintro ⟨hp, hw, hf, ho⟩ a
    cases a <;> simp [ChargeEngine.hasWork, hp, hw, hf, ho]

theorem ChargeEngine.nextGrant_eq_none_iff {c : ChargeEngine} :
    c.nextGrant = none ↔ c.power = [] ∧ c.water = [] ∧ c.fuel = [] ∧ c.office = [] := by
  rw [← ChargeEngine.hasWork_eq_false_iff, ChargeEngine.nextGrant_eq, List.find?_eq_none]
  exact ⟨fun h a => eq_false_of_ne_true (h a (c.mem_asked a)), fun h a _ => ne_true_of_eq_false (h a)⟩

section
variable {s : State}

theorem State.servePosting_idle {v : Service} (h : s.charge.nextGrant ≠ some v.requester) : s.servePosting v = s :=
  if_neg h

theorem State.grantFuel_idle (kind : FuelAsk → Bool) (h : s.charge.nextGrant ≠ some .fuel) : s.grantFuel kind = s :=
  if_neg h

theorem State.grantOffice_idle (h : s.charge.nextGrant ≠ some .office) : s.grantOffice = s := if_neg h

end

/-- The arbiter's order, and that a step of a requester not granted changes nothing. -/
theorem arbiterGrantsInCyclicOrder : Claim.ArbiterGrantsInCyclicOrder := by
  refine ⟨fun c a => ChargeEngine.nextGrant_eq_some_iff, fun c => ChargeEngine.nextGrant_eq_none_iff,
    ⟨rfl, rfl, rfl, rfl⟩, fun s hs => ⟨fun h => ?_, fun h => ?_, fun h => ⟨?_, ?_, ?_⟩, fun h => ?_⟩⟩
  · rw [exec_of_active rfl hs, State.servePosting_idle h]
  · rw [exec_of_active rfl hs, State.servePosting_idle h]
  · rw [exec_of_active rfl hs, State.grantFuel_idle _ h]
  · rw [exec_of_active rfl hs, State.grantFuel_idle _ h]
  · rw [exec_of_active rfl hs, State.grantFuel_idle _ h]
  · rw [exec_of_active rfl hs, State.grantOffice_idle h]

/-! ## Saturation and debits (02 R32, R40) -/

/-- A changed balance is the sum brought into its range, with a flag where the sum is outside it. -/
theorem saturate_eq (b x : Int) :
    saturate b x = (max (-99999999) (min (b + x) 99999999), decide (b + x < -99999999 ∨ 99999999 < b + x)) := by
  by_cases hlo : b + x < -99999999
  · simp [saturate, Config.maxBalance, hlo]; omega
  · by_cases hhi : 99999999 < b + x
    · simp [saturate, Config.maxBalance, hlo, hhi]; omega
    · simp [saturate, Config.maxBalance, hlo, hhi]; omega

theorem saturate_fst (b x : Int) : (saturate b x).1 = max (-99999999) (min (b + x) 99999999) := by rw [saturate_eq]

theorem saturate_snd_iff (b x : Int) : (saturate b x).2 = true ↔ b + x < -99999999 ∨ 99999999 < b + x := by
  rw [saturate_eq, decide_eq_true_iff]

/-- A balance is brought to a bound where it is not the exact sum. -/
theorem saturate_snd_eq (b x : Int) : (saturate b x).2 = decide ((saturate b x).1 ≠ b + x) := by
  rw [Bool.eq_iff_iff, saturate_snd_iff, decide_eq_true_iff, saturate_fst]
  omega

section
variable (n c : Nat) (a : Account)

/-- A debit for POWER changes the balance, the flag SATURATED and the POWER total. -/
theorem Account.charge_power : a.charge .power n c = { a with
    balance := (saturate a.balance (-(c : Int))).1, saturated := a.saturated || (saturate a.balance (-(c : Int))).2
    power := addTotal n a.power c } := rfl

/-- A debit for WATER changes the balance, the flag SATURATED and the WATER total. -/
theorem Account.charge_water : a.charge .water n c = { a with
    balance := (saturate a.balance (-(c : Int))).1, saturated := a.saturated || (saturate a.balance (-(c : Int))).2
    water := addTotal n a.water c } := rfl

end

/-- Standing, saturation and period totals. -/
theorem standingAndSaturation : Claim.StandingAndSaturation := by
  refine ⟨fun a => rfl, fun b x => ⟨saturate_fst b x, saturate_snd_iff b x⟩, fun v n c a => ?_⟩
  have hb := saturate_fst a.balance (-(c : Int))
  have hs := saturate_snd_iff a.balance (-(c : Int))
  rw [← sub_eq_add_neg] at hb hs
  have hor : (a.saturated || (saturate a.balance (-(c : Int))).2) = true ↔
      a.saturated = true ∨ a.balance - c < -99999999 ∨ 99999999 < a.balance - (c : Int) := by
    rw [Bool.or_eq_true, hs]
  cases v with
  | power =>
    rw [Account.charge_power]
    exact ⟨hb, hor, fun _ h => ⟨addTotal_in h, rfl⟩, fun h => Service.noConfusion h, rfl, rfl, addTotal_ge n a.power c,
      le_rfl, addTotal_le, id⟩
  | water =>
    rw [Account.charge_water]
    exact ⟨hb, hor, fun h => Service.noConfusion h, fun _ h => ⟨addTotal_in h, rfl⟩, rfl, rfl, le_rfl,
      addTotal_ge n a.water c, id, addTotal_le⟩

/-- Settles O26, from its two parts. -/
theorem arbiterGrantsInOrderAndStandingIsDerived : Obligations.ArbiterGrantsInOrderAndStandingIsDerived :=
  ⟨arbiterGrantsInCyclicOrder, standingAndSaturation⟩

end Sys2Proof.Machine
end

section
/-! SUPPORT. What the OFFICE requester makes of the work it is granted (02 R36): the account, tariff, freeze and close
operations, but for those that change a standing. -/

namespace Sys2Proof.Machine

open Sys2Proof Sys2Proof.Claim

/-! ## The grant and the answer (02 R35, R36) -/

section
variable {s : State} {fr : IntakeFrame} {op : OfficeOp} {rest : List OfficeOp}

@[simp] theorem served_mgmt : (served rest s).mgmt = s.mgmt := rfl
@[simp] theorem served_now : (served rest s).now = s.now := rfl
@[simp] theorem served_tally : (served rest s).tally = s.tally := rfl
@[simp] theorem served_account (n : Nat) : (served rest s).account n = s.account n := rfl
@[simp] theorem served_accounts : (served rest s).charge.accounts = s.charge.accounts := rfl

/-- Granted, OFFICE serves its oldest work. -/
theorem exec_officeOperation (h : officeTurn op rest s) :
    exec .officeOperation s = acted ((served rest s).serveOffice op) := by
  obtain ⟨ha, hg, ho⟩ := h
  have hgrant : s.grantOffice = (served rest s).serveOffice op := by
    unfold State.grantOffice
    simp only [hg, ho]
    rfl
  rw [exec_of_active rfl ha, hgrant]

theorem State.answerOffice_eq (a : Answer) (h : s.mgmt.work = .office fr) : s.answerOffice a = s.answer fr a := by
  simp only [State.answerOffice, h]

/-- Work that ends in an answer completes the frame that brought it. -/
theorem exec_officeOperation_done {ans : Answer} {effect : State} (h : officeTurn op rest s)
    (hw : effect.mgmt.work = .office fr) (hs : (served rest s).serveOffice op = effect.answerOffice ans) :
    exec .officeOperation s = done fr ans effect := by
  rw [exec_officeOperation h, hs, State.answerOffice_eq ans hw]
  rfl

end

/-! ## ACCOUNT LOAD (02 R25) -/

@[simp] theorem State.createSource_charge (c : ReportClass) (n : Nat) (s : State) :
    (s.createSource c n).charge = s.charge := by rw [State.createSource_eq]

@[simp] theorem State.createSource_mgmt (c : ReportClass) (n : Nat) (s : State) :
    (s.createSource c n).mgmt = s.mgmt := by rw [State.createSource_eq]

@[simp] theorem State.setAccount_account (n m : Nat) (a : Account) (s : State) :
    (s.setAccount n a).account m = if m = n then some a else s.account m := Table.get_set _ _ _ _

@[simp] theorem State.mark_account (c : ReportClass) (n m : Nat) (s : State) : (s.mark c n).account m = s.account m :=
  rfl

namespace Table

variable {α : Type} {t : Table α} {n : Nat}

/-- A key that reads as no entry is the key of none. -/
theorem ne_of_get_eq_none (h : t.get n = none) {p : Nat × α} (hp : p ∈ t) : p.1 ≠ n := by
  induction t with
  | nil => cases hp
  | cons q t ih =>
    obtain ⟨k, b⟩ := q
    by_cases hk : k = n
    · simp [get, hk] at h
    · rcases List.mem_cons.1 hp with rfl | hp
      · exact hk
      · exact ih (by simpa [get, hk] using h) hp

/-- Storing an entry of a new key adds one entry to those that satisfy a property it has. -/
theorem length_filter_set {q : Nat × α → Bool} {a : α} (h : t.get n = none) (hq : q (n, a) = true) :
    (List.filter q (t.set n a)).length = (List.filter q t).length + 1 := by
  induction t with
  | nil => simp [set, hq]
  | cons p t ih =>
    obtain ⟨k, b⟩ := p
    have hk : k ≠ n := ne_of_get_eq_none h List.mem_cons_self
    have ih := ih (by simpa [get, hk] using h)
    by_cases hlt : n < k
    · simp [set, hlt, List.filter_cons, hq]
    · cases hb : q (k, b) <;> simp [set, hlt, hk, hb, ih]

/-- A new entry's place in the table is after the entries below it. -/
theorem length_filter_set_le (a : α) (h : t.get n = none) :
    ((t.set n a).filter fun p => decide (p.1 ≤ n)).length = (t.filter fun p => decide (p.1 < n)).length + 1 := by
  rw [length_filter_set h (by simp)]
  congr 2
  exact List.filter_congr fun p hp => decide_eq_decide.2 ⟨fun hle => hle.lt_of_ne (ne_of_get_eq_none h hp), le_of_lt⟩

end Table

section
variable {f : AccountLoad} {s : State}

theorem State.serveLoad_exists (h : s.account f.number ≠ none) : s.serveLoad f = s.refuseOffice .exists :=
  if_pos (Option.isSome_iff_ne_none.2 h)

theorem State.serveLoad_tableFull (h : s.account f.number = none) (hl : 128 ≤ s.charge.accounts.length) :
    s.serveLoad f = s.refuseOffice .tableFull := by
  have hl : Config.accountCapacity ≤ s.charge.accounts.length := hl
  simp [State.serveLoad, h, hl]

theorem State.serveLoad_loads (h : s.account f.number = none) (hl : s.charge.accounts.length < 128) :
    s.serveLoad f = (((s.setAccount f.number (Account.fresh f)).createSource .account f.number).mark .account
      f.number).acceptOffice [] (.accountLoaded f.number (Account.fresh f).standing
        ((s.charge.accounts.filter fun p => decide (p.1 < f.number)).length + 1)) := by
  have hl : ¬Config.accountCapacity ≤ s.charge.accounts.length := Nat.not_le.2 hl
  have hs (u : State) (hu : u.charge.accounts = s.charge.accounts.set f.number (Account.fresh f)) :
      u.standingOf f.number = (Account.fresh f).standing ∧
        u.position f.number = (s.charge.accounts.filter fun p => decide (p.1 < f.number)).length + 1 := by
    simp [State.standingOf, State.position, State.account, hu, Table.length_filter_set_le _ h]
  rw [State.serveLoad, if_neg (by simp [h]), if_neg hl]
  dsimp only
  rw [(hs _ (by simp)).1, (hs _ (by simp)).2]

end

/-! ## ACCOUNT REMOVE (02 R33) -/

theorem State.accountInUse_iff {s : State} {n : Nat} {a : Account} : s.accountInUse n a = true ↔ usedBy s n a := by
  have session {x : Option Session} :
      (x.map fun y => decide (y.account = n)).getD false = true ↔ ∃ y, x = some y ∧ y.account = n := by
    cases x <;> simp
  have sale {x : Option Sale} :
      (x.map fun y => decide (y.account = some n)).getD false = true ↔ ∃ y, x = some y ∧ y.account = some n := by
    cases x <;> simp
  simp only [State.accountInUse, usedBy, Bool.or_eq_true, List.any_eq_true, Bool.and_eq_true, decide_eq_true_eq,
    session, sale, or_assoc]

section
variable {n : Nat} {s : State}

theorem State.serveRemove_notFound (h : s.account n = none) : s.serveRemove n = s.refuseOffice .notFound := by
  simp only [State.serveRemove, h]

variable {a : Account} (h : s.account n = some a)
include h

theorem State.serveRemove_inUse (hu : usedBy s n a) : s.serveRemove n = s.refuseOffice .inUse := by
  simp only [State.serveRemove, h, State.accountInUse_iff.2 hu]
  rfl

theorem State.serveRemove_removes (hu : ¬usedBy s n a) :
    s.serveRemove n =
      (State.removeSource .account n
        { s with charge := { s.charge with accounts := s.charge.accounts.erase n } }).acceptOffice [] .none := by
  simp only [State.serveRemove, h, eq_false_of_ne_true (mt State.accountInUse_iff.1 hu)]
  rfl

end

/-- Settles O23, by the cases of each operation. -/
theorem accountLoadAndRemoveAreServed : Obligations.AccountLoadAndRemoveAreServed := by
  intro fr s hw
  refine ⟨fun f rest h => ?_, fun n rest h => ?_⟩
  · refine ⟨fun he => ?_, fun hn hl => ?_, fun hn hl => ?_⟩
    · exact exec_officeOperation_done h hw (State.serveLoad_exists he)
    · exact exec_officeOperation_done h hw (State.serveLoad_tableFull hn hl)
    · exact exec_officeOperation_done h (by simpa using hw) (State.serveLoad_loads hn hl)
  · refine ⟨fun hn => ?_, fun a ha hu => ?_, fun a ha hu => ?_⟩
    · exact exec_officeOperation_done h hw (State.serveRemove_notFound hn)
    · exact exec_officeOperation_done h hw (State.serveRemove_inUse ha hu)
    · exact exec_officeOperation_done h hw (State.serveRemove_removes ha hu)

/-! ## TARIFF LOAD and FREEZE (02 R34, 11 R184) -/

section
variable {s : State}

theorem State.serveFreeze_again {f : Freeze} (h : s.tally.freeze = some f) :
    s.serveFreeze = s.acceptOffice [.alreadyFrozen] (.frozen s.tally.period f.moment) := by
  simp only [State.serveFreeze, h]

theorem State.serveFreeze_freezes (h : s.tally.freeze = none) :
    s.serveFreeze =
      (s.putFreeze s.freezeCopy).markStatus.acceptOffice [] (.frozen s.tally.period s.clockValue) := by
  simp only [State.serveFreeze, h]

end

/-- TARIFF LOAD and FREEZE, by whether a freeze is in force. -/
theorem tariffAndFreezeAreServed : Claim.TariffAndFreezeAreServed := fun _ _ hw =>
  ⟨fun _ _ h => exec_officeOperation_done h hw rfl, fun _ h =>
    ⟨fun _ hf => exec_officeOperation_done h hw (State.serveFreeze_again hf),
      fun hf => exec_officeOperation_done h hw (State.serveFreeze_freezes hf)⟩⟩

/-! ## CLOSE PERIOD (11 R187) -/

section
variable {s : State}

/-- Lowering the totals of a frozen account changes the account table and the report sources alone. -/
theorem State.closeAccount_eq (x : FrozenAccount) (s : State) : ∃ (accounts : Table Account) (sources : Table SourceRecord),
    s.closeAccount x = { s with
      charge := { s.charge with accounts := accounts }, trunk := { s.trunk with sources := sources } } := by
  unfold State.closeAccount
  split
  · exact ⟨_, _, rfl⟩
  · split <;> exact ⟨_, _, rfl⟩

/-- The account of the frozen number is lowered, where it is in the table, and no other changes. -/
theorem State.closeAccount_account (x : FrozenAccount) (s : State) (n : Nat) :
    (s.closeAccount x).account n = if x.number = n then (s.account n).map (Account.lowered x) else s.account n := by
  unfold State.closeAccount
  cases h : s.account x.number with
  | none =>
    by_cases hn : x.number = n
    · subst hn; simp [h]
    · simp [hn]
  | some a =>
    by_cases hn : x.number = n
    · subst hn
      by_cases hl : a.lowered x = a
      · simp [h, hl]
      · simp [h, hl]
    · by_cases hl : a.lowered x = a
      · simp [hn, hl]
      · simp [hn, Ne.symm hn, hl]

theorem State.closeAccounts_eq (l : List FrozenAccount) (s : State) :
    ∃ (accounts : Table Account) (sources : Table SourceRecord),
      l.foldl (fun t x => t.closeAccount x) s = { s with
        charge := { s.charge with accounts := accounts }, trunk := { s.trunk with sources := sources } } := by
  induction l generalizing s with
  | nil => exact ⟨_, _, rfl⟩
  | cons x l ih =>
    obtain ⟨accounts, sources, h⟩ := State.closeAccount_eq x s
    obtain ⟨accounts', sources', h'⟩ := ih (s.closeAccount x)
    exact ⟨accounts', sources', by rw [List.foldl_cons, h', h]⟩

/-- Every account is lowered by the frozen ones of its number, in turn. -/
theorem State.closeAccounts_account (l : List FrozenAccount) (s : State) (n : Nat) :
    (l.foldl (fun t x => t.closeAccount x) s).account n = (s.account n).map fun a =>
      (l.filter fun x => decide (x.number = n)).foldl (fun a x => a.lowered x) a := by
  induction l generalizing s with
  | nil => simp
  | cons x l ih =>
    rw [List.foldl_cons, ih, State.closeAccount_account]
    by_cases h : x.number = n <;> simp [h, Function.comp_def]

/-- A period is closed against a freeze in force. -/
theorem State.closeFrozen_eq {f : Freeze} (h : s.tally.freeze = some f) :
    s.closeFrozen f = State.markStatus { f.accounts.foldl (fun t x => t.closeAccount x) s with
      tally := ⟨Tallies.lowered f.tallies s.tally.live, none, some .close, s.tally.period + 1⟩ } := by
  obtain ⟨accounts, sources, e⟩ := State.closeAccounts_eq f.accounts s
  simp only [State.closeFrozen, e, State.endFreeze, State.modLive, h]

theorem State.serveClose_notFrozen (h : s.tally.freeze = none) : s.serveClose = s.refuseOffice .notFrozen := by
  simp only [State.serveClose, h]

theorem State.serveClose_closes {f : Freeze} (h : s.tally.freeze = some f) :
    s.serveClose = (s.closeFrozen f).acceptOffice [] (.closed (s.tally.period + 1)) := by
  simp only [State.serveClose, h]

end

/-- CLOSE PERIOD, by whether a freeze is in force. -/
theorem closePeriodIsServed : Claim.ClosePeriodIsServed := by
  intro rest fr s h hw
  refine ⟨fun hf => exec_officeOperation_done h hw (State.serveClose_notFrozen hf), fun f hf => ?_⟩
  have hclose := State.closeFrozen_eq (s := served rest s) hf
  have haccounts := State.closeAccounts_account f.accounts (served rest s)
  obtain ⟨accounts, sources, e⟩ := State.closeAccounts_eq f.accounts (served rest s)
  rw [e] at hclose haccounts
  refine ⟨(served rest s).closeFrozen f,
    exec_officeOperation_done h (by rw [hclose]; exact hw) (State.serveClose_closes hf), ?_, fun n => ?_, ?_⟩
  · rw [hclose]; rfl
  · rw [hclose]; exact haccounts n
  · rw [hclose]; rfl

/-- Settles O25, from its two parts. -/
theorem tariffFreezeAndCloseAreServed : Obligations.TariffFreezeAndCloseAreServed :=
  ⟨tariffAndFreezeAreServed, closePeriodIsServed⟩

end Sys2Proof.Machine
end

section
/-! SUPPORT. What an evaluation of one outlet, a cut of one tap and an admission attempt leave of the other outlets, taps
and queue entries. -/

namespace Sys2Proof.Machine

open Sys2Proof Sys2Proof.Claim

/-! ## Entries found by a property -/

namespace Table

variable {α : Type} {t u : Table α}

/-- In a table whose keys rise, the first entry with a property is the one of the lowest key. -/
theorem find?_eq_some_iff (hs : sorted t = true) {q : α → Bool} {n : Nat} {a : α} :
    (t.find? fun p => q p.2) = some (n, a) ↔
      t.get n = some a ∧ q a = true ∧ ∀ k b, k < n → t.get k = some b → q b = false := by
  induction t with
  | nil => simp
  | cons p t ih =>
    obtain ⟨k, b⟩ := p
    have ih := ih (sorted_tail hs)
    have hgt := lt_of_sorted hs
    have hlow (j : Nat) (hj : j ≤ k) : get t j = none :=
      get_eq_none_of_lt t j fun p hp => hj.trans_lt (hgt p hp)
    cases hb : q b with
    | true =>
      rw [List.find?_cons_of_pos (by exact hb)]
      constructor
      · rintro h
        cases h
        refine ⟨by simp [get], hb, fun j c hj hc => ?_⟩
        rw [get, if_neg (by omega), hlow j hj.le] at hc
        cases hc
      · rintro ⟨hn, hq, hno⟩
        by_cases hk : k = n
        · subst hk
          simpa [get] using hn
        · rw [get, if_neg hk] at hn
          have hlt : k < n := hgt _ (mem_of_get hn)
          have := hno k b hlt (by simp [get])
          simp [hb] at this
    | false =>
      rw [List.find?_cons_of_neg (by simp [hb]), ih]
      constructor
      · rintro ⟨hn, hq, hno⟩
        have hlt : k < n := hgt _ (mem_of_get hn)
        refine ⟨by rw [get, if_neg (by omega), hn], hq, fun j c hj hc => ?_⟩
        by_cases hk : k = j
        · subst hk
          obtain rfl : b = c := by simpa [get] using hc
          exact hb
        · exact hno j c hj (by simpa [get, hk] using hc)
      · rintro ⟨hn, hq, hno⟩
        have hk : k ≠ n := by
          rintro rfl
          obtain rfl : b = a := by simpa [get] using hn
          simp [hb] at hq
        rw [get, if_neg hk] at hn
        have hlt : k < n := hgt _ (mem_of_get hn)
        refine ⟨hn, hq, fun j c hj hc => ?_⟩
        have hkj : k ≠ j := (hgt _ (mem_of_get hc)).ne
        exact hno j c hj (by rw [get, if_neg hkj, hc])

/-- Where two tables have the same keys, with a property at the same keys, the first entry with it has the same key. -/
theorem find?_transfer (ht : sorted t = true) (hu : sorted u = true) {q : α → Bool}
    (h : ∀ k, (u.get k).map q = (t.get k).map q) {n : Nat} {a : α}
    (hf : (t.find? fun p => q p.2) = some (n, a)) :
    ∃ b, u.get n = some b ∧ (u.find? fun p => q p.2) = some (n, b) := by
  obtain ⟨hn, hq, hno⟩ := (find?_eq_some_iff ht).1 hf
  obtain ⟨b, hb, hqb⟩ : ∃ b, u.get n = some b ∧ q b = true := by
    have := h n
    rw [hn, Option.map_some, hq] at this
    simpa using this
  refine ⟨b, hb, (find?_eq_some_iff hu).2 ⟨hb, hqb, fun k c hk hc => ?_⟩⟩
  have := h k
  rw [hc, Option.map_some] at this
  obtain ⟨d, hd, hqd⟩ : ∃ d, t.get k = some d ∧ q d = q c := by simpa using this.symm
  rw [← hqd]
  exact hno k d hk hd

end Table

/-! ## What an operation on one outlet leaves of the rest (03 R53 to R59) -/

/-- An operation on one outlet: the taps, the other outlets and the side of this one stay, and no entry of another outlet
joins the admission queue. -/
structure State.OnlyOutlet (i : Nat) (s t : State) : Prop where
  tap : t.tap = s.tap
  others : ∀ j, j ≠ i → t.outlet.outlets.get j = s.outlet.outlets.get j
  ref : (t.outlet.outlets.get i).map Outlet.ref = (s.outlet.outlets.get i).map Outlet.ref
  queue : ∀ e ∈ t.outlet.queue, e.outlet ≠ i → e ∈ s.outlet.queue

theorem State.OnlyOutlet.refl (i : Nat) (s : State) : s.OnlyOutlet i s := ⟨rfl, fun _ _ => rfl, rfl, fun _ h _ => h⟩

/-! ### The outlets are read as before -/

@[simp] theorem State.writeImage_outlet (a : Nat) (s : State) : (s.writeImage a).outlet = s.outlet := rfl
@[simp] theorem State.writeImage_tap (a : Nat) (s : State) : (s.writeImage a).tap = s.tap := rfl

theorem State.dequeue_outlets (i : Nat) (s : State) : (s.dequeue i).outlet.outlets = s.outlet.outlets := by
  unfold State.dequeue
  split <;> rfl

theorem State.attempt_outlets (f : Nat) (s : State) : (s.attempt f).outlet.outlets = s.outlet.outlets := by
  unfold State.attempt
  split <;> rfl

/-- The reservation an outlet holds on another feeder than its own is given up at its admission (03 R56). -/
def State.givenUp (o : Outlet) (s : State) : State :=
  match o.reservation with
  | some r => if r.feeder = o.feeder then s else (s.mark .feeder r.feeder).attempt r.feeder
  | none => s

theorem State.givenUp_outlets (o : Outlet) (s : State) : (s.givenUp o).outlet.outlets = s.outlet.outlets := by
  unfold State.givenUp
  split
  · split
    · rfl
    · exact State.attempt_outlets _ _
  · rfl

/-- An outlet as its admission makes it (03 R56). -/
def State.granted (i : Nat) (o : Outlet) (figure acct : Nat) (s : State) : Outlet :=
  { o with
    reservation := some ⟨figure, o.feeder⟩, state := .live, reason := .granted
    session := some (((s.givenUp o).dequeue i).sessionAt o acct) }

theorem State.grantOutlet_eq (i : Nat) (o : Outlet) (figure acct : Nat) (s : State) :
    s.grantOutlet i o figure acct =
      (((((s.givenUp o).dequeue i).setOutlet i (s.granted i o figure acct)).mark .outlet i).mark .feeder
        o.feeder).writeImage o.address := rfl

/-- The entries of a queue in which one was put at its place. -/
theorem mem_insertEntry {e x : QueueEntry} {l : List QueueEntry} : x ∈ insertEntry e l ↔ x = e ∨ x ∈ l := by
  induction l with
  | nil => simp [insertEntry]
  | cons y l ih =>
    unfold insertEntry
    split
    · simp
    · rw [List.mem_cons, ih, List.mem_cons]; tauto

/-! ### The operations -/

section
variable {i : Nat} {s t u before : State}

theorem State.OnlyOutlet.trans (h : s.OnlyOutlet i t) (k : t.OnlyOutlet i u) : s.OnlyOutlet i u :=
  ⟨k.tap.trans h.tap, fun j hj => (k.others j hj).trans (h.others j hj), k.ref.trans h.ref,
    fun e he hi => h.queue e (k.queue e he hi) hi⟩

theorem State.OnlyOutlet.queue_none (h : s.OnlyOutlet i t) {j : Nat} (hj : j ≠ i)
    (hn : ∀ e ∈ s.outlet.queue, e.outlet ≠ j) : ∀ e ∈ t.outlet.queue, e.outlet ≠ j := fun e he hej =>
  hn e (h.queue e he (hej ▸ hj)) hej

variable (h : before.OnlyOutlet i s)
include h

/-- An operation that leaves the outlets, the taps and the queue. -/
theorem State.OnlyOutlet.to_eq (ho : t.outlet.outlets = s.outlet.outlets) (hq : t.outlet.queue = s.outlet.queue)
    (ht : t.tap = s.tap) : before.OnlyOutlet i t :=
  h.trans ⟨ht, fun _ _ => by rw [ho], by rw [ho], fun _ h _ => hq ▸ h⟩

theorem State.setOutlet_only {o p : Outlet} (ho : s.outlet.outlets.get i = some o) (hr : p.ref = o.ref := by rfl) :
    before.OnlyOutlet i (s.setOutlet i p) :=
  h.trans ⟨rfl, fun _ hj => Table.get_set_ne _ _ hj, by simp [ho, hr], fun _ h _ => h⟩

theorem State.setQueue_only {q : List QueueEntry} (hq : ∀ e ∈ q, e.outlet ≠ i → e ∈ s.outlet.queue) :
    before.OnlyOutlet i { s with outlet := { s.outlet with queue := q } } :=
  h.trans ⟨rfl, fun _ _ => rfl, rfl, hq⟩

theorem State.mark_only (c : ReportClass) (n : Nat) : before.OnlyOutlet i (s.mark c n) := h.to_eq rfl rfl rfl

theorem State.writeImage_only (a : Nat) : before.OnlyOutlet i (s.writeImage a) := h.to_eq rfl rfl rfl

theorem State.attempt_only (f : Nat) : before.OnlyOutlet i (s.attempt f) := by
  unfold State.attempt
  split
  · exact h
  · exact h.to_eq rfl rfl rfl

theorem State.endOutletSession_only (reason : Reason) : before.OnlyOutlet i (s.endOutletSession i reason) := by
  unfold State.endOutletSession
  split
  · exact h
  · next o ho =>
    split
    · exact h
    · dsimp only
      refine State.mark_only (State.setOutlet_only (o := o) ?_ ?_) _ _
      · exact h.to_eq rfl rfl rfl
      · exact ho

theorem State.dequeue_only : before.OnlyOutlet i (s.dequeue i) := by
  unfold State.dequeue
  split
  · exact State.mark_only (State.setQueue_only h fun _ he _ => List.mem_of_mem_filter he) _ _
  · exact h

theorem State.enqueue_only (o : Outlet) (shed : Bool) : before.OnlyOutlet i (s.enqueue i o shed) := by
  unfold State.enqueue
  refine State.attempt_only (State.mark_only (State.setQueue_only h fun e he hi => ?_) _ _) _
  rcases mem_insertEntry.1 he with rfl | he
  · exact absurd rfl hi
  · exact he

theorem State.releaseReservation_only : before.OnlyOutlet i (s.releaseReservation i) := by
  unfold State.releaseReservation
  split
  · exact h
  · next o ho =>
    split
    · exact h
    · exact State.attempt_only (State.mark_only (State.mark_only (State.setOutlet_only h ho) _ _) _ _) _

theorem State.givenUp_only (o : Outlet) : before.OnlyOutlet i (s.givenUp o) := by
  unfold State.givenUp
  split
  · split
    · exact h
    · exact State.attempt_only (State.mark_only h _ _) _
  · exact h

theorem State.grantOutlet_only {o : Outlet} (ho : s.outlet.outlets.get i = some o) (figure acct : Nat) :
    before.OnlyOutlet i (s.grantOutlet i o figure acct) := by
  have ho' : ((s.givenUp o).dequeue i).outlet.outlets.get i = some o := by
    rw [State.dequeue_outlets, State.givenUp_outlets, ho]
  rw [State.grantOutlet_eq]
  exact State.writeImage_only (State.mark_only (State.mark_only (State.setOutlet_only
    (State.dequeue_only (State.givenUp_only h o)) ho') _ _) _ _) _

theorem State.admissionCheck_only : before.OnlyOutlet i (s.admissionCheck i) := by
  unfold State.admissionCheck
  split
  · exact h
  · next o ho =>
    split
    · split
      · exact State.grantOutlet_only h ho _ _
      · exact State.writeImage_only (State.enqueue_only (State.mark_only (State.setOutlet_only h ho) _ _) _ _) _
    · exact h

theorem State.vacate_only (target : OutletState) (reason : Reason) : before.OnlyOutlet i (s.vacate i target reason) := by
  have hd := State.dequeue_only (State.endOutletSession_only h reason)
  unfold State.vacate
  dsimp only
  split
  · exact hd
  · next o ho =>
    have hs := State.mark_only (State.setOutlet_only (p := { o with
      state := target, reason := reason, fault := { o.fault with overCount := 0 } }) hd ho) .outlet i
    refine State.writeImage_only ?_ _
    split
    · exact State.releaseReservation_only hs
    · exact hs

theorem State.evalOutlet_only (reason : Reason) : before.OnlyOutlet i (s.evalOutlet i reason) := by
  unfold State.evalOutlet
  split
  · exact h
  · next o ho =>
    split
    · split
      · have hs := State.writeImage_only (State.mark_only (State.setOutlet_only (p := { o with
          state := .ready, reason := .eligible }) h ho) .outlet i) o.address
        dsimp only
        split
        · exact State.admissionCheck_only hs
        · exact hs
      · exact h
    · split
      · exact State.vacate_only h _ _
      · exact h

end

/-! ### The outlet itself -/

section
variable {i : Nat} {o : Outlet} {s : State} (ho : s.outlet.outlets.get i = some o)
include ho

/-- An outlet whose session is ended has none. -/
theorem State.endOutletSession_get (reason : Reason) : ∃ waiting,
    (s.endOutletSession i reason).outlet.outlets.get i = some { o with session := none, waiting := waiting } := by
  unfold State.endOutletSession
  simp only [ho]
  split
  · next hx => exact ⟨o.waiting, by rw [ho, ← hx]⟩
  · exact ⟨_, Table.get_set_self _ _ _⟩

theorem State.releaseReservation_get :
    (s.releaseReservation i).outlet.outlets.get i = some { o with reservation := none } := by
  unfold State.releaseReservation
  simp only [ho]
  split
  · next hx => rw [ho, ← hx]
  · exact (congrArg (Table.get · i) (State.attempt_outlets _ _)).trans (Table.get_set_self _ _ _)

end

theorem State.attempt_queue (f : Nat) (s : State) : (s.attempt f).outlet.queue = s.outlet.queue := by
  unfold State.attempt
  split <;> rfl

theorem State.releaseReservation_queue (i : Nat) (s : State) :
    (s.releaseReservation i).outlet.queue = s.outlet.queue := by
  unfold State.releaseReservation
  split
  · rfl
  · split
    · rfl
    · exact State.attempt_queue _ _

/-- No entry of an outlet taken off the queue is left there. -/
theorem State.dequeue_queue (i : Nat) (s : State) : ∀ e ∈ (s.dequeue i).outlet.queue, e.outlet ≠ i := by
  intro e he hi
  unfold State.dequeue at he
  split at he
  · have := List.mem_filter.1 he
    simp [hi] at this
  · next hn => exact hn (List.any_eq_true.2 ⟨e, he, by simp [hi]⟩)

/-- An outlet without a session or a place in the queue, in a state with a reason. -/
def State.Vacated (i : Nat) (target : OutletState) (reason : Reason) (s : State) : Prop :=
  (∃ p, s.outlet.outlets.get i = some p ∧ p.state = target ∧ p.reason = reason ∧ p.session = none) ∧
    ∀ e ∈ s.outlet.queue, e.outlet ≠ i

/-- An outlet that leaves service is left without a session and without a place in the queue. -/
theorem State.vacate_vacated {i : Nat} {o : Outlet} {s : State} (ho : s.outlet.outlets.get i = some o)
    (target : OutletState) (reason : Reason) : (s.vacate i target reason).Vacated i target reason := by
  obtain ⟨waiting, he⟩ := State.endOutletSession_get ho reason
  have hq := State.dequeue_queue i (s.endOutletSession i reason)
  rw [← State.dequeue_outlets i] at he
  unfold State.vacate
  simp only [he]
  split
  · exact ⟨⟨_, State.releaseReservation_get (Table.get_set_self _ _ _), rfl, rfl, rfl⟩, by
      intro e h; exact hq e (by simpa [State.releaseReservation_queue] using h)⟩
  · exact ⟨⟨_, Table.get_set_self _ _ _, rfl, rfl, rfl⟩, hq⟩

/-! ## What an operation on one tap leaves of the rest (05 R98) -/

/-- An operation on one tap: the outlet unit, the other taps and the side of this one stay. -/
structure State.OnlyTap (i : Nat) (s t : State) : Prop where
  outlet : t.outlet = s.outlet
  others : ∀ j, j ≠ i → t.tap.taps.get j = s.tap.taps.get j
  ref : (t.tap.taps.get i).map Tap.ref = (s.tap.taps.get i).map Tap.ref

theorem State.OnlyTap.refl (i : Nat) (s : State) : s.OnlyTap i s := ⟨rfl, fun _ _ => rfl, rfl⟩

section
variable {i : Nat} {q : Tap} {s : State} (hq : s.tap.taps.get i = some q)
include hq

theorem State.endTapSession_get (reason : Reason) : ∃ waiting,
    (s.endTapSession i reason).tap.taps.get i = some { q with session := none, waiting := waiting } := by
  unfold State.endTapSession
  simp only [hq]
  split
  · next hx => exact ⟨q.waiting, by rw [hq, ← hx]⟩
  · exact ⟨_, Table.get_set_self _ _ _⟩

omit hq in
theorem State.endTapSession_only (reason : Reason) : s.OnlyTap i (s.endTapSession i reason) := by
  unfold State.endTapSession
  split
  · exact .refl i s
  · next q hq =>
    split
    · exact .refl i s
    · exact ⟨rfl, fun _ hj => Table.get_set_ne _ _ hj, by simp [hq, Tap.ref]⟩

/-- A tap shut by a cause has no session, and the state and reason given it. -/
theorem State.shutTap_get (target : TapState) (reason : Reason) : ∃ p,
    (s.shutTap i target reason).tap.taps.get i = some p ∧ p.state = target ∧ p.reason = reason ∧ p.session = none := by
  obtain ⟨waiting, he⟩ := State.endTapSession_get hq reason
  unfold State.shutTap
  simp only [he]
  exact ⟨_, Table.get_set_self _ _ _, rfl, rfl, rfl⟩

omit hq in
theorem State.shutTap_only (i : Nat) (target : TapState) (reason : Reason) (s : State) :
    s.OnlyTap i (s.shutTap i target reason) := by
  have hk := State.endTapSession_only (i := i) (s := s) reason
  unfold State.shutTap
  dsimp only
  split
  · exact hk
  · next q hq =>
    exact ⟨hk.outlet, fun j hj => (Table.get_set_ne _ _ hj).trans (hk.others j hj), by
      rw [← hk.ref, hq]; simp [Tap.ref, State.startSettle]⟩

end

/-! ## Admission attempts (03 R59) -/

/-- The reading of an outlet that its eligibility rests on, but for its state (03 R52). -/
def Outlet.footing (o : Outlet) : SideRef × Bool × Nat × KindMap Bool := (o.ref, o.lock, o.waiting.length, o.fault.latches)

/-- Admission attempts: taps stay; an outlet stays or goes LIVE on the same footing; one without a place in the queue
stays and joins none. -/
structure State.Admits (s t : State) : Prop where
  tap : t.tap = s.tap
  footing : ∀ i, (t.outlet.outlets.get i).map Outlet.footing = (s.outlet.outlets.get i).map Outlet.footing
  outlet : ∀ i, t.outlet.outlets.get i = s.outlet.outlets.get i ∨ ∃ p, t.outlet.outlets.get i = some p ∧ p.state = .live
  queue : ∀ i, (∀ e ∈ s.outlet.queue, e.outlet ≠ i) →
    t.outlet.outlets.get i = s.outlet.outlets.get i ∧ ∀ e ∈ t.outlet.queue, e.outlet ≠ i

theorem State.Admits.refl (s : State) : s.Admits s := ⟨rfl, fun _ => rfl, fun _ => .inl rfl, fun _ h => ⟨rfl, h⟩⟩

theorem State.Admits.trans {s t u : State} (h : s.Admits t) (k : t.Admits u) : s.Admits u where
  tap := k.tap.trans h.tap
  footing i := (k.footing i).trans (h.footing i)
  outlet i := (k.outlet i).elim (fun e => e ▸ h.outlet i) .inr
  queue i hi :=
    have hq := h.queue i hi
    have kq := k.queue i hq.2
    ⟨kq.1.trans hq.1, kq.2⟩

/-- The head of a feeder's queue, tried with success, is granted. -/
theorem State.tryHead_eq_some {f : Nat} {s t : State} (h : s.tryHead f = some t) : ∃ e ∈ s.outlet.queue,
    ∃ o figure acct, s.outlet.outlets.get e.outlet = some o ∧ t = s.grantOutlet e.outlet o figure acct := by
  unfold State.tryHead at h
  split at h
  · next fd e hf he =>
    have hmem : e ∈ s.outlet.queue := List.mem_of_mem_filter (List.mem_of_mem_head? he)
    split at h
    · next o ho =>
      split at h
      · split at h
        · exact ⟨e, hmem, o, _, _, ho, (Option.some.inj h).symm⟩
        · cases h
      · cases h
    · cases h
  · cases h

/-- An outlet admitted is LIVE. -/
theorem State.grantOutlet_get (i : Nat) (o : Outlet) (figure acct : Nat) (s : State) :
    (s.grantOutlet i o figure acct).outlet.outlets.get i = some (s.granted i o figure acct) :=
  Table.get_set_self _ _ _

theorem State.grantOutlet_queue (i : Nat) (o : Outlet) (figure acct : Nat) (s : State) :
    ∀ e ∈ (s.grantOutlet i o figure acct).outlet.queue, e.outlet ≠ i :=
  State.dequeue_queue i (s.givenUp o)

theorem State.grantOutlet_admits {e : QueueEntry} {o : Outlet} {s : State} (he : e ∈ s.outlet.queue)
    (ho : s.outlet.outlets.get e.outlet = some o) (figure acct : Nat) :
    s.Admits (s.grantOutlet e.outlet o figure acct) := by
  have hk := State.grantOutlet_only (.refl _ s) ho figure acct
  have hg := State.grantOutlet_get e.outlet o figure acct s
  refine ⟨hk.tap, fun i => ?_, fun i => ?_, fun i hi => ?_⟩
  · by_cases h : i = e.outlet
    · rw [h, hg, ho]; rfl
    · rw [hk.others i h]
  · by_cases h : i = e.outlet
    · subst h; exact .inr ⟨_, hg, rfl⟩
    · exact .inl (hk.others i h)
  · have h : i ≠ e.outlet := (hi e he).symm
    exact ⟨hk.others i h, hk.queue_none h hi⟩

theorem State.runAttempts_admits (n : Nat) (s : State) : s.Admits (s.runAttempts n) := by
  have clear (l : List Nat) (s : State) : s.Admits { s with outlet := { s.outlet with attempts := l } } :=
    ⟨rfl, fun _ => rfl, fun _ => .inl rfl, fun _ h => ⟨rfl, h⟩⟩
  induction n generalizing s with
  | zero => exact clear [] s
  | succ n ih =>
    unfold State.runAttempts
    split
    · exact .refl s
    · next f rest _ =>
      split
      · next t ht =>
        obtain ⟨e, he, o, figure, acct, ho, rfl⟩ := State.tryHead_eq_some ht
        exact (State.grantOutlet_admits he ho figure acct).trans (ih _)
      · exact (clear rest s).trans (ih _)

theorem State.flushAttempts_admits (s : State) : s.Admits s.flushAttempts := State.runAttempts_admits _ s

end Sys2Proof.Machine
end

section
/-! SUPPORT. What a standing transition does to the outlets and taps of the berths an account occupies (02 R27 to R29). -/

namespace Sys2Proof.Machine

open Sys2Proof Sys2Proof.Claim

/-- Where every operation of a run keeps an invariant, one of them brings about a property, and all keep it, the run ends
with the property. -/
theorem foldl_of_mem {α β : Type} {g : α → β → α} {Inv Post : α → Prop} {l : List β} {x : β} {a : α}
    (inv : ∀ u y, Inv u → Inv (g u y)) (post : ∀ u y, Inv u → Post u → Post (g u y)) (here : ∀ u, Inv u → Post (g u x))
    (hx : x ∈ l) (ha : Inv a) : Post (l.foldl g a) := by
  have stays (l : List β) (a : α) (ha : Inv a) (hp : Post a) : Post (l.foldl g a) := by
    induction l generalizing a with
    | nil => exact hp
    | cons y l ih => exact ih _ (inv a y ha) (post a y ha hp)
  induction l generalizing a with
  | nil => cases hx
  | cons y l ih =>
    rcases List.mem_cons.1 hx with rfl | hx
    · exact stays l _ (inv a _ ha) (here a ha)
    · exact ih hx (inv a y ha)

/-! ## Eligibility rests on the footing of an outlet and on what its unit leaves alone (03 R52, 05 R94) -/

section
variable {s u : State} (h : s.Leaves u)
include h

theorem State.Leaves.account (n : Nat) : u.account n = s.account n := congrArg (Table.get · n) h.accounts

theorem State.Leaves.sideServed (r : SideRef) : u.sideServed r = s.sideServed r := by
  simp only [State.sideServed, State.berthOfSide, h.berth, h.account]

theorem State.Leaves.pedestalServes (a : Nat) : u.pedestalServes a = s.pedestalServes a := by
  have ha := h.served a
  unfold State.pedestalServes
  cases hu : u.bus.devices.get a with
  | none =>
    have hs : s.bus.devices.get a = none := by simpa [hu] using ha.symm
    rw [hs]
  | some d =>
    obtain ⟨e, hs, he⟩ : ∃ e, s.bus.devices.get a = some e ∧ e.standing = d.standing := by simpa [hu] using ha.symm
    have hkind : e.kind = d.kind := congrArg (·.1) he
    have hstate : e.state = d.state := congrArg (·.2.1) he
    rw [hs]
    simp only [hkind, hstate]

theorem State.Leaves.outletEligible (o : Outlet) : u.outletEligible o = s.outletEligible o := by
  simp only [State.outletEligible, State.outletMayServe, h.sideServed, h.serviceHold, h.pedestalServes]

end

theorem State.outletEligible_of_footing {o p : Outlet} {s : State} (h : p.footing = o.footing) :
    s.outletEligible p = s.outletEligible o := by
  simp only [Outlet.footing, Prod.mk.injEq] at h
  obtain ⟨hr, hl, hw, hf⟩ := h
  have ha : p.address = o.address := congrArg SideRef.address hr
  simp only [State.outletEligible, State.outletMayServe, hr, hl, hw, hf, ha]

theorem State.outletEligible_unserved {o : Outlet} {s : State} (h : s.sideServed o.ref = false) :
    s.outletEligible o = false := by simp [State.outletEligible, State.outletMayServe, h]

theorem State.tapEligible_unserved {q : Tap} {s : State} (h : s.sideServed q.ref = false) : s.tapEligible q = false := by
  simp [State.tapEligible, h]

/-! ## A run over the sides keeps what each side names -/

/-- A state that follows from another by operations on outlets and taps: what these units leave alone is as it was, and the
outlets and taps name the sides they named. -/
structure State.Follows (s u : State) : Prop where
  leaves : s.Leaves u
  ordered : u.Ordered
  outletRef : ∀ i, (u.outlet.outlets.get i).map Outlet.ref = (s.outlet.outlets.get i).map Outlet.ref
  tapRef : ∀ i, (u.tap.taps.get i).map Tap.ref = (s.tap.taps.get i).map Tap.ref

section
variable {s u v : State}

theorem State.Follows.refl (h : s.Ordered) : s.Follows s := ⟨.refl s, h, fun _ => rfl, fun _ => rfl⟩

theorem State.Follows.onlyOutlet (h : s.Follows u) {i : Nat} (hk : u.Keeps v) (hl : u.Leaves v)
    (ho : u.OnlyOutlet i v) : s.Follows v where
  leaves := h.leaves.trans hl
  ordered := hk.ordered h.ordered
  outletRef j := by
    by_cases hj : j = i
    · subst hj; exact ho.ref.trans (h.outletRef _)
    · rw [ho.others j hj, h.outletRef]
  tapRef j := by rw [ho.tap, h.tapRef]

theorem State.Follows.onlyTap (h : s.Follows u) {i : Nat} (hk : u.Keeps v) (hl : u.Leaves v) (ho : u.OnlyTap i v) :
    s.Follows v where
  leaves := h.leaves.trans hl
  ordered := hk.ordered h.ordered
  outletRef j := by rw [ho.outlet, h.outletRef]
  tapRef j := by
    by_cases hj : j = i
    · subst hj; exact ho.ref.trans (h.tapRef _)
    · rw [ho.others j hj, h.tapRef]

theorem State.Admits.ref (h : s.Admits u) (i : Nat) :
    (u.outlet.outlets.get i).map Outlet.ref = (s.outlet.outlets.get i).map Outlet.ref := by
  simpa [Function.comp_def, Outlet.footing] using congrArg (Option.map Prod.fst) (h.footing i)

theorem State.Follows.flushAttempts (h : s.Follows u) : s.Follows u.flushAttempts where
  leaves := State.flushAttempts_leaves h.leaves
  ordered := (State.flushAttempts_keeps (.refl u)).ordered h.ordered
  outletRef i := ((State.flushAttempts_admits u).ref i).trans (h.outletRef i)
  tapRef i := by rw [(State.flushAttempts_admits u).tap, h.tapRef]

theorem State.Follows.evalOutlet (h : s.Follows u) (i : Nat) (reason : Reason) : s.Follows (u.evalOutlet i reason) :=
  h.onlyOutlet (State.evalOutlet_keeps _ _ (.refl u)) (State.evalOutlet_leaves _ _ (.refl u))
    (State.evalOutlet_only (.refl i u) reason)

theorem State.Follows.evalTapSide (h : s.Follows u) (r : SideRef) (reason : Reason) :
    s.Follows (u.evalTapSide r reason) := by
  unfold State.evalTapSide
  split
  · next i q hq =>
    split
    · exact h.onlyTap (State.shutTap_keeps _ _ _ (.refl u)) (State.shutTap_leaves _ _ _ (.refl u))
        (State.shutTap_only _ _ _ _)
    · exact h
  · exact h

theorem State.Follows.evalSide (h : s.Follows u) (r : SideRef) (reason : Reason) : s.Follows (u.evalSide r reason) := by
  unfold State.evalSide
  split
  · exact (h.evalOutlet _ _).flushAttempts
  · exact h

/-- The outlet of a side evaluated, the attempts that follow left to the end of the operation. -/
def State.evalOutletSide (r : SideRef) (reason : Reason) (s : State) : State :=
  match s.outletOfSide r with
  | some (i, _) => s.evalOutlet i reason
  | none => s

theorem State.cutSide_eq (r : SideRef) (reason : Reason) (s : State) :
    s.cutSide r reason = (s.evalOutletSide r reason).evalTapSide r reason := rfl

theorem State.Follows.evalOutletSide (h : s.Follows u) (r : SideRef) (reason : Reason) :
    s.Follows (u.evalOutletSide r reason) := by
  unfold State.evalOutletSide
  split
  · exact h.evalOutlet _ _
  · exact h

theorem State.Follows.cutSide (h : s.Follows u) (r : SideRef) (reason : Reason) : s.Follows (u.cutSide r reason) :=
  (h.evalOutletSide r reason).evalTapSide r reason

/-- The outlet of a side stays the outlet of the side. -/
theorem State.Follows.outletOfSide (h : s.Follows u) (hs : s.Ordered) {r : SideRef} {i : Nat} {o : Outlet}
    (ho : s.outletOfSide r = some (i, o)) : ∃ p, u.outlet.outlets.get i = some p ∧ u.outletOfSide r = some (i, p) := by
  refine Table.find?_transfer (q := fun o => decide (o.address = r.address ∧ o.side = r.side)) hs.outlets
    h.ordered.outlets (fun k => ?_) ho
  have hk := congrArg (Option.map fun x : SideRef => decide (x.address = r.address ∧ x.side = r.side)) (h.outletRef k)
  rw [Option.map_map, Option.map_map] at hk
  exact hk

/-- The tap of a side stays the tap of the side. -/
theorem State.Follows.tapOfSide (h : s.Follows u) (hs : s.Ordered) {r : SideRef} {i : Nat} {q : Tap}
    (hq : s.tapOfSide r = some (i, q)) : ∃ p, u.tap.taps.get i = some p ∧ u.tapOfSide r = some (i, p) := by
  refine Table.find?_transfer (q := fun o => decide (o.address = r.address ∧ o.side = r.side)) hs.taps
    h.ordered.taps (fun k => ?_) hq
  have hk := congrArg (Option.map fun x : SideRef => decide (x.address = r.address ∧ x.side = r.side)) (h.tapRef k)
  rw [Option.map_map, Option.map_map] at hk
  exact hk

end

theorem State.outletOfSide_spec {s : State} (hs : s.Ordered) {r : SideRef} {i : Nat} {o : Outlet}
    (h : s.outletOfSide r = some (i, o)) : s.outlet.outlets.get i = some o ∧ o.ref = r := by
  obtain ⟨hg, ha, hd⟩ := State.outletOfSide_eq_some hs.outlets h
  exact ⟨hg, by rw [Outlet.ref, ha, hd]⟩

theorem State.tapOfSide_spec {s : State} (hs : s.Ordered) {r : SideRef} {i : Nat} {q : Tap}
    (h : s.tapOfSide r = some (i, q)) : s.tap.taps.get i = some q ∧ q.ref = r := by
  have hp := List.find?_some h
  obtain ⟨ha, hd⟩ : q.address = r.address ∧ q.side = r.side := by simpa using hp
  exact ⟨Table.get_of_mem hs.taps (List.mem_of_find?_eq_some h), by rw [Tap.ref, ha, hd]⟩

/-! ## Evaluations (03 R53, 05 R94) -/

theorem OutletState.inUse_iff {x : OutletState} : x.inUse = true ↔ serving x := by
  cases x <;> simp [OutletState.inUse, serving]

theorem State.enqueue_outlets (o : Outlet) (shed : Bool) (i : Nat) (s : State) :
    (s.enqueue i o shed).outlet.outlets = s.outlet.outlets := State.attempt_outlets _ _

theorem KindMap.any_eq_false {m : KindMap Bool} (h : ∀ k, m.get k = false) : m.any = false := by
  simp [KindMap.any, h]

section
variable {i : Nat} {o : Outlet} {reason : Reason} {s : State} (ho : s.outlet.outlets.get i = some o)
include ho

/-- An outlet in use that is not eligible, with no latch set, leaves service. -/
theorem State.evalOutlet_cuts (he : s.outletEligible o = false) (hu : serving o.state)
    (hl : ∀ k, o.fault.latches.get k = false) : s.evalOutlet i reason = s.vacate i .off reason := by
  simp [State.evalOutlet, ho, he, OutletState.inUse_iff.2 hu, KindMap.any_eq_false hl]

/-- An outlet in OFF that is not eligible stays. -/
theorem State.evalOutlet_off (he : s.outletEligible o = false) (hx : o.state = .off) :
    s.evalOutlet i reason = s := by
  simp [State.evalOutlet, ho, he, hx, OutletState.inUse]

/-- An eligible outlet that is not in OFF stays. -/
theorem State.evalOutlet_inUse (he : s.outletEligible o = true) (hx : o.state ≠ .off) : s.evalOutlet i reason = s := by
  simp [State.evalOutlet, ho, he, hx]

/-- The admission check leaves an outlet's state, or takes it to WAITING or LIVE, on the same footing. -/
theorem State.admissionCheck_get : ∃ p, (s.admissionCheck i).outlet.outlets.get i = some p ∧
    p.footing = o.footing ∧ (p.state = o.state ∨ serving p.state) := by
  unfold State.admissionCheck
  simp only [ho]
  split
  · split
    · exact ⟨_, State.grantOutlet_get _ _ _ _ _, rfl, .inr (.inr (.inr rfl))⟩
    · refine ⟨{ o with state := .waiting false, reason := .queued }, ?_, rfl, .inr (.inr (.inl ⟨false, rfl⟩))⟩
      rw [State.writeImage_outlet, State.enqueue_outlets]
      exact Table.get_set_self _ _ _
  · exact ⟨o, ho, rfl, .inl rfl⟩

/-- An eligible outlet in OFF comes into use, on the same footing. -/
theorem State.evalOutlet_raises (he : s.outletEligible o = true) (hx : o.state = .off) :
    ∃ p, (s.evalOutlet i reason).outlet.outlets.get i = some p ∧ p.footing = o.footing ∧ serving p.state := by
  have hr (t : State) (p : Outlet) : (((t.setOutlet i p).mark .outlet i).writeImage p.address).outlet.outlets.get i =
      some p := Table.get_set_self _ _ _
  simp only [State.evalOutlet, ho, he, if_true, if_pos hx]
  split
  · obtain ⟨p, hp, hf, hs⟩ := State.admissionCheck_get (hr s { o with state := .ready, reason := .eligible })
    exact ⟨p, hp, hf, hs.elim .inl id⟩
  · exact ⟨_, hr s { o with state := .ready, reason := .eligible }, rfl, .inl rfl⟩

end

theorem State.evalTapSide_outlet (r : SideRef) (reason : Reason) (s : State) :
    (s.evalTapSide r reason).outlet = s.outlet := by
  unfold State.evalTapSide
  split
  · split
    · exact (State.shutTap_only _ _ _ _).outlet
    · rfl
  · rfl

theorem State.evalOutletSide_tap (r : SideRef) (reason : Reason) (s : State) :
    (s.evalOutletSide r reason).tap = s.tap := by
  unfold State.evalOutletSide
  split
  · exact (State.evalOutlet_only (.refl _ s) _).tap
  · rfl

theorem State.evalSide_tap (r : SideRef) (reason : Reason) (s : State) : (s.evalSide r reason).tap = s.tap := by
  unfold State.evalSide
  split
  · exact (State.flushAttempts_admits _).tap.trans (State.evalOutlet_only (.refl _ s) _).tap
  · rfl

/-! ## A standing that stops serving (02 R28) -/

section
variable {s u : State} {i : Nat} {r x : SideRef} {reason : Reason} {o : Outlet} {q : Tap}

/-- An operation on another outlet, on an outlet that has left service. -/
theorem State.Vacated.other {v : State} (h : u.Vacated i .off reason) {j : Nat} (hk : u.OnlyOutlet j v) (hj : i ≠ j) :
    v.Vacated i .off reason := by
  obtain ⟨hp, hq⟩ := h
  exact ⟨by rwa [hk.others i hj], hk.queue_none hj hq⟩

theorem State.Vacated.of_outlet {v : State} (h : u.Vacated i .off reason) (hv : v.outlet = u.outlet) :
    v.Vacated i .off reason := by
  unfold State.Vacated
  rwa [hv]

theorem State.Vacated.flushAttempts (h : u.Vacated i .off reason) : u.flushAttempts.Vacated i .off reason := by
  obtain ⟨hp, hq⟩ := h
  obtain ⟨he, hq'⟩ := (State.flushAttempts_admits u).queue i hq
  exact ⟨by rwa [he], hq'⟩

section
variable (hf : s.Follows u) (ho : s.outlet.outlets.get i = some o) (hn : s.sideServed o.ref = false)
include hf ho hn

/-- The outlet is on a side not served, in any state that follows. -/
theorem State.Follows.ineligible {p : Outlet} (hp : u.outlet.outlets.get i = some p) : u.outletEligible p = false := by
  have hr : p.ref = o.ref := by simpa [hp, ho] using hf.outletRef i
  rw [hf.leaves.outletEligible]
  exact State.outletEligible_unserved (by rwa [hr])

/-- An outlet that has left service stays so through the evaluation of any outlet. -/
theorem State.Vacated.evalOutlet (h : u.Vacated i .off reason) (j : Nat) :
    (u.evalOutlet j reason).Vacated i .off reason := by
  by_cases hj : i = j
  · subst hj
    obtain ⟨⟨p, hp, hx, -⟩, -⟩ := id h
    rwa [State.evalOutlet_off hp (hf.ineligible ho hn hp) hx]
  · exact h.other (State.evalOutlet_only (.refl j u) reason) hj

theorem State.Vacated.cutSide (h : u.Vacated i .off reason) (x : SideRef) :
    (u.cutSide x reason).Vacated i .off reason := by
  rw [State.cutSide_eq]
  refine State.Vacated.of_outlet ?_ (State.evalTapSide_outlet _ _ _)
  unfold State.evalOutletSide
  split
  · exact h.evalOutlet hf ho hn _
  · exact h

end

/-- An outlet of a side no longer served is as it was, or has left service. -/
def State.OutletCut (s : State) (i : Nat) (o : Outlet) (reason : Reason) (u : State) : Prop :=
  s.Follows u ∧ (u.outlet.outlets.get i = some o ∨ u.Vacated i .off reason)

section
variable (ho : s.outlet.outlets.get i = some o) (hn : s.sideServed o.ref = false) (hx : serving o.state)
  (hl : ∀ k, o.fault.latches.get k = false)
include ho hn hx hl

/-- Evaluated itself, the outlet leaves service. -/
theorem State.OutletCut.here (h : s.OutletCut i o reason u) : (u.evalOutlet i reason).Vacated i .off reason := by
  obtain ⟨hf, hi | hv⟩ := h
  · rw [State.evalOutlet_cuts hi (hf.ineligible ho hn hi) hx hl]
    exact State.vacate_vacated hi _ _
  · exact hv.evalOutlet hf ho hn i

/-- A cut of any side leaves the outlet as it was, or out of service. -/
theorem State.OutletCut.cutSide (h : s.OutletCut i o reason u) (x : SideRef) :
    s.OutletCut i o reason (u.cutSide x reason) := by
  obtain ⟨hf, hi | hv⟩ := id h
  · refine ⟨hf.cutSide x reason, ?_⟩
    rw [State.cutSide_eq]
    unfold State.evalOutletSide
    split
    · next j _ _ =>
      by_cases hj : i = j
      · subst hj
        exact .inr ((h.here ho hn hx hl).of_outlet (State.evalTapSide_outlet _ _ _))
      · refine .inl ?_
        rwa [State.evalTapSide_outlet, (State.evalOutlet_only (.refl j u) reason).others i hj]
    · exact .inl (by rwa [State.evalTapSide_outlet])
  · exact ⟨hf.cutSide x reason, .inr (hv.cutSide hf ho hn x)⟩

/-- A run of cuts that includes its side takes the outlet out of service. -/
theorem State.cutSides_outlet (hs : s.Ordered) {l : List SideRef} (hr : r ∈ l) (hi : s.outletOfSide r = some (i, o)) :
    (l.foldl (fun t r => t.cutSide r reason) s).Vacated i .off reason := by
  refine foldl_of_mem (Inv := s.OutletCut i o reason) (fun u x h => h.cutSide ho hn hx hl x)
    (fun u x h hv => hv.cutSide h.1 ho hn x) (fun u h => ?_) hr ⟨.refl hs, .inl ho⟩
  obtain ⟨p, -, hp⟩ := h.1.outletOfSide hs hi
  rw [State.cutSide_eq]
  refine State.Vacated.of_outlet ?_ (State.evalTapSide_outlet _ _ _)
  simpa only [State.evalOutletSide, hp] using h.here ho hn hx hl

end

/-- A tap that a cause has closed. -/
def State.Shut (i : Nat) (reason : Reason) (u : State) : Prop :=
  ∃ p, u.tap.taps.get i = some p ∧ p.state = .closed ∧ p.reason = reason ∧ p.session = none

/-- A tap of a side no longer served is as it was, or has been closed. -/
def State.TapCut (s : State) (i : Nat) (q : Tap) (reason : Reason) (u : State) : Prop :=
  s.Follows u ∧ (u.tap.taps.get i = some q ∨ u.Shut i reason)

/-- A closed tap stays so through an evaluation of any side. -/
theorem State.Shut.evalTapSide (h : u.Shut i reason) (hs : u.Ordered) (x : SideRef) :
    (u.evalTapSide x reason).Shut i reason := by
  obtain ⟨p, hp, hx, hr⟩ := id h
  unfold State.evalTapSide
  split
  · next j q hq =>
    split
    · next he =>
      have hj : i ≠ j := by
        rintro rfl
        obtain rfl : p = q := by simpa [hp] using (State.tapOfSide_spec hs hq).1
        simp [hx] at he
      exact ⟨p, ((State.shutTap_only _ _ _ _).others i hj).trans hp, hx, hr⟩
    · exact h
  · exact h

section
variable (hq : s.tap.taps.get i = some q) (hn : s.sideServed q.ref = false) (hx : q.state = .opened)
include hq hn hx

/-- On its own side, the tap is closed. -/
theorem State.TapCut.here (h : s.TapCut i q reason u) (hs : s.Ordered) (hi : s.tapOfSide r = some (i, q)) :
    (u.evalTapSide r reason).Shut i reason := by
  obtain ⟨hf, hu | hv⟩ := h
  · obtain ⟨p, hp, hpi⟩ := hf.tapOfSide hs hi
    obtain rfl : p = q := by simpa [hp] using hu
    have he : u.tapEligible p = false := State.tapEligible_unserved (by rwa [hf.leaves.sideServed])
    simp only [State.evalTapSide, hpi, hx, he]
    exact State.shutTap_get hp .closed reason
  · exact hv.evalTapSide hf.ordered r

omit hq hn hx in
/-- A cut of any side leaves the tap as it was, or closed. -/
theorem State.TapCut.evalTapSide (h : s.TapCut i q reason u) (x : SideRef) :
    s.TapCut i q reason (u.evalTapSide x reason) := by
  obtain ⟨hf, hu | hv⟩ := h
  · refine ⟨hf.evalTapSide x reason, ?_⟩
    unfold State.evalTapSide
    split
    · next j p hp =>
      split
      · by_cases hj : i = j
        · subst hj
          obtain ⟨hpi, -⟩ := State.tapOfSide_spec hf.ordered hp
          exact .inr (State.shutTap_get hpi .closed reason)
        · exact .inl (((State.shutTap_only _ _ _ _).others i hj).trans hu)
      · exact .inl hu
    · exact .inl hu
  · exact ⟨hf.evalTapSide x reason, .inr (hv.evalTapSide hf.ordered x)⟩

omit hq hn hx in
theorem State.TapCut.evalOutletSide (h : s.TapCut i q reason u) (x : SideRef) :
    s.TapCut i q reason (u.evalOutletSide x reason) := by
  refine ⟨h.1.evalOutletSide x reason, ?_⟩
  unfold State.Shut
  rw [State.evalOutletSide_tap]
  exact h.2

/-- A run of cuts that includes its side closes the tap. -/
theorem State.cutSides_tap (hs : s.Ordered) {l : List SideRef} (hr : r ∈ l) (hi : s.tapOfSide r = some (i, q)) :
    (l.foldl (fun t r => t.cutSide r reason) s).Shut i reason :=
  foldl_of_mem (Inv := s.TapCut i q reason)
    (fun _ x h => (h.evalOutletSide x).evalTapSide x)
    (fun u x h hv => State.Shut.evalTapSide (by unfold State.Shut; rwa [State.evalOutletSide_tap])
      (h.1.evalOutletSide x reason).ordered x)
    (fun _ h => (h.evalOutletSide r).here hq hn hx hs hi) hr ⟨.refl hs, .inl hq⟩

end

end

/-! ## A standing that serves again (02 R29) -/

section
variable {s u : State} {i : Nat} {r : SideRef} {reason : Reason} {o : Outlet}

/-- An operation leaves an outlet's state or brings it into use, on the same footing. -/
def State.Raises (i : Nat) (u v : State) : Prop := ∀ p, u.outlet.outlets.get i = some p →
  ∃ q, v.outlet.outlets.get i = some q ∧ q.footing = p.footing ∧ (q.state = p.state ∨ serving q.state)

/-- Attempts leave the state of an outlet, or take it to LIVE. -/
theorem State.flushAttempts_raises (i : Nat) (u : State) : u.Raises i u.flushAttempts := by
  intro p hp
  have ha := State.flushAttempts_admits u
  have hf := ha.footing i
  rcases ha.outlet i with hi | ⟨q, hq, hx⟩
  · exact ⟨p, hi.trans hp, rfl, .inl rfl⟩
  · rw [hq, hp, Option.map_some, Option.map_some] at hf
    exact ⟨q, hq, Option.some.inj hf, .inr (.inr (.inr hx))⟩

/-- The evaluation of any outlet leaves the state of an eligible one, or brings it into use. -/
theorem State.evalOutlet_raises_eligible {p : Outlet} (hp : u.outlet.outlets.get i = some p)
    (he : u.outletEligible p = true) (j : Nat) : u.Raises i (u.evalOutlet j reason) := by
  intro p' hp'
  obtain rfl : p = p' := by simpa [hp] using hp'
  by_cases hj : i = j
  · subst hj
    by_cases hoff : p.state = .off
    · obtain ⟨q, hq, hqf, hqx⟩ := State.evalOutlet_raises (reason := reason) hp he hoff
      exact ⟨q, hq, hqf, .inr hqx⟩
    · exact ⟨p, by rwa [State.evalOutlet_inUse hp he hoff], rfl, .inl rfl⟩
  · exact ⟨p, ((State.evalOutlet_only (.refl j u) reason).others i hj).trans hp, rfl, .inl rfl⟩

/-- An eligible outlet stays so, in a state of a kind. -/
def State.OutletRaised (s : State) (i : Nat) (o : Outlet) (P : OutletState → Prop) (u : State) : Prop :=
  s.Follows u ∧ ∃ p, u.outlet.outlets.get i = some p ∧ p.footing = o.footing ∧ P p.state

section
variable {P : OutletState → Prop} (he : s.outletEligible o = true) (h : s.OutletRaised i o P u)
include h

theorem State.OutletRaised.move (hP : ∀ x, serving x → P x) {v : State} (hf : s.Follows v) (hv : u.Raises i v) :
    s.OutletRaised i o P v := by
  obtain ⟨-, p, hp, hpf, hpx⟩ := h
  obtain ⟨q, hq, hqf, hqx⟩ := hv p hp
  exact ⟨hf, q, hq, hqf.trans hpf, hqx.elim (fun e => by rwa [e]) (hP _)⟩

include he

theorem State.OutletRaised.eligible {p : Outlet} (hp : u.outlet.outlets.get i = some p) :
    u.outletEligible p = true := by
  obtain ⟨hf, q, hq, hqf, -⟩ := h
  obtain rfl : p = q := by simpa [hp] using hq
  rw [hf.leaves.outletEligible, State.outletEligible_of_footing hqf, he]

theorem State.OutletRaised.evalSide (hP : ∀ x, serving x → P x) (x : SideRef) :
    s.OutletRaised i o P (u.evalSide x reason) := by
  unfold State.evalSide
  split
  · next j _ _ =>
    obtain ⟨p, hp, -⟩ := h.2
    have hv := h.move hP (h.1.evalOutlet j reason) (State.evalOutlet_raises_eligible hp (h.eligible he hp) j)
    exact hv.move hP hv.1.flushAttempts (State.flushAttempts_raises i _)
  · exact h

end

/-- Evaluated on its own side, an eligible outlet in OFF or in use is in use. -/
theorem State.OutletRaised.here (he : s.outletEligible o = true)
    (h : s.OutletRaised i o (fun x => x = .off ∨ serving x) u) (hs : s.Ordered)
    (hi : s.outletOfSide r = some (i, o)) : s.OutletRaised i o serving (u.evalSide r reason) := by
  obtain ⟨p, hp, hpi⟩ := h.1.outletOfSide hs hi
  have hep := h.eligible he hp
  have hv : s.OutletRaised i o serving (u.evalOutlet i reason) := by
    refine ⟨h.1.evalOutlet i reason, ?_⟩
    obtain ⟨-, p', hp', hpf, hpx⟩ := id h
    obtain rfl : p = p' := by simpa [hp] using hp'
    by_cases hoff : p.state = .off
    · obtain ⟨q, hq, hqf, hqx⟩ := State.evalOutlet_raises (reason := reason) hp hep hoff
      exact ⟨q, hq, hqf.trans hpf, hqx⟩
    · rw [State.evalOutlet_inUse hp hep hoff]
      exact ⟨p, hp, hpf, hpx.resolve_left hoff⟩
  simp only [State.evalSide, hpi]
  exact hv.move (fun _ => id) hv.1.flushAttempts (State.flushAttempts_raises i _)

/-- A run of evaluations that includes its side brings an eligible outlet in OFF into use. -/
theorem State.evalSides_outlet (he : s.outletEligible o = true) (hs : s.Ordered) {l : List SideRef} (hr : r ∈ l)
    (hi : s.outletOfSide r = some (i, o)) (hx : o.state = .off) :
    ∃ p, (l.foldl (fun t r => t.evalSide r reason) s).outlet.outlets.get i = some p ∧ serving p.state := by
  have hraised : s.OutletRaised i o serving (l.foldl (fun t r => t.evalSide r reason) s) :=
    foldl_of_mem (Inv := s.OutletRaised i o fun x => x = .off ∨ serving x)
      (fun _ x h => h.evalSide he (fun _ => .inr) x) (fun _ x _ hp => hp.evalSide he (fun _ => id) x)
      (fun _ h => h.here he hs hi) hr ⟨.refl hs, o, (State.outletOfSide_spec hs hi).1, rfl, .inl hx⟩
  obtain ⟨-, p, hp, -, hpx⟩ := hraised
  exact ⟨p, hp, hpx⟩

theorem State.evalSides_tap (l : List SideRef) (s : State) :
    (l.foldl (fun t r => t.evalSide r reason) s).tap = s.tap :=
  List.foldlRecOn (motive := fun t : State => t.tap = s.tap) l _ rfl fun _ h x _ =>
    (State.evalSide_tap x reason _).trans h

end

/-! ## A change of lamp (02 R29) -/

section
variable {s u : State} {i : Nat} {r : SideRef} {o : Outlet}

/-- Only the poll list differs. -/
def State.OnlyDevices (s u : State) : Prop := u = { s with bus := { s.bus with devices := u.bus.devices } }

theorem State.OnlyDevices.imageOf (h : s.OnlyDevices u) (a : Nat) : u.imageOf a = s.imageOf a := by
  rw [h]
  rfl

/-- A poll list entry has the image that the units give its pedestal. -/
def State.Imaged (s : State) (a : Nat) (u : State) : Prop :=
  ∃ d, u.bus.devices.get a = some d ∧ d.desired = s.imageOf a

/-- The entry of a pedestal is on the poll list. -/
def State.Listed (a : Nat) (u : State) : Prop := ∃ d, u.bus.devices.get a = some d

theorem State.Listed.writeImage {a : Nat} (h : u.Listed a) (b : Nat) : (u.writeImage b).Listed a := by
  obtain ⟨d, hd⟩ := h
  by_cases hab : a = b
  · subst hab
    exact ⟨_, (Table.get_modify_self _ _ _).trans (congrArg (Option.map _) hd)⟩
  · exact ⟨d, (Table.get_modify_ne _ _ hab).trans hd⟩

/-- An image written gives the entry what the units give its pedestal. -/
theorem State.OnlyDevices.writeImage_imaged (h : s.OnlyDevices u) {a : Nat} (ha : u.Listed a) :
    s.Imaged a (u.writeImage a) := by
  obtain ⟨d, hd⟩ := ha
  exact ⟨_, (Table.get_modify_self _ _ _).trans (congrArg (Option.map _) hd), h.imageOf a⟩

theorem State.Imaged.writeImage {a : Nat} (hu : s.Imaged a u) (h : s.OnlyDevices u) (b : Nat) :
    s.Imaged a (u.writeImage b) := by
  obtain ⟨d, hd, hi⟩ := id hu
  by_cases hab : a = b
  · subst hab
    exact h.writeImage_imaged ⟨d, hd⟩
  · exact ⟨d, (Table.get_modify_ne _ _ hab).trans hd, hi⟩

/-- A change of lamp writes an image, or nothing. -/
theorem State.relamp_cases (x : SideRef) (u : State) : u.relamp x = u ∨ ∃ b, u.relamp x = u.writeImage b := by
  unfold State.relamp
  split
  · split
    · exact .inr ⟨_, rfl⟩
    · exact .inl rfl
  · exact .inl rfl

theorem State.OnlyDevices.relamp (h : s.OnlyDevices u) (x : SideRef) : s.OnlyDevices (u.relamp x) := by
  rcases State.relamp_cases x u with e | ⟨b, e⟩ <;> rw [e]
  · exact h
  · unfold State.OnlyDevices
    rw [h]
    rfl

theorem State.relampSides_onlyDevices (l : List SideRef) (s : State) :
    s.OnlyDevices (l.foldl (fun t r => t.relamp r) s) :=
  List.foldlRecOn (motive := s.OnlyDevices) l _ rfl fun _ h x _ => h.relamp x

/-- A run of lamp changes that includes the side of a LIVE outlet writes its pedestal's image. -/
theorem State.relampSides_imaged {l : List SideRef} (hr : r ∈ l) (hi : s.outletOfSide r = some (i, o))
    (hx : o.state = .live) (hd : s.Listed o.address) :
    s.Imaged o.address (l.foldl (fun t r => t.relamp r) s) := by
  refine foldl_of_mem (Inv := fun u => s.OnlyDevices u ∧ u.Listed o.address) (fun u x h => ⟨h.1.relamp x, ?_⟩)
    (fun u x h hu => ?_) (fun u h => ?_) hr ⟨rfl, hd⟩
  · rcases State.relamp_cases x u with e | ⟨b, e⟩ <;> rw [e]
    · exact h.2
    · exact h.2.writeImage b
  · rcases State.relamp_cases x u with e | ⟨b, e⟩ <;> rw [e]
    · exact hu
    · exact hu.writeImage h.1 b
  · have hu : u.outletOfSide r = some (i, o) := by rw [h.1]; exact hi
    have he : u.relamp r = u.writeImage o.address := by simp only [State.relamp, hu, hx, if_true]
    rw [he]
    exact h.1.writeImage_imaged h.2

end

/-! ## Standing transitions (02 R27 to R29) -/

theorem Standing.serves_iff {x : Standing} : x.serves = true ↔ x = .good ∨ x = .low := by
  cases x <;> simp [Standing.serves]

theorem Standing.cutReason_eq (x : Standing) : x.cutReason = if x = .suspended then .suspended else .credit := by
  cases x <;> rfl

section
variable {n : Nat} {s : State} {was now : Standing}

theorem State.passStanding_cuts (hw : was.serves = true) (hn : now.serves = false) :
    s.passStanding n was now = ((s.sidesOf n).foldl (fun t r => t.cutSide r now.cutReason) s).flushAttempts := by
  simp [State.passStanding, hw, hn]

theorem State.passStanding_raises (hw : was.serves = false) (hn : now.serves = true) :
    s.passStanding n was now = (s.sidesOf n).foldl (fun t r => t.evalSide r now.cutReason) s := by
  simp [State.passStanding, hw, hn]

theorem State.passStanding_relamps (hw : was.serves = true) (hn : now.serves = true) :
    s.passStanding n was now = (s.sidesOf n).foldl (fun t r => t.relamp r) s := by
  simp [State.passStanding, hw, hn]

theorem State.passStanding_none (hw : was.serves = false) (hn : now.serves = false) : s.passStanding n was now = s := by
  simp [State.passStanding, hw, hn]

end

theorem State.restand_same {n : Nat} {a : Account} {s : State} (h : a.derive = a.standing) :
    s.restand n a = s.setAccount n { a with standing := a.derive } := if_pos h

theorem State.restand_passes {n : Nat} {a : Account} {s : State} (h : a.derive ≠ a.standing) :
    s.restand n a = ((s.setAccount n { a with standing := a.derive }).mark .account n).passStanding n a.standing
      a.derive := if_neg h

/-- The sides of the berths an account occupies are passed a transition. -/
theorem State.mem_sidesOf {n : Nat} {r : SideRef} {s : State} (h : occupies s n r) : r ∈ s.sidesOf n := by
  obtain ⟨j, b, hb, hx, hn⟩ := h
  have hv : b.service = some r := by simpa using List.find?_some hb
  exact List.mem_filterMap.2 ⟨(j, b), List.mem_filter.2 ⟨List.mem_of_find?_eq_some hb, by simp [hx, hn]⟩, hv⟩

/-- A side of a berth that an account occupies is served as the account's standing is. -/
theorem State.sideServed_occupied {n : Nat} {a : Account} {r : SideRef} {s : State} (h : occupies s n r)
    (ha : s.account n = some a) : s.sideServed r = a.standing.serves := by
  obtain ⟨j, b, hb, hx, hn⟩ := h
  simp [State.sideServed, hb, hx, hn, ha]

/-- What a transition reaches, by whether the account was and is served. -/
theorem standingTransitionsReachTheServices : Claim.StandingTransitionsReachTheServices := by
  refine ⟨fun n a s => ⟨State.restand_same, State.restand_passes⟩, fun n a was s hs ha => ?_⟩
  dsimp only
  simp only [← Standing.serves_iff, ← Standing.cutReason_eq, Bool.not_eq_true]
  refine ⟨fun hw hn r hr => ?_, fun hw hn => ?_, fun hw hn => ?_, fun hw hn => State.passStanding_none hw hn⟩
  · have hr' := State.mem_sidesOf hr
    have hun := (State.sideServed_occupied hr ha).trans hn
    rw [State.passStanding_cuts hw hn]
    refine ⟨fun i o hi hx hl => ?_, fun i q hi hx => ?_⟩
    · obtain ⟨ho, href⟩ := State.outletOfSide_spec hs hi
      exact (State.cutSides_outlet ho (href ▸ hun) hx hl hs hr' hi).flushAttempts.1
    · obtain ⟨hq, href⟩ := State.tapOfSide_spec hs hi
      rw [(State.flushAttempts_admits _).tap]
      exact State.cutSides_tap hq (href ▸ hun) hx hs hr' hi
  · rw [State.passStanding_raises hw hn]
    exact ⟨State.evalSides_tap _ s, fun r hr i o hi hx he =>
      State.evalSides_outlet he hs (State.mem_sidesOf hr) hi hx⟩
  · rw [State.passStanding_relamps hw hn]
    exact ⟨State.relampSides_onlyDevices _ s, fun r hr i o d hi hx hd =>
      State.relampSides_imaged (State.mem_sidesOf hr) hi hx ⟨d, hd⟩⟩

end Sys2Proof.Machine
end

section
/-! SUPPORT. What a record stored with its standing derived changes, and what ACCOUNT UPDATE and TOP UP make of a record
(02 R27, R30 to R32). -/

namespace Sys2Proof.Machine

open Sys2Proof Sys2Proof.Claim

/-! ## A record stored with its standing derived (02 R27) -/

/-- A record with its standing derived. -/
def Account.derived (a : Account) : Account := { a with standing := a.derive }

/-- Storing a record changes the account table, and then what the outlet and tap units may change. -/
theorem State.restand_leaves (n : Nat) (a : Account) (s : State) :
    (s.setAccount n a.derived).Leaves (s.restand n a) := by
  by_cases h : a.derive = a.standing
  · rw [State.restand_same h]
    exact .refl _
  · rw [State.restand_passes h]
    exact State.passStanding_leaves _ _ _ (State.mark_leaves _ _ (.refl _))

section
variable {n : Nat} {a : Account} {s t : State}

theorem State.Leaves.onlyAccount (h : (s.setAccount n a).Leaves t) : onlyAccount n (some a) s t :=
  ⟨by rw [h.account, State.setAccount_account, if_pos rfl], fun m hm => by
    rw [h.account, State.setAccount_account, if_neg hm]⟩

/-- One record changed is changed from any state of the same accounts. -/
theorem onlyAccount.of_accounts {u : State} {r : Option Account} (h : onlyAccount n r u t)
    (hu : ∀ m, u.account m = s.account m) : onlyAccount n r s t :=
  ⟨h.1, fun m hm => (h.2 m hm).trans (hu m)⟩

end

/-! ## ACCOUNT UPDATE (02 R30) -/

theorem State.reprioritise_leaves {before s : State} (n p : Nat) (h : before.Leaves s) :
    before.Leaves (s.reprioritise n p) := by
  unfold State.reprioritise
  exact State.leaves_foldl _ _ (State.leaves_mk h) fun u f => State.attempt_leaves f (.refl u)

/-- A changed record marks its notice, and a changed priority reaches the admission queue. -/
def State.noticed (f : AccountUpdate) (a : Account) (s : State) : State :=
  let t := if a.updated f = a then s else s.mark .account f.number
  if (a.updated f).priority = a.priority then t else t.reprioritise f.number (a.updated f).priority

theorem State.noticed_leaves (f : AccountUpdate) (a : Account) (s : State) : s.Leaves (s.noticed f a) := by
  have ht : s.Leaves (if a.updated f = a then s else s.mark .account f.number) := by
    split
    · exact .refl s
    · exact State.mark_leaves _ _ (.refl s)
  unfold State.noticed
  dsimp only
  split
  · exact ht
  · exact State.reprioritise_leaves _ _ ht

/-- The state an ACCOUNT UPDATE leaves. -/
def State.updated (f : AccountUpdate) (a : Account) (s : State) : State :=
  ((s.noticed f a).restand f.number (a.updated f)).flushAttempts

theorem State.updated_leaves (f : AccountUpdate) (a : Account) (s : State) :
    ((s.noticed f a).setAccount f.number (a.updated f).derived).Leaves (s.updated f a) :=
  State.flushAttempts_leaves (State.restand_leaves _ _ _)

theorem State.standingOf_eq {n : Nat} {a : Account} {s : State} (h : s.account n = some a) :
    s.standingOf n = a.standing := by simp [State.standingOf, h]

section
variable {f : AccountUpdate} {s : State}

theorem State.serveUpdate_notFound (h : s.account f.number = none) : s.serveUpdate f = s.refuseOffice .notFound := by
  simp only [State.serveUpdate, h]

theorem State.serveUpdate_updates {a : Account} (h : s.account f.number = some a) :
    s.serveUpdate f = (s.updated f a).acceptOffice [] (.standing (a.updated f).derive) := by
  have hs : (s.updated f a).standingOf f.number = (a.updated f).derive :=
    State.standingOf_eq (State.updated_leaves f a s).onlyAccount.1
  rw [← hs]
  simp only [State.serveUpdate, h]
  rfl

/-- With the priority unchanged, only the notice is marked beforehand. -/
theorem State.updated_samePriority {a : Account} (h : (a.updated f).priority = a.priority) :
    s.updated f a = ((if a.updated f = a then s else s.mark .account f.number).restand f.number
      (a.updated f)).flushAttempts := by
  rw [State.updated, State.noticed, if_pos h]

end

/-- ACCOUNT UPDATE, by whether the account is in the table. -/
theorem accountUpdateIsServed : Claim.AccountUpdateIsServed := by
  intro f rest fr s h hw
  refine ⟨fun hn => exec_officeOperation_done h hw (State.serveUpdate_notFound hn), fun a ha => ?_⟩
  have hl := State.updated_leaves f a (served rest s)
  have hn := State.noticed_leaves f a (served rest s)
  have hmgmt : ((served rest s).updated f a).mgmt = s.mgmt := hl.mgmt.trans hn.mgmt
  refine ⟨(served rest s).updated f a,
    exec_officeOperation_done h (by rw [hmgmt, hw]) (State.serveUpdate_updates ha),
    onlyAccount.of_accounts hl.onlyAccount hn.account, hmgmt, hl.berth.trans hn.berth, hl.fuel.trans hn.fuel, hl.gate.trans hn.gate,
    hl.tally.trans hn.tally, hl.tariff.trans hn.tariff, hl.office.trans hn.office, fun hd hp => ?_,
    State.updated_samePriority⟩
  rw [State.updated_samePriority hp, State.restand_same (a := a.updated f) hd]
  rfl

/-! ## TOP UP (02 R31, R32) -/

/-- A record with a top-up added (02 R31, R32). -/
def Account.toppedUp (x : Int) (a : Account) : Account :=
  { a with
    topUps := a.topUps + x
    balance := max (-99999999) (min (a.balance + x) 99999999)
    saturated := a.saturated || decide (max (-99999999) (min (a.balance + x) 99999999) ≠ a.balance + x) }

/-- A changed balance marks its notice. -/
def State.balanceMarked (f : TopUp) (a : Account) (s : State) : State :=
  if (a.toppedUp f.amount).balance = a.balance then s else s.mark .account f.number

theorem State.balanceMarked_leaves (f : TopUp) (a : Account) (s : State) : s.Leaves (s.balanceMarked f a) := by
  unfold State.balanceMarked
  split
  · exact .refl s
  · exact State.mark_leaves _ _ (.refl s)

/-- The state a TOP UP leaves. -/
def State.toppedUp (f : TopUp) (a : Account) (s : State) : State :=
  (s.balanceMarked f a).restand f.number (a.toppedUp f.amount)

theorem State.toppedUp_leaves (f : TopUp) (a : Account) (s : State) :
    ((s.balanceMarked f a).setAccount f.number (a.toppedUp f.amount).derived).Leaves (s.toppedUp f a) :=
  State.restand_leaves _ _ _

section
variable {f : TopUp} {s : State}

theorem State.serveTopUp_notFound (h : s.account f.number = none) : s.serveTopUp f = s.refuseOffice .notFound := by
  simp only [State.serveTopUp, h]

variable {a : Account} (h : s.account f.number = some a)
include h

theorem State.serveTopUp_outOfRange
    (hr : a.topUps + f.amount < -140737488355328 ∨ 140737488355328 < a.topUps + f.amount) :
    s.serveTopUp f = s.refuseOffice .outOfRange := by
  have hr : a.topUps + f.amount < -Config.maxTopUpSum ∨ Config.maxTopUpSum < a.topUps + f.amount := hr
  simp only [State.serveTopUp, h, if_pos hr]

theorem State.serveTopUp_adds (hlo : -140737488355328 ≤ a.topUps + f.amount)
    (hhi : a.topUps + f.amount ≤ 140737488355328) :
    s.serveTopUp f = (s.toppedUp f a).acceptOffice
      (flagIf (decide ((a.toppedUp f.amount).balance ≠ a.balance + f.amount)) .saturated)
      (.toppedUp (a.toppedUp f.amount).balance (a.toppedUp f.amount).derive) := by
  have hs : (s.toppedUp f a).standingOf f.number = (a.toppedUp f.amount).derive :=
    State.standingOf_eq (State.toppedUp_leaves f a s).onlyAccount.1
  have hr : ¬(a.topUps + f.amount < -Config.maxTopUpSum ∨ Config.maxTopUpSum < a.topUps + f.amount) :=
    not_or.2 ⟨Int.not_lt.2 hlo, Int.not_lt.2 hhi⟩
  rw [← hs]
  simp only [State.serveTopUp, h, if_neg hr, saturate_snd_eq, saturate_fst]
  rfl

end

/-- TOP UP, by whether the account is in the table and the sum of its top-ups in range. -/
theorem topUpIsServed : Claim.TopUpIsServed := by
  intro f rest fr s h hw
  refine ⟨fun hn => exec_officeOperation_done h hw (State.serveTopUp_notFound hn), fun a ha => ⟨fun hr =>
    exec_officeOperation_done h hw (State.serveTopUp_outOfRange ha hr), fun hlo hhi => ?_⟩⟩
  have hl := State.toppedUp_leaves f a (served rest s)
  have hn := State.balanceMarked_leaves f a (served rest s)
  have hmgmt : ((served rest s).toppedUp f a).mgmt = s.mgmt := hl.mgmt.trans hn.mgmt
  exact ⟨(served rest s).toppedUp f a,
    exec_officeOperation_done h (by rw [hmgmt, hw]) (State.serveTopUp_adds ha hlo hhi),
    onlyAccount.of_accounts hl.onlyAccount hn.account, hmgmt, hl.berth.trans hn.berth, hl.fuel.trans hn.fuel,
    hl.gate.trans hn.gate, hl.tally.trans hn.tally, hl.tariff.trans hn.tariff, hl.office.trans hn.office,
    fun hd => State.restand_same (a := a.toppedUp f.amount) hd, rfl⟩

/-- Settles O24, by the two operations' cases and by what a transition of standing does at each side of its berths. -/
theorem accountUpdateAndTopUpAreServed : Obligations.AccountUpdateAndTopUpAreServed :=
  ⟨accountUpdateIsServed, topUpIsServed, standingTransitionsReachTheServices⟩

end Sys2Proof.Machine
end

section
/-! SUPPORT. What a grant attempt of the pump FIFO changes, and the amount a sale that enters SETTLING comes to (06 R112,
R120; 02 R43). -/

namespace Sys2Proof.Machine

open Sys2Proof Sys2Proof.Claim

/-! ## A grant attempt (06 R112) -/

/-- A dispenser granted its pump keeps its sale; one without a sale is not granted a pump. -/
def Dispenser.Granted (d e : Dispenser) : Prop :=
  e.sale = d.sale ∧ (e = d ∨ d.sale ≠ none ∧ e.state = .authorised)

/-- What a grant attempt may change. -/
structure State.OnlyPumps (s t : State) : Prop where
  charge : t.charge = s.charge
  tally : t.tally = s.tally
  fuel : t.fuel = { s.fuel with dispensers := t.fuel.dispensers, fifo := t.fuel.fifo }
  waits : ∀ i ∈ t.fuel.fifo, i ∈ s.fuel.fifo
  granted : ∀ i d, s.fuel.dispensers.get i = some d → ∃ e, t.fuel.dispensers.get i = some e ∧ d.Granted e

theorem Dispenser.Granted.refl (d : Dispenser) : d.Granted d := ⟨rfl, .inl rfl⟩

theorem Dispenser.Granted.trans {d e f : Dispenser} (h : d.Granted e) (k : e.Granted f) : d.Granted f := by
  refine ⟨k.1.trans h.1, ?_⟩
  rcases k.2 with rfl | ⟨hs, hx⟩
  · exact h.2
  · exact .inr ⟨fun hn => hs (h.1.trans hn), hx⟩

theorem State.OnlyPumps.refl (s : State) : s.OnlyPumps s :=
  ⟨rfl, rfl, rfl, fun _ h => h, fun _ d h => ⟨d, h, .refl d⟩⟩

theorem State.OnlyPumps.trans {s t u : State} (h : s.OnlyPumps t) (k : t.OnlyPumps u) : s.OnlyPumps u where
  charge := k.charge.trans h.charge
  tally := k.tally.trans h.tally
  fuel := by rw [k.fuel, h.fuel]
  waits i hi := h.waits i (k.waits i hi)
  granted i d hd := by
    obtain ⟨e, he, hg⟩ := h.granted i d hd
    obtain ⟨f, hf, hk⟩ := k.granted i e he
    exact ⟨f, hf, hg.trans hk⟩

theorem State.authorise_onlyPumps (i : Nat) (s : State) : s.OnlyPumps (s.authorise i) := by
  unfold State.authorise
  split
  · exact .refl s
  · next d hd =>
    split
    · exact .refl s
    · next x hx =>
      refine ⟨rfl, rfl, rfl, fun _ h => h, fun j e he => ?_⟩
      by_cases hj : j = i
      · subst hj
        obtain rfl : d = e := Option.some.inj (hd.symm.trans he)
        exact ⟨_, Table.get_set_self _ _ _, rfl, .inr ⟨by simp [hx], rfl⟩⟩
      · exact ⟨e, (Table.get_set_ne _ _ hj).trans he, .refl e⟩

/-- A head leaves the FIFO. -/
theorem State.onlyPumps_of_pop {i : Nat} {rest : List Nat} {s : State} (h : s.fuel.fifo = i :: rest) :
    s.OnlyPumps { s with fuel := { s.fuel with fifo := rest } } :=
  ⟨rfl, rfl, rfl, fun j hj => by rw [h]; exact .tail _ hj, fun _ d hd => ⟨d, hd, .refl d⟩⟩

theorem State.grantHeads_onlyPumps (n : Nat) (s : State) : s.OnlyPumps (s.grantHeads n) := by
  induction n generalizing s with
  | zero => exact .refl s
  | succ n ih =>
    rw [State.grantHeads]
    split
    · exact .refl s
    · next i rest h =>
      split
      · exact ((State.onlyPumps_of_pop h).trans (State.authorise_onlyPumps i _)).trans (ih _)
      · exact .refl s

theorem State.grantPumps_onlyPumps (s : State) : s.OnlyPumps s.grantPumps := State.grantHeads_onlyPumps _ _

section
variable {s t : State} (h : s.OnlyPumps t)
include h

theorem State.OnlyPumps.sales : t.fuel.sales = s.fuel.sales := by rw [h.fuel]

theorem State.OnlyPumps.counter : t.fuel.counter = s.fuel.counter := by rw [h.fuel]

theorem State.OnlyPumps.tank0 : t.fuel.tank0 = s.fuel.tank0 := by rw [h.fuel]

theorem State.OnlyPumps.tank1 : t.fuel.tank1 = s.fuel.tank1 := by rw [h.fuel]

/-- A dispenser without a sale is as it was. -/
theorem State.OnlyPumps.unsold {i : Nat} {d : Dispenser} (hd : s.fuel.dispensers.get i = some d)
    (hx : d.sale = none) : t.fuel.dispensers.get i = some d := by
  obtain ⟨e, he, _, rfl | ⟨hs, _⟩⟩ := h.granted i d hd
  · exact he
  · exact absurd hx hs

end

/-! ## A sale that enters SETTLING (06 R120) -/

/-- A sale settled on a volume and an amount. -/
def Sale.settled (volume amount : Nat) (capped incomplete : Bool) (ended : Option Clock) (x : Sale) : Sale :=
  { x with
    volume := volume, amount := some amount, overrun := x.overrun || capped, incomplete := x.incomplete || incomplete
    endTime := ended }

/-- The tank of a grade is lowered; a changed tank marks the status notice. -/
def State.lowerTank (grade volume : Nat) (s : State) : State :=
  if (s.tankOf grade).lower volume = s.tankOf grade then s
  else (s.setTank grade ((s.tankOf grade).lower volume)).markStatus

/-- A sale settled at its dispenser, with the tank lowered and the tallies passed. -/
def State.settleAt (i volume amount : Nat) (d : Dispenser) (x : Sale) (s : State) : State :=
  ((s.setDispenser i { d.idled with state := .settling, sale := some x }).lowerTank x.grade volume).modLive
    (Tallies.sold i x.grade volume amount x.account.isNone)

theorem State.lowerTank_fuel (grade volume : Nat) (s : State) : (s.lowerTank grade volume).fuel =
    if grade = 0 then { s.fuel with tank0 := s.fuel.tank0.lower volume }
    else { s.fuel with tank1 := s.fuel.tank1.lower volume } := by
  unfold State.lowerTank State.tankOf
  by_cases hg : grade = 0
  · simp only [if_pos hg]
    split
    · next h => rw [h]
    · simp [State.markStatus, State.setTank, hg]
  · simp only [if_neg hg]
    split
    · next h => rw [h]
    · simp [State.markStatus, State.setTank, hg]

theorem State.lowerTank_charge (grade volume : Nat) (s : State) : (s.lowerTank grade volume).charge = s.charge := by
  unfold State.lowerTank
  split <;> rfl

theorem State.lowerTank_tally (grade volume : Nat) (s : State) : (s.lowerTank grade volume).tally = s.tally := by
  unfold State.lowerTank
  split <;> rfl

section
variable {i volume amount : Nat} {d : Dispenser} {x : Sale} {s : State}

theorem State.settleAt_charge : (s.settleAt i volume amount d x).charge = s.charge := State.lowerTank_charge _ _ _

theorem State.settleAt_fuel : (s.settleAt i volume amount d x).fuel =
    { s.fuel with
      dispensers := s.fuel.dispensers.set i { d.idled with state := .settling, sale := some x }
      tank0 := if x.grade = 0 then s.fuel.tank0.lower volume else s.fuel.tank0
      tank1 := if x.grade = 0 then s.fuel.tank1 else s.fuel.tank1.lower volume } := by
  have h := State.lowerTank_fuel x.grade volume (s.setDispenser i { d.idled with state := .settling, sale := some x })
  refine Eq.trans h ?_
  split <;> rfl

theorem State.settleAt_live : (s.settleAt i volume amount d x).tally.live =
    s.tally.live.sold i x.grade volume amount x.account.isNone := by
  rw [State.settleAt, State.modLive_tally, State.lowerTank_tally]
  rfl

theorem Tallies.sold_fuelSold (grade : Nat) (cash : Bool) (t : Tallies) :
    (t.sold i grade volume amount cash).fuelSold = addLifetime (2 * i + grade) volume t.fuelSold := by
  unfold Tallies.sold
  dsimp only
  split
  · rfl
  · split <;> rfl

theorem addLifetime_getD (k q : Nat) (t : Table Nat) :
    (addLifetime k q t).getD k 0 = (t.getD k 0 + q) % 4294967296 := by
  simp [addLifetime, Table.getD]

theorem State.request_fuelUnit (b : Bool) (r : FuelRequest) (s : State) : (s.request b r).fuel = s.fuel := by
  cases b <;> rfl

theorem State.request_tallies (b : Bool) (r : FuelRequest) (s : State) : (s.request b r).tally = s.tally := by
  cases b <;> rfl

theorem State.request_fuel (r : FuelRequest) (s : State) :
    (s.request false r).charge.fuel = s.charge.fuel ++ [r] := rfl

/-- A completed sale is numbered and joins the sale list; its dispenser is idle. -/
theorem State.completeSale_fuel (hd : s.fuel.dispensers.get i = some d) (hx : d.sale = some x) :
    (s.completeSale i).fuel = { s.fuel with
      dispensers := s.fuel.dispensers.set i d.idled
      sales := s.fuel.sales ++ [{ x with number := some (s.fuel.counter + 1), hold := 0 }]
      counter := s.fuel.counter + 1, newest := some (s.fuel.counter + 1) } := by
  simp only [State.completeSale, hd, hx]
  rfl

theorem State.completeSale_charge (i : Nat) (s : State) : (s.completeSale i).charge = s.charge := by
  unfold State.completeSale
  split
  · rfl
  · split <;> rfl

/-- The completed sales are the one tally a completed sale adds to. -/
theorem State.completeSale_tally (i : Nat) (s : State) : ∃ k, (s.completeSale i).tally =
    { s.tally with live := { s.tally.live with salesCompleted := k } } := by
  unfold State.completeSale
  split
  · exact ⟨_, rfl⟩
  · split <;> exact ⟨_, rfl⟩

theorem State.completeSale_fuelSold (i : Nat) (s : State) :
    (s.completeSale i).tally.live.fuelSold = s.tally.live.fuelSold := by
  obtain ⟨k, hk⟩ := State.completeSale_tally i s
  rw [hk]

variable {incomplete : Bool} (hd : s.fuel.dispensers.get i = some d) (hx : d.sale = some x)
include hd hx

/-- An account sale is capped at its hold, and a SETTLE is requested. -/
theorem State.enterSettling_account {n : Nat} (hn : x.account = some n) :
    let full := fuelAmount volume x.price
    let y := x.settled volume (min full x.hold) (decide (x.hold < full)) incomplete s.clockValue
    s.enterSettling false i volume incomplete =
      ((s.settleAt i volume (min full x.hold) d y).request false ⟨i, n, .settle x.hold (min full x.hold)⟩).grantPumps := by
  have hm : (if x.hold < fuelAmount volume x.price then x.hold else fuelAmount volume x.price) =
      min (fuelAmount volume x.price) x.hold := by
    split <;> omega
  simp only [State.enterSettling, hd, hx, hn, Option.isSome_some, Bool.true_and, decide_eq_true_eq, hm]
  simp [State.settleAt, State.lowerTank, Sale.settled, hn]

/-- A cash sale completes. -/
theorem State.enterSettling_cash (hn : x.account = none) :
    let full := fuelAmount volume x.price
    s.enterSettling false i volume incomplete =
      ((s.settleAt i volume full d (x.settled volume full false incomplete s.clockValue)).completeSale i).grantPumps := by
  simp [State.enterSettling, hd, hx, hn, State.settleAt, State.lowerTank, Sale.settled]

end

theorem State.settleAt_dispenser {i volume amount : Nat} {d : Dispenser} {x : Sale} {s : State} :
    (s.settleAt i volume amount d x).fuel.dispensers.get i =
      some { d.idled with state := .settling, sale := some x } := by
  rw [State.settleAt_fuel]
  exact Table.get_set_self _ _ _

/-- A sale settled and completed. -/
theorem State.completeSale_settleAt_fuel (i volume amount : Nat) (d : Dispenser) (x : Sale) (s : State) :
    ((s.settleAt i volume amount d x).completeSale i).fuel = { s.fuel with
      dispensers := (s.settleAt i volume amount d x).fuel.dispensers.set i d.idled
      sales := s.fuel.sales ++ [{ x with number := some (s.fuel.counter + 1), hold := 0 }]
      counter := s.fuel.counter + 1, newest := some (s.fuel.counter + 1)
      tank0 := if x.grade = 0 then s.fuel.tank0.lower volume else s.fuel.tank0
      tank1 := if x.grade = 0 then s.fuel.tank1 else s.fuel.tank1.lower volume } := by
  rw [State.completeSale_fuel State.settleAt_dispenser rfl, State.settleAt_fuel]
  rfl

section
variable {i volume : Nat} {incomplete : Bool} {d : Dispenser} {x : Sale} {s : State}
variable (hd : s.fuel.dispensers.get i = some d) (hx : d.sale = some x)
include hd hx

/-- The tanks and the lifetime tally after a settlement, whoever pays. -/
theorem State.enterSettling_volume : let t := s.enterSettling false i volume incomplete
    t.fuel.tank0 = (if x.grade = 0 then s.fuel.tank0.lower volume else s.fuel.tank0) ∧
    t.fuel.tank1 = (if x.grade = 0 then s.fuel.tank1 else s.fuel.tank1.lower volume) ∧
    t.tally.live.fuelSold = addLifetime (2 * i + x.grade) volume s.tally.live.fuelSold := by
  dsimp only
  cases hn : x.account with
  | none =>
    rw [State.enterSettling_cash hd hx hn, (State.grantPumps_onlyPumps _).tank0, (State.grantPumps_onlyPumps _).tank1,
      (State.grantPumps_onlyPumps _).tally, State.completeSale_fuelSold, State.completeSale_settleAt_fuel,
      State.settleAt_live, Tallies.sold_fuelSold]
    exact ⟨rfl, rfl, rfl⟩
  | some n =>
    rw [State.enterSettling_account hd hx hn, (State.grantPumps_onlyPumps _).tank0,
      (State.grantPumps_onlyPumps _).tank1, (State.grantPumps_onlyPumps _).tally, State.request_fuelUnit,
      State.request_tallies, State.settleAt_fuel, State.settleAt_live, Tallies.sold_fuelSold]
    exact ⟨rfl, rfl, rfl⟩

/-- An account sale waits settled at its dispenser, with its SETTLE requested. -/
theorem State.enterSettling_ofAccount {n : Nat} (hn : x.account = some n) :
    let full := fuelAmount volume x.price
    let y := x.settled volume (min full x.hold) (decide (x.hold < full)) incomplete s.clockValue
    let t := s.enterSettling false i volume incomplete
    (∃ e, t.fuel.dispensers.get i = some e ∧ e.sale = some y) ∧
    t.charge.fuel = s.charge.fuel ++ [⟨i, n, .settle x.hold (min full x.hold)⟩] ∧ t.fuel.sales = s.fuel.sales := by
  dsimp only
  rw [State.enterSettling_account hd hx hn]
  refine ⟨?_, ?_, ?_⟩
  · obtain ⟨e, he, hg⟩ := (State.grantPumps_onlyPumps _).granted i _
      ((congrArg (·.dispensers.get i) (State.request_fuelUnit _ _ _)).trans State.settleAt_dispenser)
    exact ⟨e, he, hg.1⟩
  · rw [(State.grantPumps_onlyPumps _).charge, State.request_fuel, State.settleAt_charge]
  · rw [(State.grantPumps_onlyPumps _).sales, State.request_fuelUnit, State.settleAt_fuel]

/-- A cash sale completes, and its dispenser is idle. -/
theorem State.enterSettling_ofCash (hn : x.account = none) :
    let y := x.settled volume (fuelAmount volume x.price) false incomplete s.clockValue
    let t := s.enterSettling false i volume incomplete
    t.fuel.sales = s.fuel.sales ++ [{ y with number := some (s.fuel.counter + 1), hold := 0 }] ∧
    t.fuel.dispensers.get i = some d.idled ∧ t.charge = s.charge ∧ t.fuel.counter = s.fuel.counter + 1 := by
  dsimp only
  rw [State.enterSettling_cash hd hx hn]
  refine ⟨?_, (State.grantPumps_onlyPumps _).unsold ?_ rfl, ?_, ?_⟩
  · rw [(State.grantPumps_onlyPumps _).sales, State.completeSale_settleAt_fuel]
  · rw [State.completeSale_settleAt_fuel]
    exact Table.get_set_self _ _ _
  · rw [(State.grantPumps_onlyPumps _).charge, State.completeSale_charge, State.settleAt_charge]
  · rw [(State.grantPumps_onlyPumps _).counter, State.completeSale_settleAt_fuel]

end

/-- Settles O43, by who pays: the amount of an account sale is capped at its hold; the volume reaches the tank and the
tally of the sale's grade either way. -/
theorem settlementComputesTheAmount : Obligations.SettlementComputesTheAmount := by
  intro i volume incomplete d x s hd hx
  obtain ⟨h0, h1, hv⟩ := State.enterSettling_volume (volume := volume) (incomplete := incomplete) hd hx
  refine ⟨fun n hn => State.enterSettling_ofAccount hd hx hn, fun hn => State.enterSettling_ofCash hd hx hn,
    fun hg => ⟨?_, ?_⟩, fun hg => ⟨?_, ?_⟩, ?_⟩
  · rw [h0, if_pos hg, if_pos hg]; rfl
  · rw [h1, if_pos hg]
  · rw [h1, if_neg hg, if_neg hg]; rfl
  · rw [h0, if_neg hg]
  · rw [hv, addLifetime_getD]

end Sys2Proof.Machine
end

section
/-! SUPPORT. What the FUEL requester makes of the requests it is granted (02 R40 to R43). -/

namespace Sys2Proof.Machine

open Sys2Proof Sys2Proof.Claim

/-! ## The grant -/

/-- The state the FUEL requester serves its oldest request from. -/
def State.fuelGranted (l : List FuelRequest) (s : State) : State :=
  { s with charge := { s.charge with lastGranted := .fuel, fuel := l } }

/-- The oldest request is served where it is of the step's kind. -/
theorem State.grantFuel_serves {kind : FuelAsk → Bool} {r : FuelRequest} {l : List FuelRequest} {s : State}
    (hg : s.charge.nextGrant = some .fuel) (hq : s.charge.fuel = r :: l) (hk : kind r.ask = true) :
    s.grantFuel kind = (s.fuelGranted l).serveFuel r := by
  rw [State.grantFuel, if_pos hg, hq]
  dsimp only
  rw [if_pos hk]
  rfl

section
variable (s : State)

@[simp] theorem State.refreshAlarm_account (n : Nat) : s.refreshAlarm.account n = s.account n := by
  rw [State.refreshAlarm_eq]; rfl

@[simp] theorem State.refreshAlarm_chargeEngine : s.refreshAlarm.charge = s.charge := by
  rw [State.refreshAlarm_eq]

@[simp] theorem State.refreshAlarm_fuelUnit : s.refreshAlarm.fuel = s.fuel := by rw [State.refreshAlarm_eq]

@[simp] theorem State.refreshAlarm_berth : s.refreshAlarm.berth = s.berth := by rw [State.refreshAlarm_eq]

@[simp] theorem State.refreshAlarm_tally : s.refreshAlarm.tally = s.tally := by rw [State.refreshAlarm_eq]

end

/-! ## The answer of an office sale -/

theorem State.answer_fuelUnit (fr : IntakeFrame) (a : Answer) (s : State) : (s.answer fr a).fuel = s.fuel := by
  rw [State.answer_eq]

theorem State.answerHold_fuelUnit (i : Nat) (a : Answer) (s : State) : (s.answerHold i a).fuel = s.fuel := by
  unfold State.answerHold
  split
  · split
    · exact State.answer_fuelUnit _ _ s
    · rfl
  · rfl
  · rfl
  · rfl

/-! ## The held amount (02 R41) -/

/-- A change of the held amount derives the record's standing again. -/
theorem State.changeHeld_leaves {n : Nat} {a : Account} {s : State} (f : Account → Account)
    (h : s.account n = some a) : (s.setAccount n (f a).derived).Leaves (s.changeHeld n f) := by
  have hm : (s.setAccount n (f a).derived).Leaves ((s.mark .account n).setAccount n (f a).derived) :=
    State.mark_leaves .account n (.refl _)
  have hc : s.changeHeld n f = (s.mark .account n).restand n (f a) := by simp only [State.changeHeld, h]
  rw [hc]
  exact hm.trans (State.restand_leaves n (f a) _)

/-! ## A HOLD granted (06 R111, R112) -/

/-- The dispenser of a sale that enters WAIT_PUMP waits there or is granted its pump. -/
theorem State.enterWaitPump_get {i : Nat} {d : Dispenser} {s : State} (h : s.fuel.dispensers.get i = some d) :
    ∃ e, (s.enterWaitPump i).fuel.dispensers.get i = some e ∧ e.sale = d.sale ∧
      (e.state = .waitPump ∨ e.state = .authorised) := by
  obtain ⟨u, hu, hd⟩ : ∃ u : State, s.enterWaitPump i = u.grantPumps ∧
      u.fuel.dispensers.get i = some { d with state := .waitPump } := ⟨_, rfl, by simp [h]⟩
  obtain ⟨e, he, hs, hx⟩ := (State.grantPumps_onlyPumps u).granted i _ hd
  rw [hu]
  refine ⟨e, he, hs, ?_⟩
  rcases hx with rfl | ⟨-, hx⟩
  · exact .inl rfl
  · exact .inr hx

theorem State.holdGranted_spares {before s : State} (i h : Nat) (hk : before.Spares s) :
    before.Spares (s.holdGranted i h) := by
  have hw := State.enterWaitPump_spares i (State.modDispenser_spares i (fun d => { d with
    sale := d.sale.map fun x => { x with hold := h } }) hk)
  unfold State.holdGranted
  dsimp only
  split
  · exact hw
  · exact State.answerHold_spares _ _ hw

theorem State.holdGranted_get {i h : Nat} {d : Dispenser} {x : Sale} {s : State}
    (hd : s.fuel.dispensers.get i = some d) (hx : d.sale = some x) :
    ∃ e, (s.holdGranted i h).fuel.dispensers.get i = some e ∧ e.sale = some { x with hold := h } ∧
      (e.state = .waitPump ∨ e.state = .authorised) := by
  have hm : (s.modSale i fun x => { x with hold := h }).fuel.dispensers.get i =
      some { d with sale := some { x with hold := h } } := by
    simp [State.modSale, hd, hx]
  obtain ⟨e, he, hs, hw⟩ := State.enterWaitPump_get hm
  refine ⟨e, ?_, hs, hw⟩
  simp only [State.holdGranted, he, State.answerHold_fuelUnit]

/-! ## A HOLD that fails (06 R111, R117) -/

/-- A cancelled sale leaves the FIFO before the grant attempt; without a hold, its dispenser is idle. -/
theorem State.cancelSale_grants {toOffice : Bool} {i : Nat} {d : Dispenser} {x : Sale} {s : State}
    (hd : s.fuel.dispensers.get i = some d) (hx : d.sale = some x) :
    ∃ (u : State) (e : Dispenser), s.cancelSale toOffice i = u.grantPumps ∧
      u.fuel = { s.fuel with
        dispensers := s.fuel.dispensers.set i e, fifo := s.fuel.fifo.filter fun j => decide (j ≠ i) } ∧
      (x.hold = 0 → e = d.idled) := by
  have hf : ((s.withdrawHold i).answerHold i (.refused .wrongState)).fuel = s.fuel := State.answerHold_fuelUnit _ _ _
  simp only [State.cancelSale, hd, hx]
  split
  · next hz =>
    refine ⟨_, { d.idled with state := .cancelling, sale := some x }, rfl, ?_, fun h => absurd h (of_decide_eq_false hz)⟩
    rw [State.mark_fuel, State.request_fuelUnit, State.setDispenser_fuel, hf]
  · refine ⟨_, d.idled, rfl, ?_, fun _ => rfl⟩
    rw [State.mark_fuel, State.setDispenser_fuel, hf]

/-- What a cancelled sale leaves of the fuel unit. -/
theorem State.cancelSale_fuel {toOffice : Bool} {i : Nat} {d : Dispenser} {x : Sale} {s : State}
    (hd : s.fuel.dispensers.get i = some d) (hx : d.sale = some x) : let t := s.cancelSale toOffice i
    t.fuel.sales = s.fuel.sales ∧ i ∉ t.fuel.fifo ∧ (x.hold = 0 → t.fuel.dispensers.get i = some d.idled) := by
  obtain ⟨u, e, hu, hf, he⟩ := State.cancelSale_grants (toOffice := toOffice) hd hx
  have hp := State.grantPumps_onlyPumps u
  dsimp only
  rw [hu]
  refine ⟨by rw [hp.sales, hf], fun hi => ?_, fun hz => hp.unsold ?_ rfl⟩
  · have hm := hp.waits i hi
    simp [hf] at hm
  · rw [hf, he hz]
    exact Table.get_set_self _ _ _

theorem State.holdFailed_spares {before s : State} (i : Nat) (hk : before.Spares s) :
    before.Spares (s.holdFailed i) := by
  unfold State.holdFailed
  split
  · exact hk
  · have hc := State.cancelSale_spares false i (State.answerHold_spares i (.refused .insufficientCredit) hk)
    dsimp only
    split
    · exact State.writeOneShot_spares _ _ hc
    · exact hc

theorem State.holdFailed_fuel {i : Nat} {d : Dispenser} {x : Sale} {s : State}
    (hd : s.fuel.dispensers.get i = some d) (hx : d.sale = some x) : let t := s.holdFailed i
    t.fuel.sales = s.fuel.sales ∧ i ∉ t.fuel.fifo ∧ (x.hold = 0 → t.fuel.dispensers.get i = some d.idled) := by
  have hf := State.answerHold_fuelUnit i (.refused .insufficientCredit) s
  have hc := State.cancelSale_fuel (toOffice := false) (hf ▸ hd) hx
  have hw : (s.holdFailed i).fuel = ((s.answerHold i (.refused .insufficientCredit)).cancelSale false i).fuel := by
    simp only [State.holdFailed, hd]
    split <;> rfl
  dsimp only at hc ⊢
  rw [hf] at hc
  rw [hw]
  exact hc

/-! ## HOLD, RELEASE and SETTLE served -/

theorem onlyAccount.congr {n : Nat} {r : Option Account} {s t u : State} (h : onlyAccount n r s t)
    (hu : u.charge.accounts = t.charge.accounts) : onlyAccount n r s u := by
  have ha : ∀ m, u.account m = t.account m := fun m => congrArg (Table.get · m) hu
  exact ⟨(ha n).trans h.1, fun m hm => (ha m).trans (h.2 m hm)⟩

/-- A record with a hold added. -/
def Account.hold (h : Nat) (a : Account) : Account := { a with held := a.held + h }

/-- A record with a hold given back. -/
def Account.release (h : Nat) (a : Account) : Account := { a with held := a.held - h }

section
variable {r : FuelRequest} {h : Nat} {a : Account} {s : State} (ha : s.account r.account = some a)
include ha

theorem State.serveHold_granted (hc : (h : Int) ≤ a.balance + a.overdraft - a.held) :
    s.serveHold r h = (s.changeHeld r.account (Account.hold h)).holdGranted r.dispenser h := by
  simp only [State.serveHold, ha]
  exact if_pos (decide_eq_true hc)

theorem State.serveHold_failed (hc : a.balance + a.overdraft - a.held < (h : Int)) :
    s.serveHold r h = s.holdFailed r.dispenser := by
  simp only [State.serveHold, ha]
  exact if_neg (mt of_decide_eq_true (Int.not_le.2 hc))

end

/-- A HOLD, by whether the account covers it. -/
theorem fuelHoldIsServed : Claim.FuelHoldIsServed := by
  intro r h l a d x s hact hg hq hr ha hd hx
  have ha' : (s.fuelGranted l).account r.account = some a := ha
  have hs : s.grantFuel FuelAsk.isHold = (s.fuelGranted l).serveHold r h := by
    rw [State.grantFuel_serves hg hq (by rw [hr]; rfl), State.serveFuel, hr]
  rw [exec_of_active rfl hact, hs]
  refine ⟨fun hc => ⟨_, rfl, ?_⟩, fun hc => ⟨_, rfl, ?_⟩⟩
  · have hl := State.changeHeld_leaves (Account.hold h) ha'
    have hk := State.holdGranted_spares r.dispenser h (.refl ((s.fuelGranted l).changeHeld r.account (Account.hold h)))
    have hn : onlyAccount r.account (some (a.hold h).derived) s ((s.fuelGranted l).changeHeld r.account
        (Account.hold h)) := onlyAccount.of_accounts hl.onlyAccount fun _ => rfl
    rw [State.serveHold_granted ha' hc, State.refreshAlarm_chargeEngine, State.refreshAlarm_fuelUnit]
    refine ⟨onlyAccount.congr hn ?_, hk.lastGranted.trans hl.lastGranted,
      State.holdGranted_get (by rw [hl.fuel]; exact hd) hx⟩
    rw [State.refreshAlarm_chargeEngine, hk.accounts]
  · have hk := State.holdFailed_spares r.dispenser (.refl (s.fuelGranted l))
    rw [State.serveHold_failed ha' hc, State.refreshAlarm_chargeEngine, State.refreshAlarm_fuelUnit]
    exact ⟨hk.accounts, State.holdFailed_fuel (s := s.fuelGranted l) hd hx⟩

section
variable {r : FuelRequest} {h c : Nat} {a : Account} {d : Dispenser} {x : Sale} {s : State}
variable (ha : s.account r.account = some a) (hd : s.fuel.dispensers.get r.dispenser = some d)
include ha hd

/-- A RELEASE changes the record, and its dispenser is idle. -/
theorem State.serveRelease_serves : let t := s.serveRelease r h
    onlyAccount r.account (some (a.release h).derived) s t ∧
    t.fuel = { s.fuel with dispensers := s.fuel.dispensers.set r.dispenser d.idled } ∧
    t.charge.fuel = s.charge.fuel ∧ t.tally = s.tally := by
  have hl := State.changeHeld_leaves (Account.release h) ha
  refine ⟨hl.onlyAccount, ?_, hl.requests, hl.tally⟩
  have hf : ((s.changeHeld r.account (Account.release h)).modDispenser r.dispenser Dispenser.idled).fuel =
      { s.fuel with dispensers := s.fuel.dispensers.set r.dispenser d.idled } := by
    rw [State.modDispenser_fuel, hl.fuel]
    exact congrArg (fun t => { s.fuel with dispensers := t }) (Table.modify_of_some Dispenser.idled hd)
  exact hf

/-- A SETTLE debits the record, and the sale completes. -/
theorem State.serveSettle_serves (hx : d.sale = some x) : let t := s.serveSettle r h c
    onlyAccount r.account (some (a.settle r.account h c).derived) s t ∧
    t.fuel = { s.fuel with
      dispensers := s.fuel.dispensers.set r.dispenser d.idled
      sales := s.fuel.sales ++ [{ x with number := some (s.fuel.counter + 1), hold := 0 }]
      counter := s.fuel.counter + 1, newest := some (s.fuel.counter + 1) } ∧
    t.charge.fuel = s.charge.fuel ∧
    ∃ k, t.tally.live = { s.tally.live.chargeFuel x.grade c with salesCompleted := k } := by
  have hl := State.changeHeld_leaves (Account.settle r.account h c) ha
  have hd' : ((s.changeHeld r.account (Account.settle r.account h c)).modLive
      (Tallies.chargeFuel x.grade c)).fuel.dispensers.get r.dispenser = some d := by
    rw [State.modLive_fuel, hl.fuel]; exact hd
  have hg : s.saleGrade r.dispenser = x.grade := by simp [State.saleGrade, hd, hx]
  dsimp only [State.serveSettle]
  rw [hg]
  refine ⟨onlyAccount.congr hl.onlyAccount ?_, ?_, ?_, ?_⟩
  · rw [State.completeSale_charge, State.modLive_charge]
  · rw [State.completeSale_fuel hd' hx, State.modLive_fuel, hl.fuel]
    rfl
  · rw [State.completeSale_charge, State.modLive_charge, hl.requests]
    rfl
  · obtain ⟨k, hk⟩ := State.completeSale_tally r.dispenser
      ((s.changeHeld r.account (Account.settle r.account h c)).modLive (Tallies.chargeFuel x.grade c))
    rw [hk, State.modLive_tally, hl.tally]
    exact ⟨k, rfl⟩

end

/-- The charged tally of the first grade takes the settlements of grade 0 only. -/
theorem Tallies.chargeFuel_first {grade : Nat} (c : Nat) (t : Tallies) (h : grade = 0) :
    (t.chargeFuel grade c).chargedFuel0 = min (t.chargedFuel0 + c) 281474976710655 := by
  rw [Tallies.chargeFuel, if_pos h]
  rfl

theorem Tallies.chargeFuel_second {grade : Nat} (c : Nat) (t : Tallies) (h : grade ≠ 0) :
    (t.chargeFuel grade c).chargedFuel1 = min (t.chargedFuel1 + c) 281474976710655 := by
  rw [Tallies.chargeFuel, if_neg h]
  rfl

/-- A RELEASE and a SETTLE. -/
theorem fuelReleaseAndSettleAreServed : Claim.FuelReleaseAndSettleAreServed := by
  intro r l a d x s hact hg hq ha hd hx
  have ha' : (s.fuelGranted l).account r.account = some a := ha
  have hd' : (s.fuelGranted l).fuel.dispensers.get r.dispenser = some d := hd
  refine ⟨fun h hr => ?_, fun h c hr => ?_⟩
  · have hs : s.grantFuel FuelAsk.isRelease = (s.fuelGranted l).serveRelease r h := by
      rw [State.grantFuel_serves hg hq (by rw [hr]; rfl), State.serveFuel, hr]
    obtain ⟨hn, hf, hc, ht⟩ := State.serveRelease_serves (h := h) ha' hd'
    rw [exec_of_active rfl hact, hs]
    refine ⟨_, rfl, onlyAccount.of_accounts (onlyAccount.congr hn ?_) fun _ => rfl, ?_, ?_, ?_⟩
    · rw [State.refreshAlarm_chargeEngine]
    · rw [State.refreshAlarm_fuelUnit, hf]; rfl
    · rw [State.refreshAlarm_chargeEngine, hc]; rfl
    · rw [State.refreshAlarm_tally, ht]; rfl
  · have hs : s.grantFuel FuelAsk.isSettle = (s.fuelGranted l).serveSettle r h c := by
      rw [State.grantFuel_serves hg hq (by rw [hr]; rfl), State.serveFuel, hr]
    obtain ⟨hn, hf, hc, k, ht⟩ := State.serveSettle_serves (h := h) (c := c) ha' hd' hx
    rw [exec_of_active rfl hact, hs]
    refine ⟨_, rfl, ⟨(a.settle r.account h c).derived, onlyAccount.of_accounts (onlyAccount.congr hn ?_) fun _ => rfl,
      rfl, rfl, ?_, fun ht => addTotal_in ht, addTotal_ge _ _ _, fun ht => addTotal_le ht⟩, ?_, ?_, fun hz => ?_,
      fun hz => ?_⟩
    · rw [State.refreshAlarm_chargeEngine]
    · exact (saturate_fst a.balance (-(c : Int))).trans (by rw [← sub_eq_add_neg])
    · rw [State.refreshAlarm_fuelUnit, hf]; rfl
    · rw [State.refreshAlarm_chargeEngine, hc]; rfl
    · rw [State.refreshAlarm_tally, ht]; exact Tallies.chargeFuel_first c s.tally.live hz
    · rw [State.refreshAlarm_tally, ht]; exact Tallies.chargeFuel_second c s.tally.live hz

/-- Settles O28, by the kind of the request. -/
theorem fuelRequestsAreServed : Obligations.FuelRequestsAreServed :=
  ⟨fuelHoldIsServed, fuelReleaseAndSettleAreServed⟩

end Sys2Proof.Machine
end

section
/-! SUPPORT. What the POWER and WATER requesters make of the postings they are granted (02 R37 to R40). -/

namespace Sys2Proof.Machine

open Sys2Proof Sys2Proof.Claim

/-! ## The sources of the two services -/

section
variable {before s : State} (v : Service) (i : Nat)

theorem State.setSlots_leaves (l : List Posting) (h : before.Leaves s) : before.Leaves (s.setSlots v l) := by
  cases v
  · exact State.leaves_mk h
  · exact State.leaves_mk h

theorem State.modSession_leaves (f : Session → Session) (h : before.Leaves s) :
    before.Leaves (s.modSession v i f) := by
  cases v
  · exact State.modOutlet_leaves _ _ h
  · exact State.modTap_leaves _ _ h

theorem State.setWaiting_leaves (l : List WaitingClosing) (h : before.Leaves s) :
    before.Leaves (s.setWaiting v i l) := by
  cases v
  · exact State.modOutlet_leaves _ _ h
  · exact State.modTap_leaves _ _ h

theorem State.completeEnd_leaves (e : EndRecord) (h : before.Leaves s) : before.Leaves (s.completeEnd v i e) := by
  cases v
  · exact State.mark_leaves _ _ (State.modOutlet_leaves _ _ h)
  · exact State.mark_leaves _ _ (State.modTap_leaves _ _ h)

variable (s)

@[simp] theorem State.slots_setSlots (l : List Posting) : (s.setSlots v l).slots v = l := by cases v <;> rfl

@[simp] theorem State.sourceSession_setSlots (l : List Posting) :
    (s.setSlots v l).sourceSession v i = s.sourceSession v i := by cases v <;> rfl

@[simp] theorem State.waitingOf_setSlots (l : List Posting) : (s.setSlots v l).waitingOf v i = s.waitingOf v i := by
  cases v <;> rfl

@[simp] theorem State.slots_modSession (f : Session → Session) : (s.modSession v i f).slots v = s.slots v := by
  cases v <;> rfl

@[simp] theorem State.sourceSession_modSession (f : Session → Session) :
    (s.modSession v i f).sourceSession v i = (s.sourceSession v i).map f := by
  cases v with
  | power => cases h : s.outlet.outlets.get i <;> simp [State.modSession, State.sourceSession, h]
  | water => cases h : s.tap.taps.get i <;> simp [State.modSession, State.sourceSession, h]

@[simp] theorem State.waitingOf_modSession (f : Session → Session) :
    (s.modSession v i f).waitingOf v i = s.waitingOf v i := by
  cases v with
  | power => cases h : s.outlet.outlets.get i <;> simp [State.modSession, State.waitingOf, h]
  | water => cases h : s.tap.taps.get i <;> simp [State.modSession, State.waitingOf, h]

@[simp] theorem State.slots_completeEnd (e : EndRecord) : (s.completeEnd v i e).slots v = s.slots v := by
  cases v <;> rfl

@[simp] theorem State.sourceSession_completeEnd (e : EndRecord) :
    (s.completeEnd v i e).sourceSession v i = s.sourceSession v i := by
  cases v with
  | power => cases h : s.outlet.outlets.get i <;> simp [State.completeEnd, State.sourceSession, h]
  | water => cases h : s.tap.taps.get i <;> simp [State.completeEnd, State.sourceSession, h]

@[simp] theorem State.waitingOf_completeEnd (e : EndRecord) :
    (s.completeEnd v i e).waitingOf v i = s.waitingOf v i := by
  cases v with
  | power => cases h : s.outlet.outlets.get i <;> simp [State.completeEnd, State.waitingOf, h]
  | water => cases h : s.tap.taps.get i <;> simp [State.completeEnd, State.waitingOf, h]

end

/-- An end record joins its list, at most 4 records long. -/
theorem addEnd_eq (e : EndRecord) (ends : List EndRecord) (dropped : Bool) : addEnd e ends dropped =
    (if ends.length < 4 then ends ++ [e] else ends.tail ++ [e], if ends.length < 4 then dropped else true) := by
  by_cases h : ends.length < 4
  · rw [if_pos h, if_pos h]; exact if_pos h
  · rw [if_neg h, if_neg h]; exact if_neg h

theorem State.completeEnd_outlet {i : Nat} {o : Outlet} {s : State} (e : EndRecord)
    (h : s.outlet.outlets.get i = some o) : (s.completeEnd .power i e).outlet.outlets.get i = some { o with
      ends := if o.ends.length < 4 then o.ends ++ [e] else o.ends.tail ++ [e]
      endsDropped := if o.ends.length < 4 then o.endsDropped else true } := by
  simp [State.completeEnd, h, addEnd_eq]

theorem State.completeEnd_tap {i : Nat} {o : Tap} {s : State} (e : EndRecord)
    (h : s.tap.taps.get i = some o) : (s.completeEnd .water i e).tap.taps.get i = some { o with
      ends := if o.ends.length < 4 then o.ends ++ [e] else o.ends.tail ++ [e]
      endsDropped := if o.ends.length < 4 then o.endsDropped else true } := by
  simp [State.completeEnd, h, addEnd_eq]

/-! ## The slot of a source refilled (02 R37, R39) -/

theorem findPosting_dropPosting (i : Nat) (l : List Posting) : findPosting i (dropPosting i l) = none := by
  simp [findPosting, dropPosting]

theorem State.refill_leaves {before s : State} (v : Service) (i : Nat) (h : before.Leaves s) :
    before.Leaves (s.refill v i) := by
  have hw : ∀ l k, before.Leaves ((s.setSlots v l).setWaiting v i k) := fun l k =>
    State.setWaiting_leaves v i k (State.setSlots_leaves v l h)
  unfold State.refill
  split
  · exact h
  · split
    · dsimp only
      split
      · split
        · exact State.flushAttempts_leaves (State.evalOutlet_leaves _ _ (hw _ _))
        · exact hw _ _
      · exact hw _ _
    · split
      · split
        · exact h
        · exact State.modSession_leaves v i _ (State.setSlots_leaves v _ h)
      · exact h

section
variable {v : Service} {i : Nat} {s : State} (hf : findPosting i (s.slots v) = none) (hw : s.waitingOf v i = [])
include hf hw

/-- Nothing waits at a source without a session. -/
theorem State.refill_closed (hx : s.sourceSession v i = none) : s.refill v i = s := by
  simp [State.refill, hf, hw, hx]

/-- Where no closing waits, the unposted quantity of an open session moves into the emptied slot. -/
theorem State.refill_open {x : Session} (hx : s.sourceSession v i = some x) :
    (s.refill v i).sourceSession v i = some { x with unposted := 0 } ∧
    (s.refill v i).slots v = s.slots v ++ (if x.unposted = 0 then [] else [⟨i, x.account, x.unposted, none⟩]) := by
  by_cases hz : x.unposted = 0
  · have hr : s.refill v i = s := by simp [State.refill, hf, hw, hx, hz]
    rw [hr, hx, if_pos hz, List.append_nil, ← hz]
    exact ⟨rfl, rfl⟩
  · have hr : s.refill v i = (s.setSlots v (s.slots v ++ [⟨i, x.account, x.unposted, none⟩])).modSession v i
        fun y => { y with unposted := 0 } := by simp [State.refill, hf, hw, hx, hz]
    rw [hr, if_neg hz]
    simp [hx]

end

/-! ## A debit (02 R32, R38, R40) -/

/-- The units a posting does not reach. -/
structure State.SameUnits (s t : State) : Prop where
  lastGranted : t.charge.lastGranted = s.charge.lastGranted
  berth : t.berth = s.berth
  fuel : t.fuel = s.fuel

/-- The sources of the two services, and their posting slots. -/
structure State.SameSources (s t : State) : Prop where
  outlets : t.outlet.outlets = s.outlet.outlets
  taps : t.tap.taps = s.tap.taps
  power : t.charge.power = s.charge.power
  water : t.charge.water = s.charge.water

theorem State.SameUnits.refl (s : State) : s.SameUnits s := ⟨rfl, rfl, rfl⟩

theorem State.SameUnits.trans {s t u : State} (h : s.SameUnits t) (k : t.SameUnits u) : s.SameUnits u :=
  ⟨k.1.trans h.1, k.2.trans h.2, k.3.trans h.3⟩

theorem State.Leaves.sameUnits {s t : State} (h : s.Leaves t) : s.SameUnits t := ⟨h.lastGranted, h.berth, h.fuel⟩

theorem State.SameSources.refl (s : State) : s.SameSources s := ⟨rfl, rfl, rfl, rfl⟩

theorem State.SameSources.trans {s t u : State} (h : s.SameSources t) (k : t.SameSources u) : s.SameSources u :=
  ⟨k.1.trans h.1, k.2.trans h.2, k.3.trans h.3, k.4.trans h.4⟩

section
variable {s t : State} (h : s.SameSources t) (v : Service) (i : Nat)
include h

theorem State.SameSources.slots : t.slots v = s.slots v := by
  cases v
  · exact h.power
  · exact h.water

theorem State.SameSources.session : t.sourceSession v i = s.sourceSession v i := by
  cases v
  · exact congrArg (fun x => (Table.get x i).bind (·.session)) h.outlets
  · exact congrArg (fun x => (Table.get x i).bind (·.session)) h.taps

theorem State.SameSources.waiting : t.waitingOf v i = s.waitingOf v i := by
  cases v
  · exact congrArg (fun x => ((Table.get x i).map (·.waiting)).getD []) h.outlets
  · exact congrArg (fun x => ((Table.get x i).map (·.waiting)).getD []) h.taps

end

/-- A record changed twice. -/
theorem onlyAccount.trans {n : Nat} {q r : Option Account} {s t u : State} (h : onlyAccount n q s t)
    (k : onlyAccount n r t u) : onlyAccount n r s u :=
  ⟨k.1, fun m hm => (k.2 m hm).trans (h.2 m hm)⟩

theorem State.refreshAlarm_sameSources (s : State) : s.SameSources s.refreshAlarm := by
  rw [State.refreshAlarm_eq]
  exact ⟨rfl, rfl, rfl, rfl⟩

/-- A debit leaves the standing to be derived. -/
theorem Account.charge_standing (v : Service) (n c : Nat) (a : Account) : (a.charge v n c).standing = a.standing := by
  cases v <;> rfl

section
variable {v : Service} {n c : Nat} {a : Account} {s : State}

theorem State.debit_zero : s.debit v n 0 = s := if_pos rfl

theorem debited_zero : debited v n 0 a = a := if_pos rfl

theorem debited_pos (hc : c ≠ 0) : debited v n c a = (a.charge v n c).derived := if_neg hc

variable (ha : s.account n = some a)
include ha

theorem State.debit_pos (hc : c ≠ 0) :
    s.debit v n c = ((s.modLive (Tallies.charge v c)).mark .account n).restand n (a.charge v n c) := by
  simp only [State.debit, if_neg hc, ha]

theorem State.debit_pos_leaves (hc : c ≠ 0) :
    (((s.modLive (Tallies.charge v c)).mark .account n).setAccount n (a.charge v n c).derived).Leaves
      (s.debit v n c) := by
  rw [State.debit_pos ha hc]
  exact State.restand_leaves _ _ _

/-- A debit changes the record of its account. -/
theorem State.debit_onlyAccount : onlyAccount n (some (debited v n c a)) s (s.debit v n c) := by
  by_cases hc : c = 0
  · subst hc
    rw [State.debit_zero, debited_zero]
    exact ⟨ha, fun _ _ => rfl⟩
  · rw [debited_pos hc]
    exact onlyAccount.of_accounts (State.debit_pos_leaves ha hc).onlyAccount fun _ => rfl

theorem State.debit_sameUnits : s.SameUnits (s.debit v n c) := by
  by_cases hc : c = 0
  · subst hc
    rw [State.debit_zero]
    exact .refl s
  · have h := (State.debit_pos_leaves (v := v) ha hc).sameUnits
    exact ⟨h.lastGranted, h.berth, h.fuel⟩

/-- A debit joins the charged tally of its service. -/
theorem State.debit_tally : (s.debit v n c).tally =
    { s.tally with live := if c = 0 then s.tally.live else s.tally.live.charge v c } := by
  by_cases hc : c = 0
  · subst hc
    rw [State.debit_zero, if_pos rfl]
  · rw [(State.debit_pos_leaves ha hc).tally, if_neg hc]
    rfl

/-- A debit that leaves the standing as it was does not reach the sources. -/
theorem State.debit_sameSources (hs : (debited v n c a).standing = a.standing) : s.SameSources (s.debit v n c) := by
  by_cases hc : c = 0
  · subst hc
    rw [State.debit_zero]
    exact .refl s
  · rw [debited_pos hc, ← Account.charge_standing v n c a] at hs
    rw [State.debit_pos ha hc, State.restand_same hs]
    exact ⟨rfl, rfl, rfl, rfl⟩

end

/-! ## The grant (02 R35) -/

section
variable {v : Service} {e : Posting} {l : List Posting} {s : State}

theorem State.servePosting_open (hg : s.charge.nextGrant = some v.requester) (hq : s.slots v = e :: l)
    (hc : e.closing = none) : s.servePosting v = (s.grant v.requester).serveOpen v e := by
  simp only [State.servePosting, if_pos hg, hq, hc]

theorem State.servePosting_closing {z : Closing} (hg : s.charge.nextGrant = some v.requester)
    (hq : s.slots v = e :: l) (hc : e.closing = some z) :
    s.servePosting v = (s.grant v.requester).serveClosing v e z := by
  simp only [State.servePosting, if_pos hg, hq, hc]

theorem exec_postingOf (h : s.active = true) : exec (postingOf v) s = acted (s.servePosting v) := by
  cases v
  · exact exec_of_active rfl h
  · exact exec_of_active rfl h

theorem State.priceOf_eq {n : Nat} {a : Account} (h : s.account n = some a) :
    s.priceOf v n = (s.tariffRow a.cls).metered v := by simp only [State.priceOf, h]

/-- The entry of a source that is the oldest leaves the slots. -/
theorem dropPosting_head : dropPosting e.source (e :: l) = l.filter fun p => decide (p.source ≠ e.source) := by
  simp [dropPosting]

end

/-! ## An open entry (02 R38) -/

/-- A session with a served total: whole credit units are charged, the rest stays. -/
def Session.served (total : Nat) (x : Session) : Session :=
  { x with residual := total % 1000, charged := x.charged + total / 1000 }

/-- The state an open entry is debited in: its slot is emptied and its session served. -/
def State.entryTaken (v : Service) (e : Posting) (total : Nat) (s : State) : State :=
  (s.setSlots v (dropPosting e.source (s.slots v))).modSession v e.source (Session.served total)

section
variable {v : Service} {e : Posting} {l : List Posting} {x : Session} {a : Account} {s : State}

theorem State.entryTaken_leaves (total : Nat) : s.Leaves (s.entryTaken v e total) :=
  State.modSession_leaves _ _ _ (State.setSlots_leaves _ _ (.refl s))

theorem State.serveOpen_eq (hx : s.sourceSession v e.source = some x) (ha : s.account e.account = some a) :
    let total := x.residual + e.quantity * (s.tariffRow a.cls).metered v
    s.serveOpen v e = ((s.entryTaken v e total).debit v e.account (total / 1000)).refill v e.source := by
  dsimp only
  rw [← State.priceOf_eq ha]
  simp only [State.serveOpen, hx]
  rfl

/-- An open entry served is one debit of its account. -/
theorem State.serveOpen_debits (hx : s.sourceSession v e.source = some x) (ha : s.account e.account = some a) :
    let c := (x.residual + e.quantity * (s.tariffRow a.cls).metered v) / 1000
    let t := s.serveOpen v e
    onlyAccount e.account (some (debited v e.account c a)) s t ∧ s.SameUnits t ∧
    t.tally = { s.tally with live := if c = 0 then s.tally.live else s.tally.live.charge v c } := by
  dsimp only
  rw [State.serveOpen_eq hx ha]
  generalize x.residual + e.quantity * (s.tariffRow a.cls).metered v = total
  have hl : s.Leaves (s.entryTaken v e total) := State.entryTaken_leaves total
  have hu : (s.entryTaken v e total).account e.account = some a := (hl.account _).trans ha
  have hr := State.refill_leaves v e.source (.refl ((s.entryTaken v e total).debit v e.account (total / 1000)))
  refine ⟨onlyAccount.congr (onlyAccount.of_accounts (State.debit_onlyAccount hu) hl.account) hr.accounts,
    (hl.sameUnits.trans (State.debit_sameUnits hu)).trans hr.sameUnits, ?_⟩
  rw [hr.tally, State.debit_tally hu, hl.tally]

/-- With the standing as it was and no closing waiting, an open entry leaves the residual with its session and posts what
was unposted. -/
theorem State.serveOpen_posts (hq : s.slots v = e :: l) (hx : s.sourceSession v e.source = some x)
    (ha : s.account e.account = some a) (hw : s.waitingOf v e.source = []) :
    let total := x.residual + e.quantity * (s.tariffRow a.cls).metered v
    let t := s.serveOpen v e
    (debited v e.account (total / 1000) a).standing = a.standing →
      t.sourceSession v e.source = some { x with
        residual := total % 1000, charged := x.charged + total / 1000, unposted := 0 } ∧
      t.slots v = (l.filter fun p => decide (p.source ≠ e.source)) ++
        (if x.unposted = 0 then [] else [⟨e.source, x.account, x.unposted, none⟩]) := by
  dsimp only
  rw [State.serveOpen_eq hx ha]
  generalize x.residual + e.quantity * (s.tariffRow a.cls).metered v = total
  intro hs
  have hu : (s.entryTaken v e total).account e.account = some a := ((State.entryTaken_leaves total).account _).trans ha
  have hk := State.debit_sameSources hu hs
  have hslots : (s.entryTaken v e total).slots v = dropPosting e.source (e :: l) := by simp [State.entryTaken, hq]
  have hsession : (s.entryTaken v e total).sourceSession v e.source = some (x.served total) := by
    simp [State.entryTaken, hx]
  have hwaiting : (s.entryTaken v e total).waitingOf v e.source = [] := by simp [State.entryTaken, hw]
  rw [← hk.slots] at hslots
  obtain ⟨h1, h2⟩ := State.refill_open (hslots ▸ findPosting_dropPosting _ _)
    ((hk.waiting v e.source).trans hwaiting) ((hk.session v e.source).trans hsession)
  refine ⟨h1, ?_⟩
  rw [h2, hslots, dropPosting_head]
  rfl

end

/-- An open entry granted. -/
theorem openPostingIsDebited : Claim.OpenPostingIsDebited := by
  intro v e l x a s hact hg hq hc hx ha
  have hq' : (s.grant v.requester).slots v = e :: l := by rw [← hq]; cases v <;> rfl
  have hx' : (s.grant v.requester).sourceSession v e.source = some x := hx
  have ha' : (s.grant v.requester).account e.account = some a := ha
  obtain ⟨hn, hu, ht⟩ := State.serveOpen_debits hx' ha'
  have hk := State.refreshAlarm_sameSources ((s.grant v.requester).serveOpen v e)
  rw [exec_postingOf hact, State.servePosting_open hg hq hc]
  refine ⟨_, rfl, ?_, ?_, ?_, ?_, ?_, fun hs hw => ?_⟩
  · refine onlyAccount.of_accounts (onlyAccount.congr hn ?_) fun _ => rfl
    rw [State.refreshAlarm_chargeEngine]
  · rw [State.refreshAlarm_chargeEngine, hu.lastGranted]; rfl
  · rw [State.refreshAlarm_berth, hu.berth]; rfl
  · rw [State.refreshAlarm_fuelUnit, hu.fuel]; rfl
  · rw [State.refreshAlarm_tally, ht]; rfl
  · rw [hk.session, hk.slots]
    exact State.serveOpen_posts hq' hx' ha' hw hs

/-! ## A closing entry (02 R39) -/

/-- The state a closing entry is completed in: its whole units and its close rounding are debited. -/
def State.closingDebited (v : Service) (n c r : Nat) (s : State) : State := (s.debit v n c).debit v n r

/-- The end record of a closing entry is completed, and its slot emptied. -/
def State.entryClosed (v : Service) (i : Nat) (record : EndRecord) (s : State) : State :=
  (s.setSlots v (dropPosting i (s.slots v))).completeEnd v i record

section
variable {v : Service} {n i c r : Nat} {a : Account} {s : State}

theorem State.entryClosed_leaves (record : EndRecord) : s.Leaves (s.entryClosed v i record) :=
  State.completeEnd_leaves _ _ _ (State.setSlots_leaves _ _ (.refl s))

section
variable (ha : s.account n = some a)
include ha

theorem State.closingDebited_onlyAccount :
    onlyAccount n (some (debited v n r (debited v n c a))) s (s.closingDebited v n c r) := by
  have h1 := State.debit_onlyAccount (v := v) (c := c) ha
  exact onlyAccount.trans h1 (State.debit_onlyAccount h1.1)

theorem State.closingDebited_sameUnits : s.SameUnits (s.closingDebited v n c r) :=
  (State.debit_sameUnits ha).trans (State.debit_sameUnits (State.debit_onlyAccount ha).1)

/-- Two debits that leave the standing as it was do not reach the sources. -/
theorem State.closingDebited_sameSources (h1 : (debited v n c a).standing = a.standing)
    (h2 : (debited v n r (debited v n c a)).standing = a.standing) : s.SameSources (s.closingDebited v n c r) :=
  (State.debit_sameSources ha h1).trans (State.debit_sameSources (State.debit_onlyAccount ha).1 (h2.trans h1.symm))

end

/-- At a source without a session and without a waiting closing, the completed entry is all that changes. -/
theorem State.entryClosed_refill (record : EndRecord) (hw : s.waitingOf v i = []) (hx : s.sourceSession v i = none) :
    (s.entryClosed v i record).refill v i = s.entryClosed v i record :=
  State.refill_closed (by simp [State.entryClosed, findPosting_dropPosting]) (by simp [State.entryClosed, hw])
    (by simp [State.entryClosed, hx])

end

/-- The close rounding of a total in thousandths (02 R39). -/
def closeRounding (total : Nat) : Nat := if 500 ≤ total % 1000 then 1 else 0

/-- An end record with the units and the close rounding charged at its close. -/
def EndRecord.charging (c r : Nat) (x : EndRecord) : EndRecord := { x with charged := x.charged + c + r }

section
variable {v : Service} {e : Posting} {z : Closing} {l : List Posting} {a : Account} {s : State}
variable (ha : s.account e.account = some a)
include ha

theorem State.serveClosing_eq : let total := z.carried + e.quantity * (s.tariffRow a.cls).metered v
    s.serveClosing v e z = ((s.closingDebited v e.account (total / 1000) (closeRounding total)).entryClosed v e.source
      (z.record.charging (total / 1000) (closeRounding total))).refill v e.source := by
  dsimp only
  rw [← State.priceOf_eq ha]
  rfl

theorem State.serveClosing_debits : let total := z.carried + e.quantity * (s.tariffRow a.cls).metered v
    let t := s.serveClosing v e z
    onlyAccount e.account (some (debited v e.account (closeRounding total) (debited v e.account (total / 1000) a))) s t ∧
    s.SameUnits t := by
  dsimp only
  rw [State.serveClosing_eq ha]
  have hr := fun (u : State) (x : EndRecord) =>
    State.refill_leaves v e.source (State.entryClosed_leaves (v := v) (i := e.source) (s := u) x)
  exact ⟨onlyAccount.congr (State.closingDebited_onlyAccount ha) (hr _ _).accounts,
    (State.closingDebited_sameUnits ha).trans (hr _ _).sameUnits⟩

/-- With the standing as it was, no closing waiting and no session open, the completed entry is all the source sees. -/
theorem State.serveClosing_completes (hq : s.slots v = e :: l) (hw : s.waitingOf v e.source = [])
    (hx : s.sourceSession v e.source = none) :
    let total := z.carried + e.quantity * (s.tariffRow a.cls).metered v
    let record := z.record.charging (total / 1000) (closeRounding total)
    let t := s.serveClosing v e z
    (debited v e.account (total / 1000) a).standing = a.standing →
    (debited v e.account (closeRounding total) (debited v e.account (total / 1000) a)).standing = a.standing →
      t.slots v = (l.filter fun p => decide (p.source ≠ e.source)) ∧
      ∃ u, s.SameSources u ∧ t = u.entryClosed v e.source record := by
  dsimp only
  rw [State.serveClosing_eq ha]
  generalize z.carried + e.quantity * (s.tariffRow a.cls).metered v = total
  intro h1 h2
  have hk := State.closingDebited_sameSources ha h1 h2
  rw [State.entryClosed_refill _ ((hk.waiting v _).trans hw) ((hk.session v _).trans hx)]
  refine ⟨?_, _, hk, rfl⟩
  simp [State.entryClosed, hk.slots, hq, dropPosting_head]

end

/-- A closing entry granted. -/
theorem closingPostingIsRounded : Claim.ClosingPostingIsRounded := by
  intro v e z l a s hact hg hq hc ha
  have hq' : (s.grant v.requester).slots v = e :: l := by rw [← hq]; cases v <;> rfl
  have ha' : (s.grant v.requester).account e.account = some a := ha
  obtain ⟨hn, hu⟩ := State.serveClosing_debits (v := v) (z := z) ha'
  have hk := State.refreshAlarm_sameSources ((s.grant v.requester).serveClosing v e z)
  rw [exec_postingOf hact, State.servePosting_closing hg hq hc]
  refine ⟨_, rfl, ?_, ?_, ?_, ?_, fun h1 h2 hw hx => ?_⟩
  · refine onlyAccount.of_accounts (onlyAccount.congr hn ?_) fun _ => rfl
    rw [State.refreshAlarm_chargeEngine]
  · rw [State.refreshAlarm_chargeEngine, hu.lastGranted]; rfl
  · rw [State.refreshAlarm_berth, hu.berth]; rfl
  · rw [State.refreshAlarm_fuelUnit, hu.fuel]; rfl
  · obtain ⟨hs, u, hsu, ht⟩ := State.serveClosing_completes (z := z) ha' hq' hw hx h1 h2
    rw [hk.slots, hk.outlets, hk.taps]
    refine ⟨hs, ?_, ?_⟩
    · rintro o rfl ho
      rw [ht]
      exact State.completeEnd_outlet _ ((congrArg (Table.get · e.source) hsu.outlets).trans ho)
    · rintro o rfl ho
      rw [ht]
      exact State.completeEnd_tap _ ((congrArg (Table.get · e.source) hsu.taps).trans ho)

/-- Settles O27, by the kind of the entry: one debit for an open entry, two for a closing one. -/
theorem meteredPostingsAreDebited : Obligations.MeteredPostingsAreDebited :=
  ⟨openPostingIsDebited, closingPostingIsRounded⟩

end Sys2Proof.Machine
end

section
/-! SUPPORT. The admission queue: the place of an entry, the head of a feeder's part, and the attempts along it (03 R55,
R58, R59). -/

namespace Sys2Proof.Machine

open Sys2Proof Sys2Proof.Claim

/-! ## The place of an entry (03 R58) -/

theorem QueueEntry.before_iff {a b : QueueEntry} : a.before b = true ↔ goesBefore a b := by
  unfold QueueEntry.before goesBefore
  split
  · next hp => simp [hp]
  · next hp =>
    rw [not_not] at hp
    split
    · next hs => cases ha : a.shed <;> cases hb : b.shed <;> simp_all
    · next hs =>
      rw [not_not] at hs
      split
      · next hm => simp [hp, hs, hm]
      · next hm => simp [hp, hs, not_not.1 hm]

theorem insertEntry_placed (e : QueueEntry) (l : List QueueEntry) : placed e l (insertEntry e l) := by
  induction l with
  | nil => exact ⟨[], [], rfl, rfl, by simp, by simp⟩
  | cons x l ih =>
    unfold insertEntry
    split
    · next h =>
      exact ⟨[], x :: l, rfl, rfl, by simp, fun y k hk => by cases hk; exact QueueEntry.before_iff.1 h⟩
    · next h =>
      obtain ⟨a, b, hwas, hnow, hbefore, hafter⟩ := ih
      refine ⟨x :: a, b, by rw [hwas]; rfl, by rw [hnow]; rfl, fun y hy => ?_, hafter⟩
      rcases List.mem_cons.1 hy with rfl | hy
      · exact mt QueueEntry.before_iff.2 h
      · exact hbefore y hy

/-! ## A feeder's part of the queue (03 R58) -/

section
variable {f : Nat} {e : QueueEntry} {o : Outlet} {fd : Feeder} {n : Nat} {s t : State}

/-- An entry is of the queue of the feeder its outlet's record names. -/
def State.queuedOn (s : State) (f : Nat) (e : QueueEntry) : Bool :=
  ((s.outlet.outlets.get e.outlet).map fun o => decide (o.feeder = f)).getD false

theorem State.queuedOn_iff : s.queuedOn f e = true ↔ ∃ o, s.outlet.outlets.get e.outlet = some o ∧ o.feeder = f := by
  unfold State.queuedOn
  cases s.outlet.outlets.get e.outlet <;> simp

theorem State.feederQueue_eq (s : State) (f : Nat) : s.feederQueue f = s.outlet.queue.filter (s.queuedOn f) := rfl

theorem State.feederQueue_isEmpty : (s.feederQueue f).isEmpty = true ↔
    ∀ e ∈ s.outlet.queue, ∀ p, s.outlet.outlets.get e.outlet = some p → p.feeder ≠ f := by
  simp [State.feederQueue_eq, State.queuedOn_iff]

theorem State.feederQueue_head : (s.feederQueue f).head? = some e ↔ ∃ o, queueHead s f e o := by
  rw [State.feederQueue_eq, List.head?_filter, List.find?_eq_some_iff_append, State.queuedOn_iff]
  simp only [queueHead, Bool.not_eq_true', ← Bool.not_eq_true, State.queuedOn_iff, not_exists, not_and]
  constructor
  · rintro ⟨⟨o, ho, hf⟩, a, b, hq, ha⟩
    exact ⟨o, a, b, hq, ho, hf, ha⟩
  · rintro ⟨o, a, b, hq, ho, hf, ha⟩
    exact ⟨⟨o, ho, hf⟩, a, b, hq, ha⟩

theorem State.fits_iff : s.fits fd o = true ↔ hasRoom s o fd := by
  simp only [State.fits, Bool.and_eq_true, decide_eq_true_eq, Bool.not_eq_true', and_assoc]
  rfl

/-! ## An attempt (03 R59) -/

theorem State.tryHead_of_fits (h : headFits s f e o fd n) :
    s.tryHead f = some (s.grantOutlet e.outlet o (figureOf o.rating fd.diversity) n) := by
  obtain ⟨hh, hf, hb, hr⟩ := h
  have ho : s.outlet.outlets.get e.outlet = some o := by
    obtain ⟨a, b, -, ho, -⟩ := hh
    exact ho
  simp [State.tryHead, hf, State.feederQueue_head.2 ⟨o, hh⟩, ho, hb, State.fits_iff.2 hr]

/-- Only a head that fits is admitted. -/
theorem State.headFits_of_tryHead (h : s.tryHead f = some t) : ∃ e o fd n, headFits s f e o fd n ∧
    t = s.grantOutlet e.outlet o (figureOf o.rating fd.diversity) n := by
  unfold State.tryHead at h
  split at h
  · next fd e hf he =>
    obtain ⟨o, hh⟩ := State.feederQueue_head.1 he
    obtain ⟨-, -, -, ho, -⟩ := id hh
    simp only [ho] at h
    split at h
    · next n hn =>
      split at h
      · next hr => exact ⟨e, o, fd, n, ⟨hh, hf, hn, State.fits_iff.1 hr⟩, (Option.some.inj h).symm⟩
      · cases h
    · cases h
  · cases h

end

/-! ## The run of attempts (03 R59; when they are made by log 18) -/

section
variable {i f : Nat} {o : Outlet} {s t : State}

theorem State.mem_attempt {g : Nat} : g ∈ (s.attempt f).outlet.attempts ↔ g ∈ s.outlet.attempts ∨ g = f := by
  unfold State.attempt
  split
  · next h =>
    have hf : f ∈ s.outlet.attempts := by simpa using h
    exact ⟨.inl, fun k => k.elim id fun e => e ▸ hf⟩
  · simp

theorem State.attempt_length (f : Nat) (s : State) :
    (s.attempt f).outlet.attempts.length ≤ s.outlet.attempts.length + 1 := by
  unfold State.attempt
  split <;> simp

theorem State.dequeue_queue_eq (i : Nat) (s : State) :
    (s.dequeue i).outlet.queue = s.outlet.queue.filter fun e => decide (e.outlet ≠ i) := by
  unfold State.dequeue
  split
  · rfl
  · next h =>
    refine (List.filter_eq_self.2 fun e he => ?_).symm
    simpa using fun hi => h (List.any_eq_true.2 ⟨e, he, by simp [hi]⟩)

theorem State.dequeue_attempts (i : Nat) (s : State) : (s.dequeue i).outlet.attempts = s.outlet.attempts := by
  unfold State.dequeue
  split <;> rfl

theorem State.givenUp_queue (o : Outlet) (s : State) : (s.givenUp o).outlet.queue = s.outlet.queue := by
  unfold State.givenUp
  split
  · split
    · rfl
    · exact State.attempt_queue _ _
  · rfl

theorem State.givenUp_attempts_length (o : Outlet) (s : State) :
    (s.givenUp o).outlet.attempts.length ≤ s.outlet.attempts.length + 1 := by
  unfold State.givenUp
  split
  · split
    · omega
    · exact State.attempt_length _ _
  · omega

theorem State.grantOutlet_queue_eq (i : Nat) (o : Outlet) (figure acct : Nat) (s : State) :
    (s.grantOutlet i o figure acct).outlet.queue = s.outlet.queue.filter fun e => decide (e.outlet ≠ i) :=
  (State.dequeue_queue_eq i (s.givenUp o)).trans (by rw [State.givenUp_queue])

theorem State.grantOutlet_attempts (i : Nat) (o : Outlet) (figure acct : Nat) (s : State) :
    (s.grantOutlet i o figure acct).outlet.attempts = (s.givenUp o).outlet.attempts :=
  State.dequeue_attempts i (s.givenUp o)

/-- A bound of the attempts that can still be made: each admission takes an entry off and adds at most one attempt. -/
def State.attemptsLeft (s : State) : Nat := s.outlet.attempts.length + 2 * s.outlet.queue.length

theorem State.tryHead_attemptsLeft (h : s.tryHead f = some t) : t.attemptsLeft < s.attemptsLeft := by
  obtain ⟨e, he, o, figure, acct, -, rfl⟩ := State.tryHead_eq_some h
  have hq : (s.outlet.queue.filter fun x => decide (x.outlet ≠ e.outlet)).length < s.outlet.queue.length :=
    List.length_filter_lt_length_iff_exists.2 ⟨e, he, by simp⟩
  have ha := State.givenUp_attempts_length o s
  simp only [State.attemptsLeft, State.grantOutlet_queue_eq, State.grantOutlet_attempts]
  omega

theorem State.runAttempts_nil (n : Nat) (h : s.outlet.attempts = []) : s.runAttempts n = s := by
  cases n with
  | zero => rw [State.runAttempts, ← h]
  | succ n => simp only [State.runAttempts, h]

/-- One more attempt than the bound changes nothing. -/
theorem State.runAttempts_succ {n : Nat} (h : s.attemptsLeft ≤ n) : s.runAttempts (n + 1) = s.runAttempts n := by
  induction n generalizing s with
  | zero =>
    have ha : s.outlet.attempts = [] := by
      unfold State.attemptsLeft at h
      exact List.length_eq_zero_iff.1 (by omega)
    rw [State.runAttempts_nil _ ha, State.runAttempts_nil _ ha]
  | succ n ih =>
    rw [State.runAttempts, State.runAttempts]
    split
    · rfl
    · next f rest ha =>
      split
      · next t ht => exact ih (by have := State.tryHead_attemptsLeft ht; omega)
      · refine ih ?_
        simp only [State.attemptsLeft, ha, List.length_cons] at h ⊢
        omega

theorem State.runAttempts_eq_flush {n : Nat} (h : s.attemptsLeft ≤ n) : s.runAttempts n = s.flushAttempts := by
  induction n, h using Nat.le_induction with
  | base => exact (State.runAttempts_succ le_rfl).symm
  | succ n hn ih => rw [State.runAttempts_succ hn, ih]

theorem State.flushAttempts_nil (h : s.outlet.attempts = []) : s.flushAttempts = s := State.runAttempts_nil _ h

section
variable {rest : List Nat} (h : s.outlet.attempts = f :: rest)
include h

/-- The head of the first feeder's queue is admitted, and the attempts go on. -/
theorem State.flushAttempts_admitted (ht : s.tryHead f = some t) : s.flushAttempts = t.flushAttempts := by
  have hleft : t.attemptsLeft ≤ s.outlet.attempts.length + 2 * s.outlet.queue.length :=
    Nat.le_of_lt (State.tryHead_attemptsLeft ht)
  rw [← State.runAttempts_eq_flush hleft, State.flushAttempts, State.runAttempts]
  simp only [h, ht]

/-- No outlet of the first feeder is admitted, and the attempts go on with the next. -/
theorem State.flushAttempts_passed (ht : s.tryHead f = none) :
    s.flushAttempts = State.flushAttempts { s with outlet := { s.outlet with attempts := rest } } := by
  have hleft : State.attemptsLeft { s with outlet := { s.outlet with attempts := rest } } ≤
      s.outlet.attempts.length + 2 * s.outlet.queue.length := by
    simp only [State.attemptsLeft, h, List.length_cons]
    omega
  rw [← State.runAttempts_eq_flush hleft, State.flushAttempts, State.runAttempts]
  simp only [h, ht]

end

theorem State.runAttempts_attempts (n : Nat) (s : State) : (s.runAttempts n).outlet.attempts = [] := by
  induction n generalizing s with
  | zero => rfl
  | succ n ih =>
    rw [State.runAttempts]
    split
    · assumption
    · split <;> exact ih _

theorem State.flushAttempts_attempts (s : State) : s.flushAttempts.outlet.attempts = [] :=
  State.runAttempts_attempts _ s

end

end Sys2Proof.Machine
end

section
/-! SUPPORT. Outlets admitted, queued and taken out of service (03 R51, R55 to R59, R66), with what each operation makes
of the outlet, the queue, the postings and the attempts that await. -/

namespace Sys2Proof.Machine

open Sys2Proof Sys2Proof.Claim

/-! ## Operations on the queue alone -/

/-- An operation on the admission queue and the attempts that await: all else stays but the report marks. -/
def State.OnlyQueue (s t : State) : Prop :=
  t = { s with
    outlet := { s.outlet with queue := t.outlet.queue, attempts := t.outlet.attempts }
    trunk := { s.trunk with sources := t.trunk.sources } }

section
variable {s t u before : State}

theorem State.OnlyQueue.refl (s : State) : s.OnlyQueue s := rfl

theorem State.OnlyQueue.trans (h : s.OnlyQueue t) (k : t.OnlyQueue u) : s.OnlyQueue u := by
  unfold State.OnlyQueue at *
  rw [k, h]

theorem State.mark_onlyQueue (c : ReportClass) (n : Nat) (h : before.OnlyQueue s) : before.OnlyQueue (s.mark c n) :=
  h.trans rfl

theorem State.attempt_onlyQueue (f : Nat) (h : before.OnlyQueue s) : before.OnlyQueue (s.attempt f) := by
  unfold State.attempt
  split
  · exact h
  · exact h.trans rfl

theorem State.dequeue_onlyQueue (i : Nat) (h : before.OnlyQueue s) : before.OnlyQueue (s.dequeue i) := by
  unfold State.dequeue
  split
  · exact h.trans rfl
  · exact h

theorem State.enqueue_onlyQueue (i : Nat) (o : Outlet) (shed : Bool) (h : before.OnlyQueue s) :
    before.OnlyQueue (s.enqueue i o shed) :=
  State.attempt_onlyQueue _ (h.trans rfl)

theorem State.givenUp_onlyQueue (o : Outlet) (h : before.OnlyQueue s) : before.OnlyQueue (s.givenUp o) := by
  unfold State.givenUp
  split
  · split
    · exact h
    · exact State.attempt_onlyQueue _ (State.mark_onlyQueue _ _ h)
  · exact h

section
variable (h : s.OnlyQueue t)
include h

theorem State.OnlyQueue.outlets : t.outlet.outlets = s.outlet.outlets := by rw [h]
theorem State.OnlyQueue.feeders : t.outlet.feeders = s.outlet.feeders := by rw [h]
theorem State.OnlyQueue.charge : t.charge = s.charge := by rw [h]
theorem State.OnlyQueue.bus : t.bus = s.bus := by rw [h]
theorem State.OnlyQueue.sessionAt (o : Outlet) (n : Nat) : t.sessionAt o n = s.sessionAt o n := by rw [h]; rfl

end

end

theorem State.OnlyOutlet.onlyOutlet {i : Nat} {o : Outlet} {s t : State} (h : s.OnlyOutlet i t)
    (ho : t.outlet.outlets.get i = some o) : onlyOutlet i o s t := ⟨ho, h.others⟩

/-! ## An entry that joins the queue (03 R58) -/

section
variable (i : Nat) (o : Outlet) (shed : Bool) (s : State)

theorem State.enqueue_queue :
    (s.enqueue i o shed).outlet.queue = insertEntry ⟨i, shed, s.priorityOf o.ref, s.now⟩ s.outlet.queue :=
  State.attempt_queue _ _

theorem State.mem_enqueue_attempts : o.feeder ∈ (s.enqueue i o shed).outlet.attempts :=
  State.mem_attempt.2 (.inr rfl)

end

/-! ## Admission (03 R55, R56) -/

section
variable {i n : Nat} {o : Outlet} {f : Feeder} {s : State}

/-- The session of an outlet at its admission, as R56 gives it. -/
theorem State.sessionAt_eq (o : Outlet) (n : Nat) (s : State) : s.sessionAt o n =
    (o.session.map fun x => { x with moment := s.now }).getD
      ⟨n, if s.mgmt.timeValid then some s.mgmt.clock else none, s.now, 0, 0, 0, 0⟩ := by
  unfold State.sessionAt
  cases o.session <;> rfl

theorem State.granted_eq (i : Nat) (o : Outlet) (figure n : Nat) (s : State) : s.granted i o figure n = { o with
    reservation := some ⟨figure, o.feeder⟩, state := .live, reason := .granted
    session := some (s.sessionAt o n) } := by
  rw [State.granted, (State.dequeue_onlyQueue i (State.givenUp_onlyQueue o (.refl s))).sessionAt]

theorem State.grantOutlet_onlyOutlet (ho : s.outlet.outlets.get i = some o) (figure n : Nat) :
    onlyOutlet i { o with
      reservation := some ⟨figure, o.feeder⟩, state := .live, reason := .granted
      session := some ((o.session.map fun x => { x with moment := s.now }).getD
        ⟨n, if s.mgmt.timeValid then some s.mgmt.clock else none, s.now, 0, 0, 0, 0⟩) } s
      (s.grantOutlet i o figure n) := by
  rw [← State.sessionAt_eq, ← State.granted_eq i o figure n s]
  exact (State.grantOutlet_only (.refl i s) ho figure n).onlyOutlet (State.grantOutlet_get i o figure n s)

theorem State.grantOutlet_feeders (i : Nat) (o : Outlet) (figure n : Nat) (s : State) :
    (s.grantOutlet i o figure n).outlet.feeders = s.outlet.feeders :=
  (State.dequeue_onlyQueue i (State.givenUp_onlyQueue o (.refl s))).feeders

/-- A reservation given up on another feeder leaves an attempt there. -/
theorem State.mem_grantOutlet_attempts {r : Reservation} (figure n : Nat) (hr : o.reservation = some r)
    (hf : r.feeder ≠ o.feeder) : r.feeder ∈ (s.grantOutlet i o figure n).outlet.attempts := by
  rw [State.grantOutlet_attempts, State.givenUp]
  simp only [hr, if_neg hf]
  exact State.mem_attempt.2 (.inr rfl)

/-- An outlet that waits in the admission queue as new. -/
def State.waits (i : Nat) (o : Outlet) (s : State) : State :=
  let o := { o with state := .waiting false, reason := .queued }
  (((s.setOutlet i o).mark .outlet i).enqueue i o false).writeImage o.address

section
variable (ho : s.outlet.outlets.get i = some o)
include ho

theorem State.waits_onlyOutlet :
    onlyOutlet i { o with state := .waiting false, reason := .queued } s (s.waits i o) := by
  refine State.OnlyOutlet.onlyOutlet (State.writeImage_only (State.enqueue_only (State.mark_only
    (State.setOutlet_only (.refl i s) ho) .outlet i) _ false) _) ?_
  rw [State.waits, State.writeImage_outlet, State.enqueue_outlets]
  exact Table.get_set_self _ _ _

omit ho in
theorem State.waits_placed :
    placed ⟨i, false, s.priorityOf o.ref, s.now⟩ s.outlet.queue (s.waits i o).outlet.queue := by
  have h := State.enqueue_queue i { o with state := .waiting false, reason := .queued } false
    ((s.setOutlet i { o with state := .waiting false, reason := .queued }).mark .outlet i)
  rw [State.waits, State.writeImage_outlet, h]
  exact insertEntry_placed _ _

variable (hf : s.outlet.feeders.get o.feeder = some f) (hb : s.berthAccount o.ref = some n)
include hf hb

theorem State.admissionCheck_grants (hr : hasRoom s o f)
    (he : ∀ e ∈ s.outlet.queue, ∀ p, s.outlet.outlets.get e.outlet = some p → p.feeder ≠ o.feeder) :
    s.admissionCheck i = s.grantOutlet i o (figureOf o.rating f.diversity) n := by
  have hg : (s.fits f o && (s.feederQueue o.feeder).isEmpty) = true := by
    rw [State.fits_iff.2 hr, State.feederQueue_isEmpty.2 he, Bool.and_self]
  simp only [State.admissionCheck, ho, hf, hb, hg, if_true]

theorem State.admissionCheck_queues (h : ¬hasRoom s o f ∨
    ∃ e ∈ s.outlet.queue, ∃ p, s.outlet.outlets.get e.outlet = some p ∧ p.feeder = o.feeder) :
    s.admissionCheck i = s.waits i o := by
  have hg : (s.fits f o && (s.feederQueue o.feeder).isEmpty) = false := by
    rw [Bool.and_eq_false_iff]
    refine h.imp (fun hr => by simpa using mt State.fits_iff.1 hr) fun ⟨e, he, p, hp, hpf⟩ => ?_
    simpa using mt State.feederQueue_isEmpty.1 fun hno => hno e he p hp hpf
  simp only [State.admissionCheck, ho, hf, hb, hg]
  rfl

end

/-- An image written where a pedestal is listed is the one the units then give it. -/
theorem State.writeImage_desired {a : Nat} {d : Device} (hd : s.bus.devices.get a = some d) :
    ∃ e, (s.writeImage a).bus.devices.get a = some e ∧ e.desired = (s.writeImage a).imageOf a :=
  ⟨_, (Table.get_modify_self _ _ _).trans (congrArg (Option.map _) hd), rfl⟩

theorem State.grantOutlet_desired {d : Device} (figure n : Nat) (hd : s.bus.devices.get o.address = some d) :
    ∃ e, (s.grantOutlet i o figure n).bus.devices.get o.address = some e ∧
      e.desired = (s.grantOutlet i o figure n).imageOf o.address := by
  rw [State.grantOutlet_eq]
  refine State.writeImage_desired (d := d) ?_
  have hbus : ((s.givenUp o).dequeue i).bus = s.bus :=
    (State.dequeue_onlyQueue i (State.givenUp_onlyQueue o (.refl s))).bus
  simpa [hbus] using hd

theorem State.waits_desired {d : Device} (hd : s.bus.devices.get o.address = some d) :
    ∃ e, (s.waits i o).bus.devices.get o.address = some e ∧ e.desired = (s.waits i o).imageOf o.address := by
  refine State.writeImage_desired (d := d) ?_
  rw [(State.enqueue_onlyQueue _ _ _ (.refl _)).bus]
  exact hd

end

/-- The admission check, by whether the outlet fits and no outlet of its feeder waits. -/
theorem admissionGrantsOrQueues : Claim.AdmissionGrantsOrQueues := by
  intro i n o f s ho hf hb
  refine ⟨fun hr he => ?_, fun h => ?_, fun d hd => ?_⟩
  · rw [State.admissionCheck_grants ho hf hb hr he]
    exact ⟨State.grantOutlet_onlyOutlet ho _ _, State.grantOutlet_queue_eq _ _ _ _ _⟩
  · rw [State.admissionCheck_queues ho hf hb h]
    exact ⟨State.waits_onlyOutlet ho, State.waits_placed, State.mem_enqueue_attempts _ _ _ _⟩
  · by_cases h : hasRoom s o f ∧
        ∀ e ∈ s.outlet.queue, ∀ p, s.outlet.outlets.get e.outlet = some p → p.feeder ≠ o.feeder
    · rw [State.admissionCheck_grants ho hf hb h.1 h.2]
      exact State.grantOutlet_desired _ _ hd
    · rw [State.admissionCheck_queues ho hf hb (by
        rw [not_and_or] at h
        exact h.imp id fun h => by push Not at h; exact h)]
      exact State.waits_desired hd

/-- The attempts along the queues, and what an admission changes. -/
theorem admissionAttemptsAreMade : Claim.AdmissionAttemptsAreMade := by
  refine ⟨fun s => ⟨s.flushAttempts_attempts, State.flushAttempts_nil, fun f rest h =>
    ⟨fun e o fd n hh => State.flushAttempts_admitted h (State.tryHead_of_fits hh), fun hno => ?_⟩⟩,
    fun i figure n o s ho => ⟨State.grantOutlet_onlyOutlet ho figure n, State.grantOutlet_queue_eq _ _ _ _ _,
      State.grantOutlet_feeders _ _ _ _ _, fun r hr hf => State.mem_grantOutlet_attempts figure n hr hf⟩⟩
  refine State.flushAttempts_passed h (Option.eq_none_iff_forall_not_mem.2 fun t ht => ?_)
  obtain ⟨e, o, fd, n, hh, -⟩ := State.headFits_of_tryHead ht
  exact hno e o fd n hh

/-! ## Leaving service (03 R53, R57, R66) -/

section
variable {i : Nat} {o : Outlet} {reason : Reason} {s : State}

/-- The closing of a session: its residual and its pending end record (03 R66). -/
def State.closingOf (s : State) (x : Session) (reason : Reason) : Closing := ⟨x.residual, s.endRecordOf x reason⟩

/-- The posting slots and the waiting closings after the session of an outlet is ended (02 R37). -/
def State.closed (s : State) (i : Nat) (o : Outlet) (x : Session) (reason : Reason) :
    List Posting × List WaitingClosing :=
  closePosting i x.account x.unposted (s.closingOf x reason) s.charge.power o.waiting

section
variable (ho : s.outlet.outlets.get i = some o)
include ho

theorem State.endOutletSession_none (hx : o.session = none) : s.endOutletSession i reason = s := by
  simp only [State.endOutletSession, ho, hx]

theorem State.endOutletSession_some {x : Session} (hx : o.session = some x) : s.endOutletSession i reason =
    ({ s with charge := { s.charge with power := (s.closed i o x reason).1 } }.setOutlet i
      { o with session := none, waiting := (s.closed i o x reason).2 }).mark .outlet i := by
  simp only [State.endOutletSession, ho, hx]
  rfl

end

theorem State.releaseReservation_charge (i : Nat) (s : State) : (s.releaseReservation i).charge = s.charge := by
  unfold State.releaseReservation
  split
  · rfl
  · split
    · rfl
    · exact (State.attempt_onlyQueue _ (.refl _)).charge

theorem State.releaseReservation_of_some {r : Reservation} (ho : s.outlet.outlets.get i = some o)
    (hr : o.reservation = some r) : s.releaseReservation i =
      (((s.setOutlet i { o with reservation := none }).mark .outlet i).mark .feeder r.feeder).attempt r.feeder := by
  simp only [State.releaseReservation, ho, hr]

theorem State.releaseReservation_of_none (ho : s.outlet.outlets.get i = some o) (hr : o.reservation = none) :
    s.releaseReservation i = s := by
  simp only [State.releaseReservation, ho, hr]

/-- A reservation released at a readback OPEN, and trailing otherwise (03 R57). -/
def State.trail (i : Nat) (o : Outlet) (s : State) : State :=
  if o.readback = .opened then s.releaseReservation i else s

theorem State.trail_queue (i : Nat) (o : Outlet) (s : State) : (s.trail i o).outlet.queue = s.outlet.queue := by
  unfold State.trail
  split
  · exact State.releaseReservation_queue _ _
  · rfl

theorem State.trail_charge (i : Nat) (o : Outlet) (s : State) : (s.trail i o).charge = s.charge := by
  unfold State.trail
  split
  · exact State.releaseReservation_charge _ _
  · rfl

theorem State.trail_get (ho : s.outlet.outlets.get i = some o) : (s.trail i o).outlet.outlets.get i =
    some { o with reservation := if o.readback = .opened then none else o.reservation } := by
  unfold State.trail
  split
  · exact State.releaseReservation_get ho
  · exact ho

theorem State.mem_trail_attempts {r : Reservation} (ho : s.outlet.outlets.get i = some o)
    (hb : o.readback = .opened) (hr : o.reservation = some r) : r.feeder ∈ (s.trail i o).outlet.attempts := by
  rw [State.trail, if_pos hb, State.releaseReservation_of_some ho hr]
  exact State.mem_attempt.2 (.inr rfl)

/-- An outlet out of use, its reservation as it was. -/
def Outlet.leaving (target : OutletState) (reason : Reason) (w : List WaitingClosing) (o : Outlet) : Outlet :=
  { o with
    state := target, reason := reason, session := none, waiting := w, fault := { o.fault with overCount := 0 } }

/-- An outlet leaves service in the state its session ended in. -/
theorem State.vacate_eq {w : List WaitingClosing} (target : OutletState)
    (he : (s.endOutletSession i reason).outlet.outlets.get i = some { o with session := none, waiting := w }) :
    s.vacate i target reason = State.writeImage o.address (State.trail i (o.leaving target reason w)
      ((((s.endOutletSession i reason).dequeue i).setOutlet i (o.leaving target reason w)).mark .outlet i)) := by
  rw [← State.dequeue_outlets i] at he
  simp only [State.vacate, he]
  rfl

section
variable {w : List WaitingClosing} (target : OutletState)
  (he : (s.endOutletSession i reason).outlet.outlets.get i = some { o with session := none, waiting := w })
include he

theorem State.vacate_onlyOutlet : onlyOutlet i { o with
    state := target, reason := reason, session := none, waiting := w
    reservation := if o.readback = .opened then none else o.reservation
    fault := { o.fault with overCount := 0 } } s (s.vacate i target reason) := by
  refine (State.vacate_only (.refl i s) target reason).onlyOutlet ?_
  rw [State.vacate_eq target he, State.writeImage_outlet]
  exact State.trail_get (o := o.leaving target reason w) (Table.get_set_self _ _ _)

theorem State.vacate_charge : (s.vacate i target reason).charge = (s.endOutletSession i reason).charge := by
  rw [State.vacate_eq target he]
  exact (State.trail_charge _ _ _).trans (State.dequeue_onlyQueue i (.refl _)).charge

theorem State.mem_vacate_attempts {r : Reservation} (hb : o.readback = .opened) (hr : o.reservation = some r) :
    r.feeder ∈ (s.vacate i target reason).outlet.attempts := by
  rw [State.vacate_eq target he, State.writeImage_outlet]
  exact State.mem_trail_attempts (o := o.leaving target reason w) (Table.get_set_self _ _ _) hb hr

omit he in
theorem State.endOutletSession_queue (i : Nat) (reason : Reason) (s : State) :
    (s.endOutletSession i reason).outlet.queue = s.outlet.queue := by
  unfold State.endOutletSession
  split
  · rfl
  · split <;> rfl

theorem State.vacate_queue : (s.vacate i target reason).outlet.queue =
    s.outlet.queue.filter fun e => decide (e.outlet ≠ i) := by
  rw [State.vacate_eq target he, State.writeImage_outlet, State.trail_queue, ← State.endOutletSession_queue i reason s,
    ← State.dequeue_queue_eq]
  rfl

end

/-! ## The closing entry of a session (02 R37) -/

section
variable {src acct q : Nat} {c : Closing} {l : List Posting} {w : List WaitingClosing} {e : Posting}

theorem closePosting_new (h : findPosting src l = none) :
    closePosting src acct q c l w = (l ++ [⟨src, acct, q, some c⟩], w) := by
  simp only [closePosting, h]

theorem closePosting_own (h : findPosting src l = some e) (he : e.closing = none) : closePosting src acct q c l w =
    (l.map fun p => if p.source = src then { e with closing := some c } else p, w) := by
  simp only [closePosting, h, he]
  rfl

theorem closePosting_waits {y : Closing} (h : findPosting src l = some e) (he : e.closing = some y) :
    closePosting src acct q c l w = (l, w ++ [⟨acct, q, c⟩]) := by
  simp only [closePosting, h, he]

end

end

/-- What vacating ends, by whether a session is open. -/
theorem vacatingEndsService : Claim.VacatingEndsService := by
  intro i target reason o s ho
  cases hx : o.session with
  | none =>
    have he : (s.endOutletSession i reason).outlet.outlets.get i =
        some { o with session := none, waiting := o.waiting } := by
      rw [State.endOutletSession_none ho hx, ho, ← hx]
    refine ⟨o.waiting, State.vacate_onlyOutlet target he, State.vacate_queue target he, fun _ => ⟨rfl, ?_⟩,
      fun x h => (Option.some_ne_none x h.symm).elim, fun r => State.mem_vacate_attempts target he⟩
    rw [State.vacate_charge target he, State.endOutletSession_none ho hx]
  | some x =>
    have hs := State.endOutletSession_some (reason := reason) ho hx
    have he : (s.endOutletSession i reason).outlet.outlets.get i =
        some { o with session := none, waiting := (s.closed i o x reason).2 } := by
      rw [hs]
      exact Table.get_set_self _ _ _
    have hp : (s.vacate i target reason).charge.power = (s.closed i o x reason).1 := by
      rw [State.vacate_charge target he, hs]
      rfl
    refine ⟨_, State.vacate_onlyOutlet target he, State.vacate_queue target he,
      fun h => (Option.some_ne_none x h).elim, fun y hy => ?_, fun r => State.mem_vacate_attempts target he⟩
    cases hy
    rw [hp]
    refine ⟨fun hn => ?_, fun e hn hc => ?_, fun e y hn hc => ?_⟩
    · rw [State.closed, closePosting_new hn]; exact ⟨rfl, rfl⟩
    · rw [State.closed, closePosting_own hn hc]; exact ⟨rfl, rfl⟩
    · rw [State.closed, closePosting_waits hn hc]; exact ⟨rfl, rfl⟩

/-- Settles O31, from its three parts. -/
theorem admissionGrantsAndVacatingEnds : Obligations.AdmissionGrantsAndVacatingEnds :=
  ⟨admissionGrantsOrQueues, admissionAttemptsAreMade, vacatingEndsService⟩

end Sys2Proof.Machine
end

section
/-! SUPPORT. The reserved sum of a feeder, and what a round mean makes of it: congestion, shedding and restoring (03
R55, R57, R61, R62). -/

namespace Sys2Proof.Machine

open Sys2Proof Sys2Proof.Claim

/-! ## The reserved sum (03 R55, law L1) -/

/-- Storing an entry of a table exchanges its share of a sum for the new one. -/
theorem Table.sum_set {α : Type} {t : Table α} (hs : sorted t = true) {n : Nat} {a : α} (h : t.get n = some a) (b : α)
    (g : α → Nat) : (((t.set n b).map fun p => g p.2).sum + g a = (t.map fun p => g p.2).sum + g b) := by
  induction t with
  | nil => simp at h
  | cons p t ih =>
    obtain ⟨k, c⟩ := p
    by_cases hk : k = n
    · subst hk
      obtain rfl : c = a := by simpa [get] using h
      simp only [set, lt_irrefl, if_true, if_false, List.map_cons, List.sum_cons]
      omega
    · rw [get, if_neg hk] at h
      have hlt : k < n := lt_of_sorted hs _ (mem_of_get h)
      have ih := ih (sorted_tail hs) h
      simp only [set, hk, hlt.not_gt, if_false, List.map_cons, List.sum_cons]
      omega

section
variable {i n figure : Nat} {o : Outlet} {f : Feeder} {s : State}

theorem State.grantOutlet_outlets (i : Nat) (o : Outlet) (figure n : Nat) (s : State) :
    (s.grantOutlet i o figure n).outlet.outlets = s.outlet.outlets.set i (s.granted i o figure n) := by
  have h : ((s.givenUp o).dequeue i).outlet.outlets = s.outlet.outlets :=
    (State.dequeue_onlyQueue i (State.givenUp_onlyQueue o (.refl s))).outlets
  rw [← h, State.grantOutlet_eq]
  rfl

/-- A grant exchanges what its outlet held on a feeder for its figure on its own. -/
theorem State.grantOutlet_reservedSum (hs : s.Ordered) (ho : s.outlet.outlets.get i = some o) (g : Nat) :
    (s.grantOutlet i o figure n).reservedSum g + reservedOn g o.reservation =
      s.reservedSum g + if o.feeder = g then figure else 0 := by
  unfold State.reservedSum
  rw [State.grantOutlet_outlets]
  exact Table.sum_set hs.outlets ho (s.granted i o figure n) fun p => reservedOn g p.reservation

end

/-- A grant to an outlet that fits. -/
theorem admissionKeepsReservedSumWithinCapacity : Claim.AdmissionKeepsReservedSumWithinCapacity := by
  intro i n o f s hs ho hfit hf
  have hsum := State.grantOutlet_reservedSum (n := n) (figure := (o.rating * f.diversity + 99) / 100) hs ho
  refine ⟨State.grantOutlet_feeders _ _ _ _ _, ?_, fun g hg => ?_⟩
  · obtain ⟨-, hroom, -⟩ := State.fits_iff.1 hfit
    have := hsum o.feeder
    rw [if_pos rfl] at this
    omega
  · have := hsum g
    rw [if_neg hg.symm] at this
    omega

/-! ## Which outlet is shed (03 R62) -/

/-- A candidate, by index, priority and admission moment, goes no later than another: lower priority, then later
admission, then higher index. -/
def shedsNoLater (a c : Nat × Nat × Nat) : Prop :=
  a.2.1 < c.2.1 ∨ a.2.1 = c.2.1 ∧ (c.2.2 < a.2.2 ∨ c.2.2 = a.2.2 ∧ c.1 ≤ a.1)

theorem shedsNoLater_of_shedsBefore {a c : Nat × Nat × Nat} (h : shedsBefore a c = true) : shedsNoLater a c := by
  unfold shedsBefore at h
  unfold shedsNoLater
  split at h
  · exact .inl (of_decide_eq_true h)
  · next hp =>
    split at h
    · exact .inr ⟨not_not.1 hp, .inl (of_decide_eq_true h)⟩
    · next hm => exact .inr ⟨not_not.1 hp, .inr ⟨(not_not.1 hm).symm, (of_decide_eq_true h).le⟩⟩

theorem shedsNoLater_of_not_shedsBefore {a c : Nat × Nat × Nat} (h : ¬shedsBefore a c = true) : shedsNoLater c a := by
  unfold shedsBefore at h
  unfold shedsNoLater
  split at h
  · next hp => exact .inl (lt_of_le_of_ne (by simpa using h) (Ne.symm hp))
  · next hp =>
    refine .inr ⟨(not_not.1 hp).symm, ?_⟩
    split at h
    · next hm => exact .inl (lt_of_le_of_ne (by simpa using h) hm)
    · next hm => exact .inr ⟨not_not.1 hm, by simpa using h⟩

theorem shedsNoLater.refl (a : Nat × Nat × Nat) : shedsNoLater a a := .inr ⟨rfl, .inr ⟨rfl, le_rfl⟩⟩

theorem shedsNoLater.trans {a b c : Nat × Nat × Nat} (h : shedsNoLater a b) (k : shedsNoLater b c) :
    shedsNoLater a c := by
  unfold shedsNoLater at *
  omega

theorem pickShed_eq_none_iff {l : List (Nat × Nat × Nat)} : pickShed l = none ↔ l = [] := by
  cases l with
  | nil => simp [pickShed]
  | cons c l =>
    unfold pickShed
    split
    · simp
    · split <;> simp

theorem pickShed_spec {l : List (Nat × Nat × Nat)} {a : Nat × Nat × Nat} (h : pickShed l = some a) :
    a ∈ l ∧ ∀ c ∈ l, shedsNoLater a c := by
  induction l generalizing a with
  | nil => cases h
  | cons c l ih =>
    unfold pickShed at h
    split at h
    · next hn =>
      cases h
      simp [pickShed_eq_none_iff.1 hn, shedsNoLater.refl]
    · next d hd =>
      obtain ⟨hmem, hle⟩ := ih hd
      split at h
      · next hc =>
        cases h
        have hcd := shedsNoLater_of_shedsBefore hc
        exact ⟨List.mem_cons_self, List.forall_mem_cons.2 ⟨.refl _, fun x hx => hcd.trans (hle x hx)⟩⟩
      · next hc =>
        cases h
        exact ⟨List.mem_cons_of_mem _ hmem,
          List.forall_mem_cons.2 ⟨shedsNoLater_of_not_shedsBefore hc, hle⟩⟩

theorem State.mem_shedCandidates {s : State} {f i p m : Nat} : (i, p, m) ∈ s.shedCandidates f ↔
    ∃ o, (i, o) ∈ s.outlet.outlets ∧ o.state = .live ∧ o.reservation.map (·.feeder) = some f ∧
      p = s.priorityOf o.ref ∧ m = (o.session.map (·.moment)).getD 0 := by
  simp only [State.shedCandidates, List.mem_filterMap, Prod.exists, Option.ite_none_right_eq_some, Option.some.injEq,
    Prod.mk.injEq]
  constructor
  · rintro ⟨j, o, hm, ⟨hx, hr⟩, rfl, hp, hq⟩
    exact ⟨o, hm, hx, hr, hp.symm, hq.symm⟩
  · rintro ⟨o, hm, hx, hr, hp, hq⟩
    exact ⟨i, o, hm, ⟨hx, hr⟩, rfl, hp.symm, hq.symm⟩

/-! ## A shed outlet (03 R57, R58, R62) -/

section
variable {i : Nat} {o : Outlet} {s : State}

/-- An outlet shed, its reservation as it was. -/
def Outlet.shed (o : Outlet) : Outlet :=
  { o with state := .waiting true, reason := .shed, fault := { o.fault with overCount := 0 } }

theorem State.trail_leaves {before s : State} (i : Nat) (o : Outlet) (h : before.Leaves s) :
    before.Leaves (s.trail i o) := by
  unfold State.trail
  split
  · exact State.releaseReservation_leaves _ h
  · exact h

theorem State.trail_only {before s : State} (o : Outlet) (h : before.OnlyOutlet i s) :
    before.OnlyOutlet i (s.trail i o) := by
  unfold State.trail
  split
  · exact State.releaseReservation_only h
  · exact h

theorem State.Leaves.priorityOf {s t : State} (h : s.Leaves t) (r : SideRef) : t.priorityOf r = s.priorityOf r := by
  have ha : t.account = s.account := funext h.account
  simp only [State.priorityOf, State.berthAccount, State.berthOfSide, h.berth, ha]

theorem State.trail_feeders (i : Nat) (o : Outlet) (s : State) :
    (s.trail i o).outlet.feeders = s.outlet.feeders := by
  unfold State.trail State.releaseReservation
  split
  · split
    · rfl
    · split
      · rfl
      · exact (State.attempt_onlyQueue _ (.refl _)).feeders
  · rfl

/-- The outlet a shedding stores, with its reservation released or trailing. -/
def State.shedStored (i : Nat) (o : Outlet) (s : State) : State :=
  ((s.setOutlet i o.shed).mark .outlet i).trail i o.shed

theorem State.shedStored_leaves (i : Nat) (o : Outlet) (s : State) : s.Leaves (s.shedStored i o) :=
  State.trail_leaves _ _ (State.mark_leaves _ _ (State.setOutlet_leaves _ _ (.refl s)))

theorem State.shedStored_queue (i : Nat) (o : Outlet) (s : State) :
    (s.shedStored i o).outlet.queue = s.outlet.queue := State.trail_queue _ _ _

variable (ho : s.outlet.outlets.get i = some o)
include ho

theorem State.shedOutlet_eq :
    s.shedOutlet i = ((s.shedStored i o).enqueue i o.shed true).writeImage o.address := by
  simp only [State.shedOutlet, ho]
  rfl

theorem State.shedOutlet_onlyOutlet : onlyOutlet i { o with
    state := .waiting true, reason := .shed, fault := { o.fault with overCount := 0 }
    reservation := if o.readback = .opened then none else o.reservation } s (s.shedOutlet i) := by
  rw [State.shedOutlet_eq ho]
  refine State.OnlyOutlet.onlyOutlet (State.writeImage_only (State.enqueue_only (State.trail_only _ (State.mark_only
    (State.setOutlet_only (.refl i s) ho) .outlet i)) _ true) _) ?_
  rw [State.writeImage_outlet, State.enqueue_outlets]
  exact State.trail_get (o := o.shed) (Table.get_set_self _ _ _)

theorem State.shedOutlet_placed :
    placed ⟨i, true, s.priorityOf o.ref, s.now⟩ s.outlet.queue (s.shedOutlet i).outlet.queue := by
  have hl := State.shedStored_leaves i o s
  rw [State.shedOutlet_eq ho, State.writeImage_outlet, State.enqueue_queue, hl.priorityOf, hl.now,
    State.shedStored_queue]
  exact insertEntry_placed _ _

theorem State.shedOutlet_charge : (s.shedOutlet i).charge = s.charge := by
  rw [State.shedOutlet_eq ho]
  exact (State.enqueue_onlyQueue _ _ _ (.refl _)).charge.trans (State.trail_charge _ _ _)

theorem State.shedOutlet_feeders : (s.shedOutlet i).outlet.feeders = s.outlet.feeders := by
  rw [State.shedOutlet_eq ho, State.writeImage_outlet]
  exact (State.enqueue_onlyQueue _ _ _ (.refl _)).feeders.trans (State.trail_feeders _ _ _)

theorem State.mem_shedOutlet_attempts : o.feeder ∈ (s.shedOutlet i).outlet.attempts := by
  rw [State.shedOutlet_eq ho]
  exact State.mem_enqueue_attempts i o.shed true _

end

/-! ## One feeder's record changed (03 R62) -/

/-- The record of one feeder changes: all else stays but the report marks. -/
structure State.OnlyFeeder (f : Nat) (x : Feeder) (s v : State) : Prop where
  outlet : v.outlet = { s.outlet with feeders := v.outlet.feeders }
  get : v.outlet.feeders.get f = some x
  others : ∀ g, g ≠ f → v.outlet.feeders.get g = s.outlet.feeders.get g
  rest : v = { s with outlet := v.outlet, trunk := { s.trunk with sources := v.trunk.sources } }

section
variable {f : Nat} {x fd : Feeder} {s v : State}

theorem State.setFeeder_onlyFeeder (h : s.OnlyFeeder f x v) (y : Feeder) :
    s.OnlyFeeder f y ((v.setFeeder f y).mark .feeder f) := by
  obtain ⟨ho, -, hn, hr⟩ := h
  refine ⟨?_, Table.get_set_self _ _ _, fun g hg => (Table.get_set_ne _ _ hg).trans (hn g hg), ?_⟩
  · rw [State.mark_outlet, State.setFeeder_outlet, ho]
  · rw [hr]
    rfl

theorem State.setCongested_onlyFeeder (hf : s.outlet.feeders.get f = some fd) (b : Bool) :
    s.OnlyFeeder f { fd with congested := b } (s.setCongested f b) := by
  have h : s.OnlyFeeder f fd s := ⟨rfl, hf, fun _ _ => rfl, rfl⟩
  simp only [State.setCongested, hf]
  split
  · next hb => exact hb ▸ h
  · exact State.setFeeder_onlyFeeder h _

theorem State.OnlyFeeder.shedCandidates (h : s.OnlyFeeder f x v) (g : Nat) :
    v.shedCandidates g = s.shedCandidates g := by
  rw [h.rest, h.outlet]
  rfl

/-- The feeder of an outlet to be shed: congested, with the outlet as the last shed. -/
def State.shedNamed (f : Nat) (fd : Feeder) (i : Nat) (s : State) : State :=
  ((s.setCongested f true).setFeeder f { fd with congested := true, lastShed := some i }).mark .feeder f

theorem State.shedNamed_onlyFeeder (hf : s.outlet.feeders.get f = some fd) (i : Nat) :
    s.OnlyFeeder f { fd with congested := true, lastShed := some i } (s.shedNamed f fd i) :=
  State.setFeeder_onlyFeeder (State.setCongested_onlyFeeder hf true) _

/-! ## The mean compared (03 R61, R62) -/

theorem Feeder.mean_eq (h : fd.ring ≠ []) : fd.mean = some (fd.ring.sum / fd.ring.length) := by
  simp [Feeder.mean, h]

section
variable (hf : s.outlet.feeders.get f = some fd) (hr : fd.ring ≠ [])
include hf hr

theorem State.compareMean_between (hlo : fd.restore < fd.ring.sum / fd.ring.length)
    (hhi : fd.ring.sum / fd.ring.length ≤ fd.shed) : s.compareMean f = s := by
  simp only [State.compareMean, hf, Feeder.mean_eq hr, if_neg hhi.not_gt, if_neg hlo.not_ge]

theorem State.compareMean_congests (hhi : fd.shed < fd.ring.sum / fd.ring.length) (hc : s.shedCandidates f = []) :
    s.compareMean f = s.setCongested f true := by
  have hp : pickShed ((s.setCongested f true).shedCandidates f) = none := by
    rw [(State.setCongested_onlyFeeder hf true).shedCandidates, pickShed_eq_none_iff, hc]
  simp only [State.compareMean, hf, Feeder.mean_eq hr, if_pos hhi, hp]

theorem State.compareMean_sheds {i p m : Nat} (hhi : fd.shed < fd.ring.sum / fd.ring.length)
    (hp : pickShed (s.shedCandidates f) = some (i, p, m)) :
    s.compareMean f = (State.shedOutlet i (s.shedNamed f fd i)).flushAttempts := by
  have hk := State.setCongested_onlyFeeder hf true
  rw [← hk.shedCandidates] at hp
  simp only [State.compareMean, hf, Feeder.mean_eq hr, if_pos hhi, hp, hk.get]
  rfl

theorem State.compareMean_restores (hlo : fd.ring.sum / fd.ring.length ≤ fd.restore)
    (hhi : fd.ring.sum / fd.ring.length ≤ fd.shed) :
    s.compareMean f = ((s.setCongested f false).attempt f).flushAttempts := by
  simp only [State.compareMean, hf, Feeder.mean_eq hr, if_neg hhi.not_gt, if_pos hlo]

end

end

/-! ## What the attempts keep (03 R59) -/

/-- What every admission of a head that fits keeps, whatever feeders still await, the run of attempts keeps. -/
theorem State.flushAttempts_induction {P : State → Prop}
    (clear : ∀ (u : State) (l : List Nat), P u → P { u with outlet := { u.outlet with attempts := l } })
    (grant : ∀ (u : State) (f : Nat) (e : QueueEntry) (o : Outlet) (fd : Feeder) (n : Nat), headFits u f e o fd n →
      P u → P (u.grantOutlet e.outlet o (figureOf o.rating fd.diversity) n)) {s : State} (h : P s) :
    P s.flushAttempts := by
  have run (n : Nat) (u : State) (hu : P u) : P (u.runAttempts n) := by
    induction n generalizing u with
    | zero => exact clear u [] hu
    | succ n ih =>
      unfold State.runAttempts
      split
      · exact hu
      · next f rest _ =>
        split
        · next t ht =>
          obtain ⟨e, o, fd, k, hh, rfl⟩ := State.headFits_of_tryHead ht
          exact ih _ (grant u f e o fd k hh hu)
        · exact ih _ (clear u rest hu)
  exact run _ s h

theorem State.flushAttempts_feeders (s : State) : s.flushAttempts.outlet.feeders = s.outlet.feeders :=
  State.flushAttempts_induction (P := fun u => u.outlet.feeders = s.outlet.feeders) (fun _ _ h => h)
    (fun _ _ _ _ _ _ _ h => (State.grantOutlet_feeders _ _ _ _ _).trans h) rfl

/-- Attempts admit no outlet of a congested feeder. -/
theorem State.flushAttempts_congested {f i : Nat} {x : Feeder} {q : Outlet} {s : State}
    (hx : s.outlet.feeders.get f = some x) (hc : x.congested = true) (hq : s.outlet.outlets.get i = some q)
    (hqf : q.feeder = f) : s.flushAttempts.outlet.outlets.get i = some q := by
  refine (State.flushAttempts_induction
    (P := fun u => u.outlet.feeders.get f = some x ∧ u.outlet.outlets.get i = some q) (fun _ _ h => h) ?_ ⟨hx, hq⟩).2
  rintro u g e o fd n ⟨⟨a, b, -, ho, hog, -⟩, hfd, -, -, -, hfree⟩ ⟨hux, huq⟩
  have hi : i ≠ e.outlet := by
    rintro rfl
    obtain rfl : q = o := Option.some.inj (huq.symm.trans ho)
    obtain rfl : f = g := hqf.symm.trans hog
    obtain rfl : x = fd := Option.some.inj (hux.symm.trans hfd)
    rw [hc] at hfree
    cases hfree
  exact ⟨by rwa [State.grantOutlet_feeders], ((State.grantOutlet_only (.refl _ u) ho _ n).others i hi).trans huq⟩

/-! ## The statement -/

/-- The outlet a shedding takes, and the flag of the feeder. -/
theorem sheddingTakesLowestPriorityFirst : Claim.SheddingTakesLowestPriorityFirst := by
  intro f fd s hf
  refine ⟨fun i p m h => pickShed_spec h, pickShed_eq_none_iff, fun i p m => State.mem_shedCandidates,
    fun hr hlo hhi => State.compareMean_between hf hr hlo hhi, fun hr hhi hc => ?_, fun hr hlo hhi => ?_⟩
  · rw [State.compareMean_congests hf hr hhi hc]
    exact (State.setCongested_onlyFeeder hf true).get
  · rw [State.compareMean_restores hf hr hlo hhi, State.flushAttempts_feeders,
      (State.attempt_onlyQueue f (.refl _)).feeders]
    exact (State.setCongested_onlyFeeder hf false).get

/-- What shedding does to the outlet, and the attempt at or below the restore threshold. -/
theorem sheddingAndRestoring : Claim.SheddingAndRestoring := by
  refine ⟨fun i o s ho => ⟨State.shedOutlet_onlyOutlet ho, State.shedOutlet_placed ho, State.shedOutlet_charge ho,
    State.mem_shedOutlet_attempts ho⟩, fun f fd s hf hr => ⟨fun i p m hhi hp => ?_, fun hlo hhi => ?_⟩⟩
  · have hk := State.shedNamed_onlyFeeder hf i
    rw [State.compareMean_sheds hf hr hhi hp]
    refine ⟨⟨_, rfl, hk.outlet, hk.get, hk.others, hk.rest⟩, fun o ho hof _ => ?_⟩
    have ho' : (s.shedNamed f fd i).outlet.outlets.get i = some o := by rw [hk.outlet]; exact ho
    obtain ⟨hq, -⟩ := State.shedOutlet_onlyOutlet ho'
    have hfeeders : ((s.shedNamed f fd i).shedOutlet i).outlet.feeders.get f =
        some { fd with congested := true, lastShed := some i } := by
      rw [State.shedOutlet_feeders ho']
      exact hk.get
    exact ⟨_, State.flushAttempts_congested hfeeders rfl hq hof, rfl, rfl, rfl⟩
  · have hk := State.setCongested_onlyFeeder hf false
    exact ⟨_, State.compareMean_restores hf hr hlo hhi, hk.outlet, hk.get, hk.others, hk.rest⟩

/-- Settles O32, from its three parts. -/
theorem reservedSumHoldsAndSheddingOrder : Obligations.ReservedSumHoldsAndSheddingOrder :=
  ⟨admissionKeepsReservedSumWithinCapacity, sheddingTakesLowestPriorityFirst, sheddingAndRestoring⟩

end Sys2Proof.Machine
end

section
/-! SUPPORT. FEEDER LOAD, eligibility, the evaluation of an outlet and plug events (03 R50 to R54, 05 R94). -/

namespace Sys2Proof.Machine

open Sys2Proof Sys2Proof.Claim

/-! ## FEEDER LOAD (03 R50, R51) -/

theorem smallIndexOk_iff {i : Nat} : smallIndexOk i = true ↔ i ≤ 3 := decide_eq_true_iff

section
variable {fr : IntakeFrame} {f : FeederLoad} {s : State}

theorem feederRange_iff : feederRange f ↔ smallIndexOk f.index = true ∧ f.capacity ≤ 4000 ∧ 10 ≤ f.diversity ∧
    f.diversity ≤ 100 ∧ 1 ≤ f.shed ∧ f.shed ≤ 4000 ∧ f.restore ≤ 3999 ∧ f.restore < f.shed := by
  rw [smallIndexOk_iff, feederRange]

/-- A stored feeder is marked, and its queue attempted. -/
def State.feederStored (f : Nat) (s : State) : State := ((s.mark .feeder f).attempt f).flushAttempts

theorem State.feederStored_feeders (f : Nat) (s : State) :
    (s.feederStored f).outlet.feeders = s.outlet.feeders :=
  (State.flushAttempts_feeders _).trans (State.attempt_onlyQueue f (.refl _)).feeders

/-- A feeder not loaded before, as FEEDER LOAD makes it. -/
def Feeder.ofLoad (f : FeederLoad) : Feeder := ⟨f.capacity, f.diversity, f.shed, f.restore, [], none, false, none⟩

/-- A loaded feeder with the fields of a FEEDER LOAD: its ring, last sum, flag and last shed outlet stay. -/
def Feeder.reloaded (f : FeederLoad) (x : Feeder) : Feeder :=
  { x with capacity := f.capacity, diversity := f.diversity, shed := f.shed, restore := f.restore }

theorem State.feederStored_get {x : Feeder} (f : Nat) (h : s.outlet.feeders.get f = some x) :
    (s.feederStored f).outlet.feeders.get f = some x := by
  rw [State.feederStored_feeders, h]

/-- A FEEDER LOAD is answered with the reserved sum and the flag of the stored feeder. -/
theorem State.feederStored_accept {x : Feeder} (f : Nat) (h : s.outlet.feeders.get f = some x) :
    (s.feederStored f).accept fr [] (.feeder f ((s.feederStored f).reservedSum f)
      ((((s.feederStored f).outlet.feeders.get f).map (·.congested)).getD false)) =
    (s.feederStored f).answer fr (.accepted [] (.feeder f ((s.feederStored f).reservedSum f) x.congested)) := by
  rw [State.feederStored_get f h]
  rfl

theorem State.createFeeder_get (f : Nat) (x : Feeder) (s : State) :
    ((s.setFeeder f x).createSource .feeder f).outlet.feeders.get f = some x := by
  rw [State.createSource_eq]
  exact Table.get_set_self _ _ _

theorem feederLoadAct_outOfRange (h : ¬feederRange f) : feederLoadAct fr f s = s.refuse fr .outOfRange :=
  if_neg (mt feederRange_iff.2 h)

theorem feederLoadAct_new (h : feederRange f) (hx : s.outlet.feeders.get f.index = none) :
    let e := ((s.setFeeder f.index (.ofLoad f)).createSource .feeder f.index).feederStored f.index
    feederLoadAct fr f s = e.answer fr (.accepted [] (.feeder f.index (e.reservedSum f.index) false)) := by
  have hr := feederRange_iff.1 h
  simp only [feederLoadAct, if_pos hr, hx]
  exact State.feederStored_accept f.index (State.createFeeder_get f.index (.ofLoad f) s)

theorem feederLoadAct_loaded {x : Feeder} (h : feederRange f) (hx : s.outlet.feeders.get f.index = some x) :
    let e := (s.setFeeder f.index (x.reloaded f)).feederStored f.index
    feederLoadAct fr f s = e.answer fr (.accepted [] (.feeder f.index (e.reservedSum f.index) x.congested)) := by
  have hr := feederRange_iff.1 h
  simp only [feederLoadAct, if_pos hr, hx]
  exact State.feederStored_accept (x := x.reloaded f) f.index (Table.get_set_self _ _ _)

end

/-- FEEDER LOAD, by its range and whether the feeder is loaded. -/
theorem feederLoadStoresAFeeder : Claim.FeederLoadStoresAFeeder := by
  intro f fr s h
  have run {ans : Answer} {effect : State} (ha : feederLoadAct fr f (s.taken fr) = effect.answer fr ans) :
      exec (.feederLoad (.fields f)) s = done fr ans effect := exec_of_takes rfl rfl h ha
  refine ⟨fun hr => run (feederLoadAct_outOfRange hr), fun hr hx => ⟨run (feederLoadAct_new hr hx), ?_⟩,
    fun x hr hx => ⟨run (feederLoadAct_loaded hr hx), ?_⟩⟩
  · exact State.feederStored_get f.index (State.createFeeder_get f.index (.ofLoad f) _)
  · exact State.feederStored_get (x := x.reloaded f) f.index (Table.get_set_self _ _ _)

/-! ## Eligibility (03 R52, 05 R94) -/

section
variable {s : State}

theorem State.sideServed_iff {r : SideRef} : s.sideServed r = true ↔ servedSide s r := by
  unfold State.sideServed servedSide
  cases hb : s.berthOfSide r with
  | none => simp
  | some p =>
    obtain ⟨i, b⟩ := p
    cases hx : b.state <;> cases hn : b.account <;> simp [hx, hn]
    next n => cases ha : s.account n <;> simp [Standing.serves_iff]

theorem DeviceState.reachable_iff {x : DeviceState} : x.reachable = true ↔ x = .online ∨ x = .missing := by
  cases x <;> simp [DeviceState.reachable]

theorem State.pedestalServes_iff {a : Nat} : s.pedestalServes a = true ↔ pedestalOn s a := by
  unfold State.pedestalServes pedestalOn
  cases s.bus.devices.get a <;> simp [DeviceState.reachable_iff]

theorem mem_faultKinds (k : FaultKind) : k ∈ faultKinds := by cases k <;> decide

theorem KindMap.any_eq_false_iff {m : KindMap Bool} : m.any = false ↔ ∀ k, m.get k = false := by
  simp [KindMap.any, mem_faultKinds]

end

/-- There is room for a waiting closing (03 R52, 05 R94). -/
theorem closingRoom_iff {l : List WaitingClosing} : decide (l.length < Config.closingCapacity) = true ↔ l.length < 4 :=
  decide_eq_true_iff

/-- Eligibility, condition by condition. -/
theorem eligibilityOfOutletsAndTaps : Claim.EligibilityOfOutletsAndTaps := by
  refine ⟨fun s o => ?_, fun s t => ?_⟩
  · simp only [State.outletEligible, State.outletMayServe, Bool.and_eq_true, Bool.not_eq_true', State.sideServed_iff,
      State.pedestalServes_iff, KindMap.any_eq_false_iff, closingRoom_iff]
    tauto
  · simp only [State.tapEligible, Bool.and_eq_true, Bool.not_eq_true', State.sideServed_iff, State.pedestalServes_iff,
      KindMap.any_eq_false_iff, closingRoom_iff]
    tauto

/-! ## The evaluation of an outlet (03 R53) -/

section
variable {i : Nat} {o : Outlet} {reason : Reason} {s : State} (ho : s.outlet.outlets.get i = some o)
include ho

/-- An outlet that is not eligible and not in use stays. -/
theorem State.evalOutlet_idle (he : s.outletEligible o = false) (hx : ¬serving o.state) :
    s.evalOutlet i reason = s := by
  have hu : o.state.inUse = false := by simpa using mt OutletState.inUse_iff.1 hx
  simp [State.evalOutlet, ho, he, hu]

/-- An outlet that becomes READY. -/
def State.readied (i : Nat) (o : Outlet) (s : State) : State :=
  State.writeImage o.address ((s.setOutlet i { o with state := .ready, reason := .eligible }).mark .outlet i)

theorem State.evalOutlet_unplugged (he : s.outletEligible o = true) (hx : o.state = .off) (hp : o.plug ≠ .present) :
    s.evalOutlet i reason = s.readied i o := by
  simp only [State.evalOutlet, ho, he, if_true, if_pos hx, if_neg hp]
  rfl

theorem State.evalOutlet_plugged (he : s.outletEligible o = true) (hx : o.state = .off) (hp : o.plug = .present) :
    s.evalOutlet i reason = (s.readied i o).admissionCheck i := by
  simp only [State.evalOutlet, ho, he, if_true, if_pos hx, if_pos hp]
  rfl

end

/-- The evaluation of an outlet, by its eligibility, state and plug. -/
theorem evaluationMovesAnOutlet : Claim.EvaluationMovesAnOutlet := by
  intro i reason o s ho
  refine ⟨fun he hx => State.evalOutlet_inUse ho he hx, fun he hx hp => State.evalOutlet_unplugged ho he hx hp,
    fun he hx hp => State.evalOutlet_plugged ho he hx hp, fun he hx hl => State.evalOutlet_cuts ho he hx hl,
    fun he hx => State.evalOutlet_idle ho he ?_⟩
  rcases hx with hx | hx | hx <;> simp [hx, serving]

/-! ## Plug events (03 R54) -/

section
variable {i : Nat} {o : Outlet} {s : State} (ho : s.outlet.outlets.get i = some o)
include ho

theorem State.storePlug_same {p : Plug} (hp : o.plug = p) : s.storePlug i p = s := by
  simp only [State.storePlug, ho, if_pos hp]

theorem State.storePlug_changed {p : Plug} (hp : o.plug ≠ p) :
    s.storePlug i p = (s.setOutlet i { o with plug := p }).mark .outlet i := by
  simp only [State.storePlug, ho, if_neg hp]

theorem State.storePlug_get (p : Plug) : (s.storePlug i p).outlet.outlets.get i = some { o with plug := p } := by
  by_cases hp : o.plug = p
  · rw [State.storePlug_same ho hp, ho, ← hp]
  · rw [State.storePlug_changed ho hp]
    exact Table.get_set_self _ _ _

theorem State.plugEvent_ready (hx : o.state = .ready) :
    s.plugEvent i true = ((s.storePlug i .present).admissionCheck i).flushAttempts := by
  simp only [State.plugEvent, if_true, State.storePlug_get ho, hx]

theorem State.plugEvent_stored (hx : o.state ≠ .ready) : s.plugEvent i true = s.storePlug i .present := by
  cases h : o.state with
  | ready => exact absurd h hx
  | off | waiting | live | tripped | outOfService => simp only [State.plugEvent, if_true, State.storePlug_get ho, h]

theorem State.plugEvent_unplugged (hx : (∃ w, o.state = .waiting w) ∨ o.state = .live) : s.plugEvent i false =
    (((s.storePlug i .absent).vacate i .ready .unplugged).checkClosings i).flushAttempts := by
  rcases hx with ⟨w, hx⟩ | hx <;> simp [State.plugEvent, State.storePlug_get ho, hx]

theorem State.plugEvent_idle (hx : ¬((∃ w, o.state = .waiting w) ∨ o.state = .live)) :
    s.plugEvent i false = s.storePlug i .absent := by
  cases h : o.state with
  | waiting w => exact absurd (.inl ⟨w, h⟩) hx
  | live => exact absurd (.inr h) hx
  | off | ready | tripped | outOfService => simp [State.plugEvent, State.storePlug_get ho, h]

theorem State.checkClosings_full (hx : o.state = .ready) (hw : 4 ≤ o.waiting.length) :
    s.checkClosings i = s.vacate i .off (Config.closingsFullReason i s.now) := by
  have h : o.state = .ready ∧ Config.closingCapacity ≤ o.waiting.length := ⟨hx, hw⟩
  simp only [State.checkClosings, ho, if_pos h]

theorem State.checkClosings_room (h : o.state ≠ .ready ∨ o.waiting.length < 4) : s.checkClosings i = s := by
  have hno : ¬(o.state = .ready ∧ Config.closingCapacity ≤ o.waiting.length) := fun ⟨hx, hw⟩ =>
    h.elim (absurd hx) fun hlt => absurd hw hlt.not_ge
  simp only [State.checkClosings, ho, if_neg hno]

end

/-- Plug events, by the state of the outlet. -/
theorem plugEventsReachAnOutlet : Claim.PlugEventsReachAnOutlet := fun _ _ _ ho =>
  ⟨fun _ => ⟨State.storePlug_same ho, State.storePlug_changed ho⟩, State.plugEvent_ready ho, State.plugEvent_stored ho,
    State.plugEvent_unplugged ho, State.plugEvent_idle ho, State.checkClosings_full ho, State.checkClosings_room ho,
    State.releaseReservation_of_none ho, fun _ => State.releaseReservation_of_some ho⟩

/-- Settles O30, from its four parts. -/
theorem feederLoadAndOutletEvaluation : Obligations.FeederLoadAndOutletEvaluation :=
  ⟨feederLoadStoresAFeeder, eligibilityOfOutletsAndTaps, evaluationMovesAnOutlet, plugEventsReachAnOutlet⟩

end Sys2Proof.Machine
end

section
/-! SUPPORT. OUTLET LOAD: its refusals, the outlet it stores, and the evaluation that follows (03 R49). -/

namespace Sys2Proof.Machine

open Sys2Proof Sys2Proof.Claim

/-! ## The evaluation of the stored outlet -/

/-- An entry of a table whose values are all changed. -/
theorem Table.get_map {α β : Type} (t : Table α) (g : Nat → α → β) (n : Nat) :
    Table.get (t.map fun p => (p.1, g p.1 p.2)) n = (t.get n).map (g n) := by
  induction t with
  | nil => rfl
  | cons p t ih =>
    obtain ⟨k, a⟩ := p
    by_cases hk : k = n
    · subst hk; simp [get]
    · simpa [get, hk] using ih

section
variable {i : Nat} {o : Outlet} {reason : Reason} {s was : State}

/-- Recovery timers that follow the conditions leave the state of an outlet. -/
theorem State.recoveryEdges_get (was : State) (ho : s.outlet.outlets.get i = some o) :
    (State.recoveryEdges was s).outlet.outlets.get i = some { o with fault := was.outletEdges s i o } := by
  have h := Table.get_map s.outlet.outlets (fun k p => { p with fault := was.outletEdges s k p }) i
  rw [ho] at h
  exact h

/-- A loaded outlet is still loaded after its evaluation and the attempts that follow, on the same side. -/
theorem State.evalAndFlush_get (ho : s.outlet.outlets.get i = some o) :
    ∃ p, (s.evalAndFlush i reason).outlet.outlets.get i = some p ∧ p.ref = o.ref := by
  have h := ((State.flushAttempts_admits _).ref i).trans (State.evalOutlet_only (.refl i s) reason).ref
  rw [ho, Option.map_some, Option.map_eq_some_iff] at h
  exact h

end

/-- An outlet that a load stored is marked and evaluated, and the recovery timers follow; its conditions are compared with
those of the state before the load. -/
def State.outletLoaded (was : State) (i : Nat) (s : State) : State :=
  was.recoveryEdges ((s.mark .outlet i).evalAndFlush i .lock)

theorem State.outletLoaded_get {i : Nat} {o : Outlet} {s : State} (was : State)
    (ho : s.outlet.outlets.get i = some o) : ∃ p, (was.outletLoaded i s).outlet.outlets.get i = some p := by
  obtain ⟨p, hp, -⟩ := State.evalAndFlush_get (s := s.mark .outlet i) (reason := .lock) ho
  exact ⟨_, State.recoveryEdges_get was hp⟩

/-- The load is answered with the state of the outlet. -/
def State.acceptOutlet (fr : IntakeFrame) (i : Nat) (s : State) : State :=
  s.accept fr [] (.outletState i (((s.outlet.outlets.get i).map (·.state)).getD .off))

theorem State.acceptOutlet_loaded {fr : IntakeFrame} {i : Nat} {p : Outlet} {s : State}
    (hp : s.outlet.outlets.get i = some p) :
    s.acceptOutlet fr i = s.answer fr (.accepted [] (.outletState i p.state)) := by
  rw [State.acceptOutlet, hp]
  rfl

/-! ## OUTLET LOAD (03 R49) -/

section
variable {fr : IntakeFrame} {f : OutletLoad} {side : Side} {o : Outlet} {s : State}

theorem busAddressOk_iff {a : Nat} : busAddressOk a = true ↔ 1 ≤ a ∧ a ≤ 126 := decide_eq_true_iff

theorem outletRange_iff : outletRange f ↔ outletLoadOk f = true := by
  simp only [outletRange, outletLoadOk, Bool.and_eq_true, Bool.or_eq_true, indexOk_iff, busAddressOk_iff,
    smallIndexOk_iff, beq_iff_eq, and_assoc, or_assoc]

/-- The side of a load is held by another outlet. -/
def State.outletSideHeld (s : State) (i a : Nat) (side : Side) : Bool :=
  s.outlet.outlets.any fun p => decide (p.1 ≠ i ∧ p.2.address = a ∧ p.2.side = side)

theorem State.outletSideHeld_iff {i a : Nat} : s.outletSideHeld i a side = true ↔
    ∃ p ∈ s.outlet.outlets, p.1 ≠ i ∧ p.2.address = a ∧ p.2.side = side := by
  simp [State.outletSideHeld]

theorem outletLoadAct_unlisted (h : f.side = .unlisted) : outletLoadAct fr f s = s.refuse fr .outOfRange := by
  simp only [outletLoadAct, h]

theorem outletLoadAct_outOfRange (h : ¬outletRange f) : outletLoadAct fr f s = s.refuse fr .outOfRange := by
  have hok : outletLoadOk f = false := by simpa using mt outletRange_iff.2 h
  unfold outletLoadAct
  split
  · rfl
  · simp [hok]

section
variable (hside : f.side = .known side) (hr : outletRange f)
include hside hr

theorem outletLoadAct_notFound (hf : s.outlet.feeders.get f.feeder = none) :
    outletLoadAct fr f s = s.refuse fr .notFound := by
  simp [outletLoadAct, hside, outletRange_iff.1 hr, Table.has, hf]

variable (hf : s.outlet.feeders.has f.feeder = true)
include hf

theorem outletLoadAct_exists (hh : s.outletSideHeld f.index f.address side = true) :
    outletLoadAct fr f s = s.refuse fr .exists := by
  unfold State.outletSideHeld at hh
  simp only [outletLoadAct, hside, outletRange_iff.1 hr, hf, hh]
  rfl

variable (hh : s.outletSideHeld f.index f.address side = false)
include hh

theorem outletLoadAct_new (ho : s.outlet.outlets.get f.index = none) : outletLoadAct fr f s =
    (s.outletLoaded f.index (((s.setOutlet f.index (newOutlet f side)).createSource .outlet f.index).writeImage
      f.address)).acceptOutlet fr f.index := by
  unfold State.outletSideHeld at hh
  simp only [outletLoadAct, hside, outletRange_iff.1 hr, hf, hh, ho]
  rfl

variable (ho : s.outlet.outlets.get f.index = some o)
include ho

theorem outletLoadAct_inUse (hm : o.address ≠ f.address ∨ o.side ≠ side)
    (hu : o.state ≠ .off ∨ o.reservation ≠ none) : outletLoadAct fr f s = s.refuse fr .inUse := by
  rw [← Option.isSome_iff_ne_none] at hu
  unfold State.outletSideHeld at hh
  simp only [outletLoadAct, hside, outletRange_iff.1 hr, hf, hh, ho, if_pos (And.intro hu hm)]
  rfl

theorem outletLoadAct_reloads (h : o.address = f.address ∧ o.side = side ∨ o.state = .off ∧ o.reservation = none) :
    outletLoadAct fr f s = (s.outletLoaded f.index (s.reloadOutlet o f side)).acceptOutlet fr f.index := by
  have hno : ¬((o.state ≠ .off ∨ o.reservation.isSome) ∧ (o.address ≠ f.address ∨ o.side ≠ side)) := by
    rw [Option.isSome_iff_ne_none]
    tauto
  unfold State.outletSideHeld at hh
  simp only [outletLoadAct, hside, outletRange_iff.1 hr, hf, hh, ho, if_neg hno]
  rfl

end

/-- A loaded outlet with the fields of a load; one that moves has plug and readback UNKNOWN. -/
def Outlet.reloaded (f : OutletLoad) (side : Side) (o : Outlet) : Outlet :=
  let moved := decide (o.address ≠ f.address ∨ o.side ≠ side)
  { o with
    address := f.address, side := side, rating := f.rating, feeder := f.feeder
    plug := if moved then .unknown else o.plug, readback := if moved then .unknown else o.readback }

theorem State.reloadOutlet_outlets (o : Outlet) (f : OutletLoad) (side : Side) (s : State) :
    (s.reloadOutlet o f side).outlet.outlets = s.outlet.outlets.set f.index (o.reloaded f side) := by
  unfold State.reloadOutlet Outlet.reloaded
  dsimp only
  generalize decide (o.address ≠ f.address ∨ o.side ≠ side) = moved
  split
  · split
    · rw [State.attempt_outlets, State.attempt_outlets]
      cases moved <;> rfl
    · cases moved <;> rfl
  · cases moved <;> rfl

theorem State.reloadOutlet_get (o : Outlet) (f : OutletLoad) (side : Side) (s : State) :
    (s.reloadOutlet o f side).outlet.outlets.get f.index = some (o.reloaded f side) := by
  rw [State.reloadOutlet_outlets]
  exact Table.get_set_self _ _ _

theorem State.newOutlet_get (f : OutletLoad) (side : Side) (s : State) :
    (((s.setOutlet f.index (newOutlet f side)).createSource .outlet f.index).writeImage f.address).outlet.outlets.get
      f.index = some (newOutlet f side) := by
  rw [State.writeImage_outlet, State.createSource_eq]
  exact Table.get_set_self _ _ _

end

/-- Settles O29: a refusal by the checks in their order, else the outlet is stored, new or over the loaded one, and
evaluated. -/
theorem outletLoadIsCheckedAndStored : Obligations.OutletLoadIsCheckedAndStored := by
  intro f fr s h
  have run {ans : Answer} {effect : State} (ha : outletLoadAct fr f (s.taken fr) = effect.answer fr ans) :
      exec (.outletLoad (.fields f)) s = done fr ans effect := exec_of_takes rfl rfl h ha
  have loaded {x : State} {o : Outlet} (hx : x.outlet.outlets.get f.index = some o)
      (ha : outletLoadAct fr f (s.taken fr) = ((s.taken fr).outletLoaded f.index x).acceptOutlet fr f.index) :
      ∃ p, ((s.taken fr).outletLoaded f.index x).outlet.outlets.get f.index = some p ∧
        exec (.outletLoad (.fields f)) s =
          done fr (.accepted [] (.outletState f.index p.state)) ((s.taken fr).outletLoaded f.index x) := by
    obtain ⟨p, hp⟩ := State.outletLoaded_get (s.taken fr) hx
    exact ⟨p, hp, run (ha.trans (State.acceptOutlet_loaded hp))⟩
  have known (hf : s.outlet.feeders.get f.feeder ≠ none) : (s.taken fr).outlet.feeders.has f.feeder = true :=
    Option.isSome_iff_ne_none.2 hf
  have free {side : Side} (hn : ¬∃ p ∈ s.outlet.outlets, p.1 ≠ f.index ∧ p.2.address = f.address ∧ p.2.side = side) :
      (s.taken fr).outletSideHeld f.index f.address side = false :=
    eq_false_of_ne_true (mt State.outletSideHeld_iff.1 hn)
  refine ⟨fun hr => run (hr.elim outletLoadAct_unlisted outletLoadAct_outOfRange), fun side hside hr =>
    ⟨fun hf => ?_, fun hf hh => ?_, fun hf hn => ⟨fun ho => ?_, fun o ho => ⟨fun hm hu => ?_, fun hk => ⟨?_, ?_⟩⟩⟩⟩⟩
  · exact run (outletLoadAct_notFound hside hr hf)
  · exact run (outletLoadAct_exists hside hr (known hf) (State.outletSideHeld_iff.2 hh))
  · exact loaded (State.newOutlet_get f side _) (outletLoadAct_new hside hr (known hf) (free hn) ho)
  · exact run (outletLoadAct_inUse hside hr (known hf) (free hn) ho hm hu)
  · exact loaded (State.reloadOutlet_get o f side _) (outletLoadAct_reloads hside hr (known hf) (free hn) ho hk)
  · exact State.reloadOutlet_get o f side _

end Sys2Proof.Machine
end

section
/-! SUPPORT. The office locks, the service hold and the water suspend (03 R63, R64; 05 R101). -/

namespace Sys2Proof.Machine

open Sys2Proof Sys2Proof.Claim

/-! ## FORCE OFF and RELEASE FORCE (03 R63) -/

section
variable {i : Nat} {o : Outlet} {reason : Reason} {s : State} (ho : s.outlet.outlets.get i = some o)
include ho

theorem State.setLock_eq (b : Bool) :
    s.setLock i b = if o.lock = b then s else (s.setOutlet i { o with lock := b }).mark .outlet i := by
  simp only [State.setLock, ho]

theorem State.setLock_get (b : Bool) : (s.setLock i b).outlet.outlets.get i = some { o with lock := b } := by
  rw [State.setLock_eq ho]
  split
  · next h => rw [ho, ← h]
  · exact Table.get_set_self _ _ _

/-- An outlet that is not eligible stays, or leaves service. -/
theorem State.evalOutlet_ineligible (he : s.outletEligible o = false) :
    s.evalOutlet i reason = s ∨ s.evalOutlet i reason = s.vacate i .off reason := by
  simp only [State.evalOutlet, ho, he]
  split
  · next h => cases h
  · split
    · exact .inr rfl
    · exact .inl rfl

theorem State.vacate_lock (target : OutletState) :
    ∃ p, (s.vacate i target reason).outlet.outlets.get i = some p ∧ p.lock = o.lock := by
  obtain ⟨w, he⟩ := State.endOutletSession_get ho reason
  obtain ⟨hp, -⟩ := State.vacate_onlyOutlet target he
  exact ⟨_, hp, rfl⟩

/-- An evaluation and the attempts that follow leave the lock of the outlet. -/
theorem State.evalAndFlush_lock :
    ∃ p, (s.evalAndFlush i reason).outlet.outlets.get i = some p ∧ p.lock = o.lock := by
  obtain ⟨q, hq, hl⟩ : ∃ q, (s.evalOutlet i reason).outlet.outlets.get i = some q ∧ q.lock = o.lock := by
    cases he : s.outletEligible o with
    | true =>
      by_cases hx : o.state = .off
      · obtain ⟨q, hq, hf, -⟩ := State.evalOutlet_raises (reason := reason) ho he hx
        exact ⟨q, hq, congrArg (·.2.1) hf⟩
      · exact ⟨o, by rwa [State.evalOutlet_inUse ho he hx], rfl⟩
    | false =>
      rcases State.evalOutlet_ineligible (reason := reason) ho he with e | e <;> rw [e]
      · exact ⟨o, ho, rfl⟩
      · exact State.vacate_lock ho _
  obtain ⟨p, hp, hf, -⟩ := State.flushAttempts_raises i _ q hq
  exact ⟨p, hp, (congrArg (·.2.1) hf).trans hl⟩

omit ho in
theorem State.outletEligible_locked (hl : o.lock = true) : s.outletEligible o = false := by
  simp [State.outletEligible, State.outletMayServe, hl]

/-- A locked outlet in use, with no latch set, is taken out of service. -/
theorem State.evalAndFlush_locked (hl : o.lock = true) (hx : serving o.state)
    (hf : ∀ k, o.fault.latches.get k = false) : (s.evalAndFlush i reason).Vacated i .off reason := by
  rw [State.evalAndFlush, State.evalOutlet_cuts ho (State.outletEligible_locked hl) hx hf]
  exact (State.vacate_vacated ho .off reason).flushAttempts

end

section
variable {lock : Bool} {fr : IntakeFrame} {i : Nat} {o : Outlet} {s : State}

theorem lockAct_notPermitted (h : s.mgmt.config.outletOverride = false) :
    lockAct lock fr i s = s.refuse fr .notPermitted := by
  simp [lockAct, h]

variable (h : s.mgmt.config.outletOverride = true)
include h

theorem lockAct_outOfRange (hi : ¬(1 ≤ i ∧ i ≤ 48)) : lockAct lock fr i s = s.refuse fr .outOfRange := by
  have hn : indexOk i = false := by simpa using mt indexOk_iff.1 hi
  simp [lockAct, h, hn]

theorem lockAct_notFound (hi : 1 ≤ i ∧ i ≤ 48) (ho : s.outlet.outlets.get i = none) :
    lockAct lock fr i s = s.refuse fr .notFound := by
  simp [lockAct, h, indexOk_iff.2 hi, Table.has, ho]

theorem lockAct_locks {p : Outlet} (hi : 1 ≤ i ∧ i ≤ 48) (ho : s.outlet.outlets.get i = some o)
    (hp : ((s.setLock i lock).evalAndFlush i .lock).outlet.outlets.get i = some p) : lockAct lock fr i s =
      ((s.setLock i lock).evalAndFlush i .lock).accept fr [] (.outletLock i p.state p.lock) := by
  simp [lockAct, h, indexOk_iff.2 hi, Table.has, ho, hp]

end

/-- FORCE OFF and RELEASE FORCE, by the checks in their order and the lock they set. -/
theorem officeLocksAreSetAndReleased : Claim.OfficeLocksAreSetAndReleased := by
  intro lock i fr s c h
  have run {ans : Answer} {effect : State} (ha : lockAct lock fr i (s.taken fr) = effect.answer fr ans) :
      exec c s = done fr ans effect := by
    cases lock
    · exact exec_of_takes (c := .releaseForce (.fields i)) rfl rfl h ha
    · exact exec_of_takes (c := .forceOff (.fields i)) rfl rfl h ha
  refine ⟨fun hn => run (lockAct_notPermitted (by rwa [State.taken_config])), fun hy hi =>
    run (lockAct_outOfRange (by rwa [State.taken_config]) hi), fun hy h1 h48 ho =>
    run (lockAct_notFound (by rwa [State.taken_config]) ⟨h1, h48⟩ ho), fun o hy h1 h48 ho => ?_⟩
  have hu : (s.taken fr).outlet.outlets.get i = some o := ho
  have hset := State.setLock_get hu lock
  obtain ⟨p, hp, hl⟩ := State.evalAndFlush_lock (reason := .lock) hset
  have hact := lockAct_locks (lock := lock) (fr := fr) (by rwa [State.taken_config]) ⟨h1, h48⟩ hu hp
  dsimp only
  rw [← State.setLock_eq hu]
  rw [hl] at hact
  refine ⟨p, hp, hl, run hact, fun hlock hx hf => ?_⟩
  obtain ⟨⟨q, hq, hoff, hreason, hsession⟩, -⟩ := State.evalAndFlush_locked (reason := .lock) hset hlock hx hf
  obtain rfl : p = q := Option.some.inj (hp.symm.trans hq)
  exact ⟨hoff, hreason, hsession⟩

/-! ## SERVICE HOLD (03 R64) -/

section
variable {j : Nat} {o : Outlet} {q : Tap} {reason : Reason} {s u : State}

/-- A loaded outlet stays loaded through an operation on any outlet. -/
theorem State.OnlyOutlet.loaded {i : Nat} (h : s.OnlyOutlet i u) (hj : ∃ p, s.outlet.outlets.get j = some p) :
    ∃ p, u.outlet.outlets.get j = some p := by
  obtain ⟨p, hp⟩ := hj
  by_cases hi : j = i
  · subst hi
    have hr := h.ref
    rw [hp, Option.map_some, Option.map_eq_some_iff] at hr
    exact hr.imp fun _ => And.left
  · exact ⟨p, (h.others j hi).trans hp⟩

/-- A run that takes outlets out of service leaves each of them out of service. -/
theorem State.vacateAll_vacated {l : List Nat} (hj : j ∈ l) (ho : s.outlet.outlets.get j = some o) :
    (l.foldl (fun t i => t.vacate i .off reason) s).Vacated j .off reason := by
  have only (i : Nat) (u : State) : u.OnlyOutlet i (u.vacate i .off reason) := State.vacate_only (.refl i u) _ _
  refine foldl_of_mem (Inv := fun u => ∃ p, u.outlet.outlets.get j = some p) (fun u i h => (only i u).loaded h)
    (fun u i ⟨p, hp⟩ hv => ?_) (fun u ⟨p, hp⟩ => State.vacate_vacated hp _ _) hj ⟨o, ho⟩
  by_cases hi : j = i
  · subst hi
    exact State.vacate_vacated hp _ _
  · exact hv.other (only i u) hi

theorem State.holdOutlets_vacated (ho : s.outlet.outlets.get j = some o) (hx : serving o.state) :
    s.holdOutlets.Vacated j .off .hold := by
  refine State.Vacated.flushAttempts (State.vacateAll_vacated ?_ ho)
  exact List.mem_map.2 ⟨(j, o), List.mem_filter.2 ⟨Table.mem_of_get ho, OutletState.inUse_iff.2 hx⟩, rfl⟩

theorem State.holdOutlets_tap (s : State) : s.holdOutlets.tap = s.tap :=
  (State.flushAttempts_admits _).tap.trans (List.foldlRecOn (motive := fun t : State => t.tap = s.tap) _ _ rfl
    fun _ h _ _ => (State.vacate_only (.refl _ _) _ _).tap.trans h)

/-! ## Every OPEN tap closed (05 R101) -/

theorem State.closeIfOpen_only (i : Nat) (reason : Reason) (s : State) : s.OnlyTap i (s.closeIfOpen i reason) := by
  unfold State.closeIfOpen
  split
  · exact .refl i s
  · split
    · exact State.shutTap_only _ _ _ _
    · exact .refl i s

theorem State.closeIfOpen_opened (hq : s.tap.taps.get j = some q) (hx : q.state = .opened) :
    (s.closeIfOpen j reason).Shut j reason := by
  simp only [State.closeIfOpen, hq, if_pos hx]
  exact State.shutTap_get hq .closed reason

/-- A closed tap stays closed. -/
theorem State.Shut.closeIfOpen (h : s.Shut j reason) (i : Nat) : (s.closeIfOpen i reason).Shut j reason := by
  obtain ⟨p, hp, hx, hr⟩ := id h
  by_cases hi : j = i
  · subst hi
    have hc : s.closeIfOpen j reason = s := by simp [State.closeIfOpen, hp, hx]
    rwa [hc]
  · exact ⟨p, ((State.closeIfOpen_only i reason s).others j hi).trans hp, hx, hr⟩

theorem State.closeAllTaps_shut (hq : s.tap.taps.get j = some q) (hx : q.state = .opened) :
    (s.closeAllTaps reason).Shut j reason := by
  refine foldl_of_mem (Inv := fun u => u.tap.taps.get j = some q ∨ u.Shut j reason) (fun u i h => ?_)
    (fun u i _ h => h.closeIfOpen i) (fun u h => ?_)
    (List.mem_map.2 ⟨(j, q), List.mem_filter.2 ⟨Table.mem_of_get hq, decide_eq_true hx⟩, rfl⟩) (.inl hq)
  · rcases h with hu | hu
    · by_cases hi : j = i
      · subst hi
        exact .inr (State.closeIfOpen_opened hu hx)
      · exact .inl (((State.closeIfOpen_only i reason u).others j hi).trans hu)
    · exact .inr (hu.closeIfOpen i)
  · rcases h with hu | hu
    · exact State.closeIfOpen_opened hu hx
    · exact hu.closeIfOpen j

theorem State.closeAllTaps_outlet (reason : Reason) (s : State) : (s.closeAllTaps reason).outlet = s.outlet :=
  List.foldlRecOn (motive := fun t : State => t.outlet = s.outlet) _ _ rfl
    fun _ h _ _ => (State.closeIfOpen_only _ _ _).outlet.trans h

/-! ## The flags (03 R64, 05 R101) -/

theorem State.putServiceHold_same {b : Bool} (h : s.outlet.serviceHold = b) : s.putServiceHold b = s := by
  rw [State.putServiceHold, ← h]

theorem State.setWaterSuspend_flag (b : Bool) (s : State) : (s.setWaterSuspend b).tap.waterSuspend = b := by
  unfold State.setWaterSuspend
  split
  · assumption
  · rfl

theorem State.setWaterSuspend_taps (b : Bool) (s : State) : (s.setWaterSuspend b).tap.taps = s.tap.taps := by
  unfold State.setWaterSuspend
  split <;> rfl

theorem serviceReleaseAct_held {fr : IntakeFrame} (h : s.outlet.serviceHold = true) : serviceReleaseAct fr () s =
    (s.outlet.outlets.keys.foldl (fun x i => x.evalAndFlush i .hold) (s.putServiceHold false)).accept fr [] .none := by
  simp only [serviceReleaseAct, h, if_true]
  rfl

theorem serviceReleaseAct_free {fr : IntakeFrame} (h : s.outlet.serviceHold = false) :
    serviceReleaseAct fr () s = s.accept fr [] .none := by
  simp [serviceReleaseAct, h, State.putServiceHold_same h]

end

/-- The four commands that act on every outlet or tap. -/
theorem serviceHoldAndWaterSuspend : Claim.ServiceHoldAndWaterSuspend := by
  intro fr s
  refine ⟨fun h => ?_, fun h => ⟨fun hh => ?_, fun hh => ?_⟩, fun h => ?_, fun h => ?_⟩
  · have hl := State.closeAllTaps_leaves .hold (State.holdOutlets_leaves (.refl ((s.taken fr).putServiceHold true)))
    refine ⟨exec_of_takes (act := serviceHoldAct) rfl rfl h rfl, hl.serviceHold, fun j o ho hx => ?_,
      fun j q hq hx => ?_⟩
    · rw [State.closeAllTaps_outlet]
      exact (State.holdOutlets_vacated (s := (s.taken fr).putServiceHold true) ho hx).1
    · refine State.closeAllTaps_shut ?_ hx
      rw [State.holdOutlets_tap]
      exact hq
  · exact exec_of_takes (act := serviceReleaseAct) rfl rfl h (serviceReleaseAct_held (s := s.taken fr) hh)
  · exact exec_of_takes (act := serviceReleaseAct) rfl rfl h (serviceReleaseAct_free (s := s.taken fr) hh)
  · have hl := State.closeAllTaps_leaves .waterSuspend (.refl ((s.taken fr).setWaterSuspend true))
    refine ⟨exec_of_takes (act := waterSuspendAct) rfl rfl h rfl,
      hl.waterSuspend.trans (State.setWaterSuspend_flag true _), fun j q hq hx => State.closeAllTaps_shut ?_ hx⟩
    exact (congrArg (Table.get · j) (State.setWaterSuspend_taps true (s.taken fr))).trans hq
  · exact exec_of_takes (act := waterResumeAct) rfl rfl h rfl

/-- Settles O33, from its two parts. -/
theorem officeLocksAndServiceHold : Obligations.OfficeLocksAndServiceHold :=
  ⟨officeLocksAreSetAndReleased, serviceHoldAndWaterSuspend⟩

end Sys2Proof.Machine
end

section
/-! SUPPORT. Energy and litre deltas on their way to a session, its posting slot and the tallies (03 R65, 04 R78, 05
R100, 11 R183, 02 R37). -/

namespace Sys2Proof.Machine

open Sys2Proof Sys2Proof.Claim

/-! ## The posting slot of a delta (02 R37) -/

section
variable {src acct q : Nat} {l : List Posting} {e : Posting}

theorem postDelta_new (h : findPosting src l = none) : postDelta src acct q l = some (l ++ [⟨src, acct, q, none⟩]) := by
  simp only [postDelta, h]

theorem postDelta_own (h : findPosting src l = some e) (he : e.closing = none) : postDelta src acct q l =
    some (l.map fun p => if p.source = src then { e with quantity := e.quantity + q } else p) := by
  simp only [postDelta, h, he]
  rfl

theorem postDelta_closing {z : Closing} (h : findPosting src l = some e) (he : e.closing = some z) :
    postDelta src acct q l = none := by
  simp only [postDelta, h, he]

end

/-- A session with a delta added, modulo 2^32. -/
def Session.drawn (q : Nat) (x : Session) : Session := { x with quantity := (x.quantity + q) % 4294967296 }

/-! ## Energy (03 R65, 04 R78) -/

section
variable {i q : Nat} {o : Outlet} {x : Session} {l : List Posting} {s : State}
  (ho : s.outlet.outlets.get i = some o)
include ho

theorem State.outletDelta_idle (hx : o.session = none) : s.outletDelta i q = s := by
  simp only [State.outletDelta, ho, hx]

section
variable (hx : o.session = some x) (hq : 0 < q)
include hx hq

theorem State.outletDelta_posted (hl : postDelta i x.account q s.charge.power = some l) : s.outletDelta i q =
    { s with charge := { s.charge with power := l } }.setOutlet i { o with session := some (x.drawn q) } := by
  simp only [State.outletDelta, ho, hx, if_neg hq.ne', hl]
  rfl

theorem State.outletDelta_unposted (hl : postDelta i x.account q s.charge.power = none) : s.outletDelta i q =
    s.setOutlet i { o with session := some { x.drawn q with unposted := x.unposted + q } } := by
  simp only [State.outletDelta, ho, hx, if_neg hq.ne', hl]
  rfl

end

end

/-- An outlet that energy was seen at (log 11). -/
def Outlet.seen (q : Nat) (o : Outlet) : Outlet :=
  { o with fault := { o.fault with energySeen := o.fault.energySeen || decide (0 < q) } }

/-- An energy delta seen and tallied. -/
def State.metered (i q : Nat) (s : State) : State :=
  (s.modOutlet i (Outlet.seen q)).modLive fun t => { t with energy := addLifetime i q t.energy }

theorem State.energyDelta_counted (i q : Nat) (s : State) :
    s.energyDelta i q false = (s.metered i q).outletDelta i q := rfl

section
variable {i q : Nat} {o : Outlet} {s : State}

theorem State.modOutlet_get (f : Outlet → Outlet) (ho : s.outlet.outlets.get i = some o) :
    (s.modOutlet i f).outlet.outlets.get i = some (f o) := by
  simp [ho]

theorem State.energyDelta_tally (i q : Nat) (s : State) :
    (s.energyDelta i q false).tally.live.energy.getD i 0 = (s.tally.live.energy.getD i 0 + q) % 4294967296 := by
  rw [State.energyDelta_counted, (State.outletDelta_leaves i q (.refl (s.metered i q))).tally]
  exact addLifetime_getD _ _ _

end

/-- An energy delta, by whether it is a jump and what stands in the slot of its outlet. -/
theorem meterDeltasReachSessionsAndTallies : Claim.MeterDeltasReachSessionsAndTallies := by
  intro i q o s ho
  have hm : (s.metered i q).outlet.outlets.get i = some (o.seen q) := State.modOutlet_get (Outlet.seen q) ho
  refine ⟨State.modOutlet_get (Outlet.seen q) ho, rfl, rfl, State.energyDelta_tally i q s, fun hx => ?_,
    fun x hx hq => ⟨fun hf => ?_, fun e hf he => ?_, fun e z hf he => ?_⟩⟩
  · rw [State.energyDelta_counted, State.outletDelta_idle hm hx]
    exact ⟨hm, rfl⟩
  · rw [State.energyDelta_counted, State.outletDelta_posted hm hx hq (postDelta_new hf)]
    exact ⟨Table.get_set_self _ _ _, rfl⟩
  · rw [State.energyDelta_counted, State.outletDelta_posted hm hx hq (postDelta_own hf he)]
    exact ⟨Table.get_set_self _ _ _, rfl⟩
  · rw [State.energyDelta_counted, State.outletDelta_unposted hm hx hq (postDelta_closing hf he)]
    exact ⟨Table.get_set_self _ _ _, rfl⟩

/-! ## Litres (05 R100) -/

section
variable {i q : Nat} {o : Tap} {x : Session} {l : List Posting} {s : State} (ho : s.tap.taps.get i = some o)
include ho

theorem State.tapDelta_idle (h : o.session = none ∨ q = 0) : s.tapDelta i q = s := by
  cases hx : o.session with
  | none => simp only [State.tapDelta, ho, hx]
  | some x =>
    have hq : q = 0 := h.resolve_left (by simp [hx])
    simp only [State.tapDelta, ho, hx, if_pos hq]

section
variable (hx : o.session = some x) (hq : 0 < q)
include hx hq

theorem State.tapDelta_posted (hl : postDelta i x.account q s.charge.water = some l) : s.tapDelta i q =
    { s with charge := { s.charge with water := l } }.setTap i { o with session := some (x.drawn q) } := by
  simp only [State.tapDelta, ho, hx, if_neg hq.ne', hl]
  rfl

theorem State.tapDelta_unposted (hl : postDelta i x.account q s.charge.water = none) : s.tapDelta i q =
    s.setTap i { o with session := some { x.drawn q with unposted := x.unposted + q } } := by
  simp only [State.tapDelta, ho, hx, if_neg hq.ne', hl]
  rfl

end

end

/-- Lifetime tallies, and a litre delta by what stands in the slot of its tap. -/
theorem litreDeltasReachSessions : Claim.LitreDeltasReachSessions := by
  refine ⟨fun k q t => ⟨addLifetime_getD k q t, fun j hj => Table.get_set_ne _ _ hj⟩, fun i q o s ho =>
    ⟨State.tapDelta_idle ho, fun x hx hq => ⟨fun hf => ?_, fun e hf he => ?_, fun e z hf he => ?_⟩⟩⟩
  · rw [State.tapDelta_posted ho hx hq (postDelta_new hf)]
    exact ⟨Table.get_set_self _ _ _, rfl⟩
  · rw [State.tapDelta_posted ho hx hq (postDelta_own hf he)]
    exact ⟨Table.get_set_self _ _ _, rfl⟩
  · rw [State.tapDelta_unposted ho hx hq (postDelta_closing hf he)]
    exact ⟨Table.get_set_self _ _ _, rfl⟩

/-! ## The tallies of a sale (06 R120, 11 R183) -/

/-- One more completed sale, modulo 2^32. -/
def Tallies.completed (t : Tallies) : Tallies := { t with salesCompleted := (t.salesCompleted + 1) % 4294967296 }

section
variable {i volume : Nat} {incomplete : Bool} {d : Dispenser} {x : Sale} {s : State}

theorem State.completeSale_live (hd : s.fuel.dispensers.get i = some d) (hx : d.sale = some x) :
    (s.completeSale i).tally.live = s.tally.live.completed := by
  simp only [State.completeSale, hd, hx]
  rfl

/-- A change of a held amount leaves the sales and the tallies. -/
theorem State.changeHeld_fuelAndTally (n : Nat) (f : Account → Account) (s : State) :
    (s.changeHeld n f).fuel = s.fuel ∧ (s.changeHeld n f).tally = s.tally := by
  cases ha : s.account n with
  | none => simp only [State.changeHeld, ha, and_self]
  | some a =>
    have hl := State.changeHeld_leaves f ha
    exact ⟨hl.fuel, hl.tally⟩

theorem Tallies.chargeFuel_salesCompleted (grade a : Nat) (t : Tallies) :
    (t.chargeFuel grade a).salesCompleted = t.salesCompleted := by
  unfold Tallies.chargeFuel
  split <;> rfl

theorem State.serveSettle_salesCompleted {r : FuelRequest} (h c : Nat) (hd : s.fuel.dispensers.get r.dispenser = some d)
    (hx : d.sale = some x) :
    (s.serveSettle r h c).tally.live.salesCompleted = (s.tally.live.salesCompleted + 1) % 4294967296 := by
  obtain ⟨hf, ht⟩ := State.changeHeld_fuelAndTally r.account (Account.settle r.account h c) s
  rw [State.serveSettle, State.completeSale_live (d := d) (x := x) (by rw [State.modLive_fuel, hf, hd]) hx,
    State.modLive_tally, ht]
  exact congrArg (fun k => (k + 1) % 4294967296) (Tallies.chargeFuel_salesCompleted _ _ _)

variable (hd : s.fuel.dispensers.get i = some d) (hx : d.sale = some x)
include hd hx

theorem State.enterSettling_soldToAccount {n : Nat} (hn : x.account = some n) :
    (s.enterSettling false i volume incomplete).tally.live =
      { s.tally.live with fuelSold := addLifetime (2 * i + x.grade) volume s.tally.live.fuelSold } := by
  rw [State.enterSettling_account hd hx hn, (State.grantPumps_onlyPumps _).tally, State.request_tallies,
    State.settleAt_live]
  simp [Sale.settled, Tallies.sold, hn]

theorem State.enterSettling_soldForCash (hn : x.account = none) :
    (s.enterSettling false i volume incomplete).tally.live =
      (s.tally.live.sold i x.grade volume (fuelAmount volume x.price) true).completed := by
  rw [State.enterSettling_cash hd hx hn, (State.grantPumps_onlyPumps _).tally,
    State.completeSale_live State.settleAt_dispenser rfl, State.settleAt_live]
  simp [Sale.settled, hn]

end

/-- The tallies of a sale, by who pays and, for cash, by the grade. -/
theorem salesReachTheTallies : Claim.SalesReachTheTallies := by
  refine ⟨fun i volume incomplete d x s hd hx => ⟨fun n hn => State.enterSettling_soldToAccount hd hx hn, fun hn => ?_⟩,
    fun r h c d x s hd hx => State.serveSettle_salesCompleted h c hd hx⟩
  rw [State.enterSettling_soldForCash hd hx hn]
  by_cases hg : x.grade = 0
  · rw [if_pos hg, Tallies.sold, if_pos hg]
    rfl
  · rw [if_neg hg, Tallies.sold, if_neg hg]
    rfl

end Sys2Proof.Machine
end

section
/-! SUPPORT. The payloads of bus replies, byte by byte (08 Tables 8.8, 8.10, 8.11). -/

namespace Sys2Proof.Machine

open Sys2Proof Sys2Proof.Claim

/-- A byte joined to a big-endian word. -/
theorem toNat_append_byte {w : Nat} (x : BitVec w) (b : Byte) : (x ++ b).toNat = x.toNat * 256 + b.toNat := by
  rw [BitVec.toNat_append, ← Nat.shiftLeft_add_eq_or_of_lt b.isLt, Nat.shiftLeft_eq]

theorem bytesToNat_one (a : Byte) : bytesToNat [a] = a.toNat := by simp [bytesToNat]

theorem bytesToNat_two (a b : Byte) : bytesToNat [a, b] = (a ++ b).toNat := by
  simp only [bytesToNat, List.foldl, toNat_append_byte, Nat.zero_mul, Nat.zero_add]

theorem bytesToNat_four (a b c d : Byte) : bytesToNat [a, b, c, d] = (a ++ b ++ c ++ d).toNat := by
  simp only [bytesToNat, List.foldl, toNat_append_byte, Nat.zero_mul, Nat.zero_add]

theorem field_append (before p : List Byte) (off len : Nat) :
    field (before ++ p) (before.length + off) len = field p off len := by
  rw [field, List.drop_length_add_append, field]

theorem byteOf_append (before p : List Byte) (off : Nat) :
    byteOf (before ++ p) (before.length + off) = byteOf p off := field_append _ _ _ _

/-- A flag byte reads as set where it is not 0 (log 35). -/
theorem toNat_bne_zero (b : Byte) : (b.toNat != 0) = (b != 0) := by
  rw [Bool.eq_iff_iff]
  simp [← BitVec.toNat_inj]

/-- The payloads, field by field. -/
theorem replyPayloadsAreReadByTheirTables : Claim.ReplyPayloadsAreReadByTheirTables := by
  refine ⟨fun c t3 t2 t1 t0 e o => ?_,
    fun c t3 t2 t1 t0 g p3 p2 p1 p0 n v3 v2 v1 v0 a3 a2 a1 a0 b3 b2 b1 b0 => ?_,
    fun f c1 c0 e1 e0 l1 l0 k p before => ?_⟩
  · simp [parseStatus, byteOf, field, bytesToNat_one, bytesToNat_four, toNat_bne_zero]
  · simp [parseStatus, byteOf, field, bytesToNat_one, bytesToNat_four, toNat_bne_zero]
  · have h0 := byteOf_append before ([f, c1, c0, e1, e0, l1, l0, k] ++ p) 0
    rw [Nat.add_zero] at h0
    rw [List.append_assoc]
    simp only [parseSide, h0, field_append, byteOf_append]
    simp [byteOf, field, bytesToNat_one, bytesToNat_two, BitVec.getLsbD]

/-- Settles O51, from its four parts. -/
theorem meterDeltasAndPayloadLayouts : Obligations.MeterDeltasAndPayloadLayouts :=
  ⟨meterDeltasReachSessionsAndTallies, litreDeltasReachSessions, salesReachTheTallies,
    replyPayloadsAreReadByTheirTables⟩

end Sys2Proof.Machine
end

section
/-! SUPPORT. The alarm raw status through a step (04 R89): the units' commands pass the conditions on, the commands of
power and reset leave a part that is not active, and the ports leave what the conditions read. -/

namespace Sys2Proof.Machine

open Sys2Proof Sys2Proof.Claim

/-! ## The two ways the property is kept -/

theorem rawFollows_refreshAlarm (s : State) : RawFollows s.refreshAlarm := fun _ => s.refreshAlarm_raw

/-- A part that is not active has nothing to follow. -/
theorem rawFollows_of_inactive {s : State} (h : s.active = false) : RawFollows s := fun ha =>
  Bool.noConfusion (h.symm.trans ha)

theorem State.active_of_not_running {s : State} (h : s.phase ≠ .running) : s.active = false := by
  simp [State.active, h]

theorem rawFollows_refreshActive (s : State) : RawFollows s.refreshActive := by
  unfold State.refreshActive
  split
  · exact rawFollows_refreshAlarm s
  · next h => exact rawFollows_of_inactive (eq_false_of_ne_true h)

/-! ## What reception on DOWN and the ports change (09 R161, R163) -/

/-- An operation on the trunk unit that leaves the upstream-loss state. -/
def State.OnlyTrunk (s t : State) : Prop := t = { s with trunk := { t.trunk with lost := s.trunk.lost } }

section
variable {s t u before : State}

theorem State.OnlyTrunk.trans (h : s.OnlyTrunk t) (k : t.OnlyTrunk u) : s.OnlyTrunk u := by
  unfold State.OnlyTrunk at *
  rw [k, h]

/-- The conditions read no more of the trunk unit than the upstream-loss state. -/
theorem State.OnlyTrunk.rawFollows (h : s.OnlyTrunk t) (hs : RawFollows s) : RawFollows t := by
  rw [h]
  exact hs

theorem State.setPort_onlyTrunk (p : Port) (b : Bool) (s : State) : s.OnlyTrunk (s.setPort p b) := by
  unfold State.setPort
  split
  · rfl
  · cases p <;> rfl

theorem State.pauseCheck_onlyTrunk (s : State) : s.OnlyTrunk s.pauseCheck := by
  unfold State.pauseCheck
  split <;> rfl

theorem State.pushThru_onlyTrunk (f : Frame) (s : State) : s.OnlyTrunk (s.pushThru f) := by
  unfold State.pushThru
  split
  · rfl
  · exact State.OnlyTrunk.trans (t := { s with trunk := { s.trunk with thru := s.trunk.thru ++ [⟨f, s.now⟩] } }) rfl
      (State.pauseCheck_onlyTrunk _)

theorem State.receiveDown_onlyTrunk (rx : RxFrame) (s : State) : s.OnlyTrunk (s.receiveDown rx) := by
  refine (State.setPort_onlyTrunk .down true s).trans ?_
  unfold State.receiveDown
  dsimp only
  split
  · rfl
  · split
    · rfl
    · split
      · rfl
      · split
        · exact State.pushThru_onlyTrunk _ _
        · rfl

end

/-! ## The commands -/

/-- A command of a unit changes nothing, or passes the conditions on when it is done. -/
theorem exec_refreshes {c : Instr} (h : portCommand c = false) (s : State) :
    exec c s = .next s ∨ ∃ u : State, exec c s = .next u.refreshAlarm := by
  cases c with
  | powerOn | resetAsserted | resetReleased | startupComplete | upFrameReceived | downFrameReceived | pauseReceived
  | resumeReceived | upstreamHoldExpiry | pauseRepeat | portDisconnected | portConnected | upstreamTransmit
  | upstreamFrameSent | downTransmit => cases h
  | localSlotFill | periodTimerExpiry | upstreamSilenceExpiry | unknownType | broadcastDiscard | offerTimerExpiry
  | secondTick | noShowExpiry | tideStaleExpiry | officeOperation | powerPosting | waterPosting | holdServed
  | releaseServed | settleServed | freezeAutoRelease | poll | setOutputs | oneShotTransmit | statusReply | ackReceived
  | replyTimeout | badReply | stuckMeterDetect | dispensePeriodExpiry | leakDisagreeExpiry | recoveryTimerExpiry
  | leakSettleEnd | queryTimeout | nozzleTimeout | cycleWithNothingToSend => exact unitEvent_cases _ s
  | segmentConfig | time | tide | restart | read | berthLoad | berthRead | openBerth | closeBerth | book | allocate
  | confirm | decline | depart | accountLoad | accountUpdate | topUp | accountRemove | accountRead | tariffLoad
  | outletLoad | feederLoad | protectionLoad | forceOff | releaseForce | serviceHold | serviceRelease | clearFault
  | returnToService | tapLoad | waterSuspend | waterResume | deviceLoad | deviceRemove | credentialFill
  | credentialUnknown | invalidate | authoriseSale | stopSale | takeSale | tankSet | tankAdd | freeze | freezeRelease
  | closePeriod | readTally => exact localCommand_cases _ _ _ _ s

/-- Start-up completes with the raw status taken afresh. -/
theorem State.begun_raw (s : State) : s.begun.outlet.raw = s.begun.conditions := by
  rw [State.begun, State.createSource_eq]
  rfl

/-- A command of the trunk ports passes the conditions on in an active part. -/
theorem trunkEvent_rawFollows {act : State → State} {s t : State} (hs : RawFollows s)
    (e : trunkEvent act s = .next t) : RawFollows t := by
  unfold trunkEvent at e
  split at e
  · cases e; exact rawFollows_refreshActive _
  · cases e; exact hs

/-- A part whose RESET is asserted, or whose start-up begins, is not active. -/
theorem rawFollows_powered (s : State) : RawFollows s.powered :=
  rawFollows_of_inactive (State.active_of_not_running (by simp [State.powered, State.reset]))

theorem rawFollows_starting (straps : Straps) (s : State) : RawFollows (s.starting straps) :=
  rawFollows_of_inactive (State.active_of_not_running (by simp [State.starting]))

/-- The commands of power, reset and the trunk ports keep the property. -/
theorem exec_port_rawFollows {c : Instr} {s t : State} (h : portCommand c = true) (hs : RawFollows s)
    (e : exec c s = .next t) : RawFollows t := by
  cases c with
  | powerOn straps => cases e; exact rawFollows_starting straps s
  | resetAsserted => cases e; exact rawFollows_powered s
  | resetReleased straps =>
    by_cases hp : s.phase = .held
    · cases (if_pos hp).symm.trans e; exact rawFollows_starting straps s
    · cases (if_neg hp).symm.trans e; exact hs
  | startupComplete =>
    by_cases hp : s.phase = .startUp
    · cases (if_pos hp).symm.trans e; exact fun _ => State.begun_raw _
    · cases (if_neg hp).symm.trans e; exact hs
  | upFrameReceived rx => cases e; exact rawFollows_refreshActive _
  | downFrameReceived rx => cases e; exact (State.receiveDown_onlyTrunk rx s).rawFollows hs
  | portDisconnected p => cases e; exact (State.setPort_onlyTrunk p false s).rawFollows hs
  | portConnected p => cases e; exact (State.setPort_onlyTrunk p true s).rawFollows hs
  | pauseReceived | resumeReceived | upstreamHoldExpiry | pauseRepeat | upstreamTransmit | upstreamFrameSent
  | downTransmit => exact trunkEvent_rawFollows hs e
  | _ => cases h

theorem exec_rawFollows {c : Instr} {s t : State} (hs : RawFollows s) (e : exec c s = .next t) : RawFollows t := by
  cases h : portCommand c with
  | true => exact exec_port_rawFollows h hs e
  | false =>
    obtain hx | ⟨u, hx⟩ := exec_refreshes h s
    · cases hx.symm.trans e; exact hs
    · cases hx.symm.trans e; exact rawFollows_refreshAlarm u

/-- Settles O4: neither the clock nor the queue is read by the conditions, and every command keeps the property. -/
theorem rawStatusFollowsConditions : Obligations.RawStatusFollowsConditions := by
  intro s t hs e
  cases hp : s.pending with
  | nil =>
    cases (step_nil hp).symm.trans e
    exact hs
  | cons c rest => exact exec_rawFollows (s := { s with pending := rest }) hs ((step_cons hp).symm.trans e)

end Sys2Proof.Machine
end

section
/-! SUPPORT. PROTECTION LOAD (04 R81): its refusals, the entry it stores, and the detection state of a disabled kind. -/

namespace Sys2Proof.Machine

open Sys2Proof Sys2Proof.Claim

/-! ## Kind maps -/

namespace KindMap

variable {α : Type}

theorem get_of (g : FaultKind → α) (k : FaultKind) : (of g).get k = g k := by cases k <;> rfl

theorem set_eq_of (m : KindMap α) (k : FaultKind) (a : α) : m.set k a = of fun j => if j = k then a else m.get j := by
  cases k <;> rfl

theorem get_set (m : KindMap α) (k j : FaultKind) (a : α) : (m.set k a).get j = if j = k then a else m.get j := by
  rw [set_eq_of, get_of]

@[simp] theorem get_set_self (m : KindMap α) (k : FaultKind) (a : α) : (m.set k a).get k = a := by
  rw [get_set, if_pos rfl]

theorem get_set_ne (m : KindMap α) {k j : FaultKind} (a : α) (h : j ≠ k) : (m.set k a).get j = m.get j := by
  rw [get_set, if_neg h]

/-- Maps with the same values are equal. -/
theorem ext_get {m n : KindMap α} (h : ∀ k, m.get k = n.get k) : m = n := by
  have of_get (m : KindMap α) : of m.get = m := rfl
  rw [← of_get m, funext h, of_get]

end KindMap

/-! ## The entry and the methods (04 R81) -/

section
variable {f : ProtectionLoad} {k : FaultKind}

theorem storedEntry_eq (f : ProtectionLoad) (k : FaultKind) : storedEntry f k = loadedEntry f k := by
  cases k <;> rfl

theorem methodsBad_iff : methodsBad f k = true ↔ badMethods f k := by
  cases k <;> simp [methodsBad, badMethods, and_assoc]

/-- The detection state of an outlet with a kind idle. -/
theorem State.idleKind_outlet {i : Nat} {p : Outlet} {s : State} (h : (s.idleKind k).outlet.outlets.get i = some p) :
    ∃ o, p = if k.appliesTo .outlet then { o with fault := o.fault.idle k } else o := by
  have hm := Table.get_map s.outlet.outlets
    (fun _ o => if k.appliesTo .outlet then { o with fault := o.fault.idle k } else o) i
  obtain ⟨o, -, ho⟩ := Option.map_eq_some_iff.1 (hm.symm.trans h)
  exact ⟨o, ho.symm⟩

theorem State.idleKind_tap {i : Nat} {p : Tap} {s : State} (h : (s.idleKind k).tap.taps.get i = some p) :
    ∃ q, p = if k.appliesTo .tap then
      { q with fault := q.fault.idle k, watchSum := if k = .leak then 0 else q.watchSum } else q := by
  have hm := Table.get_map s.tap.taps (fun _ q => if k.appliesTo .tap then
    { q with fault := q.fault.idle k, watchSum := if k = .leak then 0 else q.watchSum } else q) i
  obtain ⟨q, -, hq⟩ := Option.map_eq_some_iff.1 (hm.symm.trans h)
  exact ⟨q, hq.symm⟩

end

/-! ## PROTECTION LOAD (04 R81) -/

section
variable {fr : IntakeFrame} {f : ProtectionLoad} {k : FaultKind} {s : State}

/-- The protection action table with the entry of a load. -/
def State.entered (f : ProtectionLoad) (k : FaultKind) (s : State) : State :=
  { s with outlet := { s.outlet with protection := s.outlet.protection.set k (loadedEntry f k) } }

theorem protectionLoadAct_unlisted (h : f.kind = .unlisted) : protectionLoadAct fr f s = s.refuse fr .outOfRange := by
  simp only [protectionLoadAct, h]

variable (hk : f.kind = .known k)
include hk

theorem protectionLoadAct_badMethods (h : badMethods f k) : protectionLoadAct fr f s = s.refuse fr .outOfRange := by
  simp only [protectionLoadAct, hk, methodsBad_iff.2 h, if_true]

theorem protectionLoadAct_enabled (h : ¬badMethods f k) (he : (loadedEntry f k).enable = true) :
    protectionLoadAct fr f s = (s.entered f k).accept fr [] (.protection k (loadedEntry f k)) := by
  simp only [protectionLoadAct, hk, mt methodsBad_iff.1 h, storedEntry_eq, he, if_true]
  rfl

theorem protectionLoadAct_disabled (h : ¬badMethods f k) (he : (loadedEntry f k).enable = false) :
    protectionLoadAct fr f s =
      ((s.entered f k).idleKind k).accept fr [] (.protection k (loadedEntry f k)) := by
  simp only [protectionLoadAct, hk, mt methodsBad_iff.1 h, storedEntry_eq, he]
  rfl

end

/-- Settles O34: a refusal by kind or methods, else the entry is stored, and a disabled kind's detection state is
idle. -/
theorem protectionLoadStoresAnEntry : Obligations.ProtectionLoadStoresAnEntry := by
  intro f fr s h
  have run {ans : Answer} {effect : State} (ha : protectionLoadAct fr f (s.taken fr) = effect.answer fr ans) :
      exec (.protectionLoad (.fields f)) s = done fr ans effect := exec_of_takes rfl rfl h ha
  refine ⟨fun hk => run (protectionLoadAct_unlisted hk), fun k hk =>
    ⟨fun hb => run (protectionLoadAct_badMethods hk hb), fun hb he => run (protectionLoadAct_enabled hk hb he),
    fun hb he => ⟨run (protectionLoadAct_disabled hk hb he), fun i p hp => ?_, fun i p hp => ?_⟩,
    KindMap.get_set_self _ _ _, fun j hj => KindMap.get_set_ne _ _ hj⟩⟩
  · obtain ⟨o, rfl⟩ := State.idleKind_outlet hp
    refine ⟨?_, ?_, ?_, ?_⟩ <;> rintro rfl <;> rfl
  · obtain ⟨q, rfl⟩ := State.idleKind_tap hp
    refine ⟨?_, ?_⟩ <;> rintro rfl <;> rfl

end Sys2Proof.Machine
end

section
/-! SUPPORT. Trips, and what a detection does at an outlet or tap (04 R82, R83, R86). -/

namespace Sys2Proof.Machine

open Sys2Proof Sys2Proof.Claim

/-! ## Fault records -/

/-- A fault record whose overcurrent count is returned to 0. -/
def FaultRecord.uncounted (f : FaultRecord) : FaultRecord := { f with overCount := 0 }

section
variable (f : FaultRecord)

@[simp] theorem FaultRecord.uncounted_latches : f.uncounted.latches = f.latches := rfl
@[simp] theorem FaultRecord.uncounted_last : f.uncounted.last = f.last := rfl
@[simp] theorem FaultRecord.uncounted_trips : f.uncounted.trips = f.trips := rfl

end

/-- A fault record with other trip times. -/
def FaultRecord.withTrips (l : List Nat) (f : FaultRecord) : FaultRecord := { f with trips := l }

section
variable (l : List Nat) (f : FaultRecord)

@[simp] theorem FaultRecord.withTrips_latches : (f.withTrips l).latches = f.latches := rfl
@[simp] theorem FaultRecord.withTrips_last : (f.withTrips l).last = f.last := rfl
@[simp] theorem FaultRecord.withTrips_trips : (f.withTrips l).trips = l := rfl

end

/-- A fault record with a trip at the present moment. -/
def State.tripped (s : State) (f : FaultRecord) : FaultRecord := f.withTrips (tripsNow s f)

theorem FaultRecord.trip_eq (s : State) (f : FaultRecord) : f.trip s.now s.mgmt.config.tripWindow = s.tripped f := rfl

/-- The trips at the present moment rest on the clock, the configuration and the trip times alone. -/
theorem State.Leaves.tripsNow {s t : State} (h : s.Leaves t) {f g : FaultRecord} (hf : g.trips = f.trips) :
    tripsNow t g = tripsNow s f := by
  simp only [Claim.tripsNow, h.now, h.mgmt, hf]

/-- An outlet or tap with the last fault at the present moment (04 R73). -/
def State.lastFault (s : State) (k : FaultKind) (f : FaultRecord) : FaultRecord := { f with last := some (k, s.now) }

/-! ## An outlet cut off (03 R53) -/

/-- An outlet in a state without a session and without a place in the queue, with a fault record. -/
structure State.CutOff (i : Nat) (x : OutletState) (f : FaultRecord) (p : Outlet) (s : State) : Prop where
  get : s.outlet.outlets.get i = some p
  state : p.state = x
  session : p.session = none
  fault : p.fault = f
  queue : ∀ e ∈ s.outlet.queue, e.outlet ≠ i

section
variable {i : Nat} {o : Outlet} {s : State} (ho : s.outlet.outlets.get i = some o)
include ho

theorem State.vacate_cutOff (x : OutletState) (reason : Reason) : ∃ p,
    (s.vacate i x reason).CutOff i x o.fault.uncounted p ∧ p.reason = reason ∧
      (o.session = none → p.waiting = o.waiting) := by
  obtain ⟨w, he, hw⟩ : ∃ w, (s.endOutletSession i reason).outlet.outlets.get i =
      some { o with session := none, waiting := w } ∧ (o.session = none → w = o.waiting) := by
    cases hx : o.session with
    | none => exact ⟨o.waiting, by rw [State.endOutletSession_none ho hx, ho, ← hx], fun _ => rfl⟩
    | some x =>
      obtain ⟨w, he⟩ := State.endOutletSession_get ho reason
      exact ⟨w, he, fun h => (Option.some_ne_none x h).elim⟩
  obtain ⟨hp, -⟩ := State.vacate_onlyOutlet x he
  obtain ⟨-, hq⟩ := State.vacate_vacated ho x reason
  exact ⟨_, ⟨hp, rfl, rfl, rfl, hq⟩, rfl, hw⟩

/-! ## Trips of an outlet (04 R86) -/

theorem State.tripOutlet_out (hx : o.state = .outOfService) : s.tripOutlet i = s := by
  simp only [State.tripOutlet, ho, if_pos hx]

variable (hx : o.state ≠ .outOfService)
include hx

theorem State.tripOutlet_below (h : ¬s.mgmt.config.tripLimit ≤ (tripsNow s o.fault).length) :
    s.tripOutlet i = s.setOutlet i { o with fault := s.tripped o.fault } := by
  simp only [State.tripOutlet, ho, if_neg hx, FaultRecord.trip_eq]
  exact if_neg h

theorem State.tripOutlet_limit (h : s.mgmt.config.tripLimit ≤ (tripsNow s o.fault).length) :
    s.tripOutlet i = (s.setOutlet i { o with fault := s.tripped o.fault }).vacate i .outOfService .fault := by
  simp only [State.tripOutlet, ho, if_neg hx, FaultRecord.trip_eq]
  exact if_pos h

/-- A trip is recorded; at the limit the outlet goes out of service. -/
theorem State.tripOutlet_get : ∃ p, (s.tripOutlet i).outlet.outlets.get i = some p ∧
    p.fault.latches = o.fault.latches ∧ p.fault.last = o.fault.last ∧ p.fault.trips = tripsNow s o.fault ∧
    (s.mgmt.config.tripLimit ≤ (tripsNow s o.fault).length →
      p.state = .outOfService ∧ p.reason = .fault ∧ p.session = none) ∧
    (¬s.mgmt.config.tripLimit ≤ (tripsNow s o.fault).length →
      p = { o with fault := s.tripped o.fault }) := by
  by_cases h : s.mgmt.config.tripLimit ≤ (tripsNow s o.fault).length
  · obtain ⟨p, hc, hr, -⟩ := State.vacate_cutOff (s := s.setOutlet i { o with fault := s.tripped o.fault })
      (Table.get_set_self _ _ _) .outOfService .fault
    rw [State.tripOutlet_limit ho hx h]
    refine ⟨p, hc.get, ?_⟩
    rw [hc.fault]
    exact ⟨rfl, rfl, rfl, fun _ => ⟨hc.state, hr, hc.session⟩, fun hn => (hn h).elim⟩
  · rw [State.tripOutlet_below ho hx h]
    exact ⟨_, Table.get_set_self _ _ _, rfl, rfl, rfl, fun hl => (h hl).elim, fun _ => rfl⟩

omit ho hx in
theorem State.tripOutlet_queue (hq : ∀ e ∈ s.outlet.queue, e.outlet ≠ i) :
    ∀ e ∈ (s.tripOutlet i).outlet.queue, e.outlet ≠ i := by
  unfold State.tripOutlet
  split
  · exact hq
  · split
    · exact hq
    · dsimp only
      split
      · exact (State.vacate_vacated (s := s.setOutlet i _) (Table.get_set_self _ _ _) _ _).2
      · exact hq

end

/-! ## A detection at an outlet (04 R82) -/

section
variable {i : Nat} {k : FaultKind} {o : Outlet} {s : State} (ho : s.outlet.outlets.get i = some o)

/-- An outlet with the last fault, which latches nothing. -/
def State.noted (i : Nat) (k : FaultKind) (o : Outlet) (s : State) : State :=
  (s.setOutlet i { o with fault := s.lastFault k o.fault }).mark .outlet i

/-- The fault record of an outlet that latches. -/
def State.latchedFault (s : State) (k : FaultKind) (o : Outlet) : FaultRecord :=
  (s.lastFault k o.fault).setLatch k (s.protectionOf k).byTime (s.outletCondition o k) s.recoveryEnd

/-- An outlet that latches, its state as it was. -/
def State.latched (i : Nat) (k : FaultKind) (o : Outlet) (s : State) : State :=
  (s.setOutlet i { o with fault := s.latchedFault k o }).mark .outlet i

/-- An outlet that latches and is TRIPPED where it is in service. -/
def State.latchedOut (i : Nat) (k : FaultKind) (o : Outlet) (s : State) : State :=
  if o.state = .tripped ∨ o.state = .outOfService then s.latched i k o
  else (s.latched i k o).vacate i .tripped .fault

theorem State.detectOutlet_disabled (he : (s.protectionOf k).enable = false) : s.detectOutlet i k = s := by
  simp only [State.detectOutlet, he]
  rfl

include ho

theorem State.detectOutlet_latches (he : (s.protectionOf k).enable = true) (hl : (s.protectionOf k).latch = true) :
    s.detectOutlet i k =
      if o.fault.latches.get k = false ∧ (s.protectionOf k).count = true then (s.latchedOut i k o).tripOutlet i
      else s.latchedOut i k o := by
  have hs : s.latchedOut i k o = match o.state with
      | .tripped | .outOfService => s.latched i k o
      | .off | .ready | .waiting _ | .live => (s.latched i k o).vacate i .tripped .fault := by
    unfold State.latchedOut
    cases o.state <;> simp
  rw [hs]
  simp only [State.detectOutlet, he, hl, ho, if_true, Bool.not_true, Bool.and_eq_true, Bool.not_eq_true']
  rfl

theorem State.detectOutlet_cuts (he : (s.protectionOf k).enable = true) (hl : (s.protectionOf k).latch = false)
    (hc : (s.protectionOf k).cut = true) (hx : o.session ≠ none) : s.detectOutlet i k =
      (if (s.protectionOf k).count = true then ((s.noted i k o).vacate i .ready .fault).tripOutlet i
      else (s.noted i k o).vacate i .ready .fault).checkClosings i := by
  have hx := Option.isSome_iff_ne_none.2 hx
  simp only [State.detectOutlet, he, hl, ho, hc, hx, if_true, Bool.not_true, Bool.and_self]
  rfl

theorem State.detectOutlet_notes (he : (s.protectionOf k).enable = true) (hl : (s.protectionOf k).latch = false)
    (hc : (s.protectionOf k).cut = false ∨ o.session = none) : s.detectOutlet i k = s.noted i k o := by
  have hno : ((s.protectionOf k).cut && o.session.isSome) = false := by
    rcases hc with hc | hc <;> simp [hc]
  simp only [State.detectOutlet, he, hl, ho, hno, Bool.not_true]
  rfl

end

/-! ### What a detection leaves of the rest -/

section
variable {i : Nat} {k : FaultKind} {o : Outlet} {s before : State} (h : before.OnlyOutlet i s)
include h

theorem State.tripOutlet_only : before.OnlyOutlet i (s.tripOutlet i) := by
  unfold State.tripOutlet
  split
  · exact h
  · next o ho =>
    split
    · exact h
    · have hs := State.setOutlet_only (p := { o with fault := s.tripped o.fault }) h ho
      dsimp only
      split
      · exact State.vacate_only hs _ _
      · exact hs

theorem State.checkClosings_only : before.OnlyOutlet i (s.checkClosings i) := by
  unfold State.checkClosings
  split
  · exact h
  · split
    · exact State.vacate_only h _ _
    · exact h

variable (ho : s.outlet.outlets.get i = some o)
include ho

theorem State.noted_only : before.OnlyOutlet i (s.noted i k o) := State.mark_only (State.setOutlet_only h ho) _ _

theorem State.latchedOut_only : before.OnlyOutlet i (s.latchedOut i k o) := by
  have hs : before.OnlyOutlet i (s.latched i k o) := State.mark_only (State.setOutlet_only h ho) _ _
  unfold State.latchedOut
  split
  · exact hs
  · exact State.vacate_only hs _ _

end

section
variable {i : Nat} {k : FaultKind} {o : Outlet} {s : State} (ho : s.outlet.outlets.get i = some o)

theorem State.latchedOut_leaves (i : Nat) (k : FaultKind) (o : Outlet) (s : State) : s.Leaves (s.latchedOut i k o) := by
  have hs : s.Leaves (s.latched i k o) := State.mark_leaves _ _ (State.setOutlet_leaves _ _ (.refl s))
  unfold State.latchedOut
  split
  · exact hs
  · exact State.vacate_leaves _ _ _ hs

/-- An outlet that latches is TRIPPED, or stays OUT_OF_SERVICE; one in service ends its session. -/
theorem State.latchedOut_get (i : Nat) (k : FaultKind) (o : Outlet) (s : State) :
    ∃ p, (s.latchedOut i k o).outlet.outlets.get i = some p ∧
    p.fault.latches = o.fault.latches.set k true ∧ p.fault.last = some (k, s.now) ∧ p.fault.trips = o.fault.trips ∧
    p.state = (if o.state = .outOfService then .outOfService else .tripped) ∧
    (o.state ≠ .tripped → o.state ≠ .outOfService → p.session = none ∧ p.reason = .fault) := by
  have hg : (s.latched i k o).outlet.outlets.get i = some { o with fault := s.latchedFault k o } :=
    Table.get_set_self _ _ _
  unfold State.latchedOut
  split
  · next hx =>
    refine ⟨_, hg, rfl, rfl, rfl, ?_, fun ht hn => (hx.elim ht hn).elim⟩
    rcases hx with hx | hx <;> simp [hx]
  · next hx =>
    obtain ⟨ht, hn⟩ := not_or.1 hx
    obtain ⟨p, hc, hr, -⟩ := State.vacate_cutOff hg .tripped .fault
    exact ⟨p, hc.get, by rw [hc.fault]; rfl, by rw [hc.fault]; rfl, by rw [hc.fault]; rfl, by rw [hc.state, if_neg hn],
      fun _ _ => ⟨hc.session, hr⟩⟩

include ho

theorem State.detectOutlet_only : s.OnlyOutlet i (s.detectOutlet i k) := by
  cases he : (s.protectionOf k).enable with
  | false => rw [State.detectOutlet_disabled he]; exact .refl i s
  | true =>
    cases hl : (s.protectionOf k).latch with
    | true =>
      have hs := State.latchedOut_only (k := k) (.refl i s) ho
      rw [State.detectOutlet_latches ho he hl]
      split
      · exact State.tripOutlet_only hs
      · exact hs
    | false =>
      have hs := State.noted_only (k := k) (.refl i s) ho
      by_cases hc : (s.protectionOf k).cut = true ∧ o.session ≠ none
      · have hv := State.vacate_only hs .ready .fault
        rw [State.detectOutlet_cuts ho he hl hc.1 hc.2]
        refine State.checkClosings_only ?_
        split
        · exact State.tripOutlet_only hv
        · exact hv
      · rw [State.detectOutlet_notes ho he hl (by simpa [or_iff_not_imp_left] using hc)]
        exact hs

end

/-! ### A cut -/

section
variable {i : Nat} {k : FaultKind} {o p : Outlet} {f : FaultRecord} {x : OutletState} {s : State}

section
variable (h : s.CutOff i x f p)
include h

theorem State.CutOff.tripOutlet_below (hx : x ≠ .outOfService)
    (hb : ¬s.mgmt.config.tripLimit ≤ (tripsNow s f).length) :
    (s.tripOutlet i).CutOff i x (s.tripped f) { p with fault := s.tripped f } := by
  obtain ⟨hg, rfl, hn, rfl, hq⟩ := h
  refine ⟨?_, rfl, hn, rfl, State.tripOutlet_queue hq⟩
  rw [State.tripOutlet_below hg hx hb]
  exact Table.get_set_self _ _ _

theorem State.CutOff.tripOutlet_limit (hx : x ≠ .outOfService)
    (hl : s.mgmt.config.tripLimit ≤ (tripsNow s f).length) :
    ∃ q, (s.tripOutlet i).CutOff i .outOfService (s.tripped f).uncounted q ∧ q.reason = .fault := by
  obtain ⟨hg, rfl, hn, rfl, hq⟩ := h
  rw [State.tripOutlet_limit hg hx hl]
  obtain ⟨q, hc, hr, -⟩ := State.vacate_cutOff (s := s.setOutlet i { p with fault := s.tripped p.fault })
    (Table.get_set_self _ _ _) .outOfService .fault
  exact ⟨q, hc, hr⟩

end

/-- A READY outlet with its fourth closing waiting goes to OFF, another stays (log 20). -/
theorem State.CutOff.checkClosings (h : s.CutOff i .ready f p) (hf : f.uncounted = f) (hr : p.reason = .fault) :
    ∃ q x, (s.checkClosings i).CutOff i x f q ∧ (q.waiting.length < 4 → x = .ready ∧ q.reason = .fault) ∧
      (4 ≤ q.waiting.length → x = .off) := by
  by_cases hw : 4 ≤ p.waiting.length
  · obtain ⟨q, hc, -, hk⟩ := State.vacate_cutOff h.get .off (Config.closingsFullReason i s.now)
    rw [State.checkClosings_full h.get h.state hw]
    rw [h.fault, hf] at hc
    exact ⟨q, .off, hc, fun hlt => by rw [hk h.session] at hlt; omega, fun _ => rfl⟩
  · rw [State.checkClosings_room h.get (.inr (by omega))]
    exact ⟨p, .ready, h, fun _ => ⟨rfl, hr⟩, fun hge => absurd hge hw⟩

/-- An outlet whose session a detection cuts: READY, OFF where no closing has room (log 20), or OUT_OF_SERVICE at the
trip limit. -/
theorem State.detectOutlet_cutOff (ho : s.outlet.outlets.get i = some o) (he : (s.protectionOf k).enable = true)
    (hl : (s.protectionOf k).latch = false) (hc : (s.protectionOf k).cut = true) (hx : o.session ≠ none) :
    let limit := (s.protectionOf k).count = true ∧ s.mgmt.config.tripLimit ≤ (tripsNow s o.fault).length
    ∃ p x f, (s.detectOutlet i k).CutOff i x f p ∧ f.latches = o.fault.latches ∧ f.last = some (k, s.now) ∧
      f.trips = (if (s.protectionOf k).count = true then tripsNow s o.fault else o.fault.trips) ∧
      (limit → x = .outOfService ∧ p.reason = .fault) ∧
      (¬limit → p.waiting.length < 4 → x = .ready ∧ p.reason = .fault) ∧
      (¬limit → 4 ≤ p.waiting.length → x = .off) := by
  have hn : (s.noted i k o).outlet.outlets.get i = some { o with fault := s.lastFault k o.fault } :=
    Table.get_set_self _ _ _
  obtain ⟨p, hv, hr, -⟩ := State.vacate_cutOff hn .ready .fault
  have hlv : s.Leaves ((s.noted i k o).vacate i .ready .fault) :=
    State.vacate_leaves _ _ _ (State.mark_leaves _ _ (State.setOutlet_leaves _ _ (.refl s)))
  have ht : tripsNow ((s.noted i k o).vacate i .ready .fault) (s.lastFault k o.fault).uncounted = tripsNow s o.fault :=
    hlv.tripsNow rfl
  rw [State.detectOutlet_cuts ho he hl hc hx]
  cases hcount : (s.protectionOf k).count with
  | false =>
    obtain ⟨q, x, hq, hready, hoff⟩ := hv.checkClosings rfl hr
    exact ⟨q, x, _, hq, rfl, rfl, rfl, by simp, fun _ => hready, fun _ => hoff⟩
  | true =>
    by_cases hlim : s.mgmt.config.tripLimit ≤ (tripsNow s o.fault).length
    · obtain ⟨q, hq, hqr⟩ := hv.tripOutlet_limit (by decide) (by rw [ht, hlv.mgmt]; exact hlim)
      rw [if_pos rfl, State.checkClosings_room hq.get (.inl (by rw [hq.state]; decide))]
      exact ⟨q, _, _, hq, rfl, rfl, by simp [State.tripped, ht], fun _ => ⟨rfl, hqr⟩, fun h => (h ⟨rfl, hlim⟩).elim,
        fun h => (h ⟨rfl, hlim⟩).elim⟩
    · have hb := hv.tripOutlet_below (by decide) (by rw [ht, hlv.mgmt]; exact hlim)
      obtain ⟨q, x, hq, hready, hoff⟩ := hb.checkClosings rfl hr
      exact ⟨q, x, _, hq, rfl, rfl, by simp [State.tripped, ht], fun h => (hlim h.2).elim, fun _ => hready,
        fun _ => hoff⟩

end

/-- An outlet that latches: the latch is set, and the outlet TRIPPED, or OUT_OF_SERVICE at the trip limit. -/
theorem State.detectOutlet_latched {i : Nat} {k : FaultKind} {o : Outlet} {s : State}
    (ho : s.outlet.outlets.get i = some o) (he : (s.protectionOf k).enable = true)
    (hl : (s.protectionOf k).latch = true) :
    let counted := o.fault.latches.get k = false ∧ (s.protectionOf k).count = true
    let limit := counted ∧ s.mgmt.config.tripLimit ≤ (tripsNow s o.fault).length
    ∃ p, (s.detectOutlet i k).outlet.outlets.get i = some p ∧ p.fault.last = some (k, s.now) ∧
      p.fault.latches = o.fault.latches.set k true ∧ (o.state = .outOfService → p.state = .outOfService) ∧
      (o.state ≠ .outOfService → limit → p.state = .outOfService ∧ p.reason = .fault) ∧
      (o.state ≠ .outOfService → ¬limit → p.state = .tripped) ∧
      (o.state ≠ .tripped → o.state ≠ .outOfService → p.session = none ∧ p.reason = .fault) ∧
      (o.state ≠ .outOfService → counted → p.fault.trips = tripsNow s o.fault) := by
  obtain ⟨p, hp, hlatches, hlast, htrips, hstate, hend⟩ := State.latchedOut_get i k o s
  have hleaves := State.latchedOut_leaves i k o s
  rw [State.detectOutlet_latches ho he hl]
  by_cases hx : o.state = .outOfService
  · rw [State.tripOutlet_out hp (by rw [hstate, if_pos hx]), ite_self]
    exact ⟨p, hp, hlast, hlatches, fun _ => by rw [hstate, if_pos hx], fun hn => (hn hx).elim, fun hn => (hn hx).elim,
      hend, fun hn => (hn hx).elim⟩
  · rw [if_neg hx] at hstate
    by_cases hc : o.fault.latches.get k = false ∧ (s.protectionOf k).count = true
    · rw [if_pos hc]
      obtain ⟨q, hq, hqlatches, hqlast, hqtrips, hlimit, hbelow⟩ := State.tripOutlet_get hp (by rw [hstate]; decide)
      rw [hleaves.tripsNow htrips, hleaves.mgmt] at hlimit hbelow
      refine ⟨q, hq, hqlast.trans hlast, hqlatches.trans hlatches, fun h => (hx h).elim, fun _ h => ?_, fun _ h => ?_,
        fun ht _ => ?_, fun _ _ => hqtrips.trans (hleaves.tripsNow htrips)⟩
      · obtain ⟨hqx, hqr, -⟩ := hlimit h.2
        exact ⟨hqx, hqr⟩
      · rw [hbelow fun hl => h ⟨hc, hl⟩]
        exact hstate
      · by_cases hlim : s.mgmt.config.tripLimit ≤ (tripsNow s o.fault).length
        · obtain ⟨-, hqr, hqs⟩ := hlimit hlim
          exact ⟨hqs, hqr⟩
        · rw [hbelow hlim]
          exact hend ht hx
    · rw [if_neg hc]
      exact ⟨p, hp, hlast, hlatches, fun h => (hx h).elim, fun _ h => (hc h.1).elim, fun _ _ => hstate, hend,
        fun _ h => (hc h).elim⟩

/-- A detection at an outlet, by whether its entry latches, cuts or does neither. -/
theorem detectionActsAtAnOutlet : Claim.DetectionAtAnOutlet := by
  intro i k o s ho
  refine ⟨State.detectOutlet_disabled, fun he => ?_⟩
  have hothers := (State.detectOutlet_only (k := k) ho).others
  cases hl : (s.protectionOf k).latch with
  | true =>
    obtain ⟨p, hp, hlast, hlatches, hout, hlimit, htripped, hend, htrips⟩ := State.detectOutlet_latched ho he hl
    exact ⟨p, hp, hlast, hothers, fun _ => ⟨hlatches, hout, fun hx ⟨h1, h2, h3⟩ => hlimit hx ⟨⟨h1, h2⟩, h3⟩,
      fun hx hn => htripped hx fun ⟨⟨h1, h2⟩, h3⟩ => hn ⟨h1, h2, h3⟩, hend, fun hx h1 h2 => htrips hx ⟨h1, h2⟩⟩,
      fun h => (Bool.false_ne_true h.symm).elim⟩
  | false =>
    by_cases hc : (s.protectionOf k).cut = false ∨ o.session = none
    · rw [State.detectOutlet_notes ho he hl hc] at hothers ⊢
      exact ⟨_, Table.get_set_self _ _ _, rfl, hothers, fun h => (Bool.false_ne_true h).elim,
        fun _ => ⟨rfl, fun h hx => (hc.elim (by simp [h]) hx).elim, fun _ => rfl⟩⟩
    · obtain ⟨hcut, hx⟩ := not_or.1 hc
      obtain ⟨p, x, f, ⟨hg, rfl, hsession, rfl, hqueue⟩, hlatches, hlast, htrips, hlimit, hready, hoff⟩ :=
        State.detectOutlet_cutOff ho he hl (by simpa using hcut) hx
      have hstate : p.state = .outOfService ∨ p.state = .ready ∨ p.state = .off := by
        by_cases hlim : (s.protectionOf k).count = true ∧ s.mgmt.config.tripLimit ≤ (tripsNow s o.fault).length
        · exact .inl (hlimit hlim).1
        · exact .inr ((Nat.lt_or_ge p.waiting.length 4).imp (fun hw => (hready hlim hw).1) (hoff hlim))
      refine ⟨p, hg, hlast, hothers, fun h => (Bool.false_ne_true h).elim, fun _ => ⟨hlatches, fun _ _ => ⟨hsession,
        ?_, ?_, hqueue, fun hcount => by rw [htrips, if_pos hcount], fun hcount => by simp [htrips, hcount],
        hlimit, hready, hoff⟩, fun h => (hc h).elim⟩⟩
      · rcases hstate with h | h | h <;> simp [h]
      · rcases hstate with h | h | h <;> simp [h]

end Sys2Proof.Machine
end

section
/-! SUPPORT. What a detection does at a tap (04 R83, R86). -/

namespace Sys2Proof.Machine

open Sys2Proof Sys2Proof.Claim

/-! ## What an operation on one tap leaves of the rest -/

theorem State.OnlyTap.trans {i : Nat} {s t u : State} (h : s.OnlyTap i t) (k : t.OnlyTap i u) : s.OnlyTap i u :=
  ⟨k.outlet.trans h.outlet, fun j hj => (k.others j hj).trans (h.others j hj), k.ref.trans h.ref⟩

/-- A tap stored on its side, and marked. -/
theorem State.setTap_only {i : Nat} {q p : Tap} {s : State} (hq : s.tap.taps.get i = some q)
    (hr : p.ref = q.ref := by rfl) : s.OnlyTap i ((s.setTap i p).mark .tap i) :=
  ⟨rfl, fun _ hj => Table.get_set_ne _ _ hj, by simp [hq, hr]⟩

/-! ## A tap shut or locked (04 R83, 05 R98) -/

section
variable {i : Nat} {q : Tap} {s : State} (hq : s.tap.taps.get i = some q)

theorem State.lockTap_only (i : Nat) (s : State) : s.OnlyTap i (s.lockTap i) := by
  unfold State.lockTap
  split
  · exact .refl i s
  · next q hq =>
    split
    · exact State.shutTap_only _ _ _ _
    · exact State.setTap_only hq
    · exact .refl i s

include hq

/-- A tap shut keeps its fault record and its out-of-service mark. -/
theorem State.shutTap_record (x : TapState) (reason : Reason) : ∃ p,
    (s.shutTap i x reason).tap.taps.get i = some p ∧ p.state = x ∧ p.reason = reason ∧ p.session = none ∧
      p.fault = q.fault ∧ p.outOfService = q.outOfService := by
  obtain ⟨waiting, he⟩ := State.endTapSession_get hq reason
  unfold State.shutTap
  simp only [he]
  exact ⟨_, Table.get_set_self _ _ _, rfl, rfl, rfl, rfl, rfl⟩

theorem State.lockTap_locked (hx : q.state = .locked) : s.lockTap i = s := by simp only [State.lockTap, hq, hx]

/-- A tap that is locked keeps its fault record and its out-of-service mark. -/
theorem State.lockTap_get : ∃ p, (s.lockTap i).tap.taps.get i = some p ∧ p.state = .locked ∧ p.fault = q.fault ∧
    p.outOfService = q.outOfService ∧ (q.state ≠ .locked ∨ q.reason = .fault → p.reason = .fault) ∧
    (q.state = .opened ∨ q.session = none → p.session = none) := by
  cases hx : q.state with
  | opened =>
    obtain ⟨p, hp, hstate, hr, hs, hf, hm⟩ := State.shutTap_record hq .locked .fault
    exact ⟨p, by simpa only [State.lockTap, hq, hx] using hp, hstate, hf, hm, fun _ => hr, fun _ => hs⟩
  | closed =>
    refine ⟨{ q with state := .locked, reason := .fault }, ?_, rfl, rfl, rfl, fun _ => rfl,
      fun h => h.elim (fun h => by cases h) id⟩
    simp only [State.lockTap, hq, hx]
    exact Table.get_set_self _ _ _
  | locked =>
    rw [State.lockTap_locked hq hx]
    exact ⟨q, hq, hx, rfl, rfl, fun h => h.elim (fun h => (h rfl).elim) id, fun h => h.elim (fun h => by cases h) id⟩

/-! ## Trips of a tap (04 R86) -/

theorem State.tripTap_out (hm : q.outOfService = true) : s.tripTap i = s := by
  simp only [State.tripTap, hq, if_pos hm]

variable (hm : q.outOfService = false)
include hm

theorem State.tripTap_below (h : ¬s.mgmt.config.tripLimit ≤ (tripsNow s q.fault).length) :
    s.tripTap i = s.setTap i { q with fault := s.tripped q.fault } := by
  simp only [State.tripTap, hq, hm, FaultRecord.trip_eq]
  exact if_neg h

theorem State.tripTap_limit (h : s.mgmt.config.tripLimit ≤ (tripsNow s q.fault).length) : s.tripTap i =
    ((s.setTap i { q with fault := s.tripped q.fault, outOfService := true }).mark .tap i).lockTap i := by
  simp only [State.tripTap, hq, hm, FaultRecord.trip_eq]
  exact if_pos h

/-- A trip is recorded; at the limit the tap receives the out-of-service mark and is LOCKED. -/
theorem State.tripTap_get : ∃ p, (s.tripTap i).tap.taps.get i = some p ∧ p.fault = s.tripped q.fault ∧
    (s.mgmt.config.tripLimit ≤ (tripsNow s q.fault).length → p.state = .locked ∧ p.outOfService = true) ∧
    (¬s.mgmt.config.tripLimit ≤ (tripsNow s q.fault).length → p.state = q.state ∧ p.outOfService = false) ∧
    (q.session = none → p.session = none) ∧ (q.reason = .fault → p.reason = .fault) := by
  by_cases h : s.mgmt.config.tripLimit ≤ (tripsNow s q.fault).length
  · rw [State.tripTap_limit hq hm h]
    obtain ⟨p, hp, hstate, hf, hmark, hr, hs⟩ := State.lockTap_get
      (s := (s.setTap i { q with fault := s.tripped q.fault, outOfService := true }).mark .tap i)
      (Table.get_set_self _ _ _)
    exact ⟨p, hp, hf, fun _ => ⟨hstate, hmark⟩, fun hn => (hn h).elim, fun hx => hs (.inr hx), fun hx => hr (.inr hx)⟩
  · rw [State.tripTap_below hq hm h]
    exact ⟨_, Table.get_set_self _ _ _, rfl, fun hl => (h hl).elim, fun _ => ⟨rfl, hm⟩, id, id⟩

end

theorem State.tripTap_only (i : Nat) (s : State) : s.OnlyTap i (s.tripTap i) := by
  unfold State.tripTap
  split
  · exact .refl i s
  · next q hq =>
    split
    · exact .refl i s
    · dsimp only
      split
      · exact (State.setTap_only hq).trans (State.lockTap_only _ _)
      · exact ⟨rfl, fun _ hj => Table.get_set_ne _ _ hj, by simp [hq, Tap.ref]⟩

/-! ## A detection at a tap (04 R83) -/

section
variable {i : Nat} {k : FaultKind} {q : Tap} {s : State}

/-- A tap with the last fault, which latches nothing. -/
def State.notedTap (i : Nat) (k : FaultKind) (q : Tap) (s : State) : State :=
  (s.setTap i { q with fault := s.lastFault k q.fault }).mark .tap i

/-- The fault record of a tap that latches. -/
def State.latchedTapFault (s : State) (k : FaultKind) (q : Tap) : FaultRecord :=
  (s.lastFault k q.fault).setLatch k (s.protectionOf k).byTime (s.tapCondition q k) s.recoveryEnd

/-- A tap that latches and is LOCKED. -/
def State.latchedTap (i : Nat) (k : FaultKind) (q : Tap) (s : State) : State :=
  ((s.setTap i { q with fault := s.latchedTapFault k q }).mark .tap i).lockTap i

theorem State.detectTap_disabled (he : (s.protectionOf k).enable = false) : s.detectTap i k = s := by
  simp only [State.detectTap, he]
  rfl

section
variable (hq : s.tap.taps.get i = some q) (he : (s.protectionOf k).enable = true)
include hq he

theorem State.detectTap_latches (hl : (s.protectionOf k).latch = true) : s.detectTap i k =
    if q.fault.latches.get k = false ∧ (s.protectionOf k).count = true then (s.latchedTap i k q).tripTap i
    else s.latchedTap i k q := by
  simp only [State.detectTap, he, hl, hq, if_true, Bool.not_true, Bool.and_eq_true, Bool.not_eq_true']
  rfl

variable (hl : (s.protectionOf k).latch = false)
include hl

theorem State.detectTap_cuts (hc : (s.protectionOf k).cut = true) (hx : q.state = .opened) : s.detectTap i k =
    if (s.protectionOf k).count = true then ((s.notedTap i k q).shutTap i .closed .fault).tripTap i
    else (s.notedTap i k q).shutTap i .closed .fault := by
  have hcut : ((s.protectionOf k).cut && decide (q.state = .opened)) = true := by simp [hc, hx]
  simp only [State.detectTap, he, hl, hq, hcut, if_true, Bool.not_true]
  rfl

theorem State.detectTap_notes (hc : (s.protectionOf k).cut = false ∨ q.state ≠ .opened) :
    s.detectTap i k = s.notedTap i k q := by
  have hno : ((s.protectionOf k).cut && decide (q.state = .opened)) = false := by
    rcases hc with hc | hc <;> simp [hc]
  simp only [State.detectTap, he, hl, hq, hno, Bool.not_true]
  rfl

end

theorem State.detectTap_only (hq : s.tap.taps.get i = some q) : s.OnlyTap i (s.detectTap i k) := by
  cases he : (s.protectionOf k).enable with
  | false => rw [State.detectTap_disabled he]; exact .refl i s
  | true =>
    cases hl : (s.protectionOf k).latch with
    | true =>
      have hs : s.OnlyTap i (s.latchedTap i k q) := (State.setTap_only hq).trans (State.lockTap_only _ _)
      rw [State.detectTap_latches hq he hl]
      split
      · exact hs.trans (State.tripTap_only _ _)
      · exact hs
    | false =>
      have hs : s.OnlyTap i (s.notedTap i k q) := State.setTap_only hq
      by_cases hc : (s.protectionOf k).cut = false ∨ q.state ≠ .opened
      · rw [State.detectTap_notes hq he hl hc]
        exact hs
      · obtain ⟨hcut, hx⟩ := not_or.1 hc
        have hv := hs.trans (State.shutTap_only i .closed .fault _)
        rw [State.detectTap_cuts hq he hl (by simpa using hcut) (not_not.1 hx)]
        split
        · exact hv.trans (State.tripTap_only _ _)
        · exact hv

/-- A tap that latches is LOCKED; an OPEN one ends its session. -/
theorem State.latchedTap_get (i : Nat) (k : FaultKind) (q : Tap) (s : State) :
    ∃ p, (s.latchedTap i k q).tap.taps.get i = some p ∧ p.state = .locked ∧ p.fault = s.latchedTapFault k q ∧
      p.outOfService = q.outOfService ∧ (q.state ≠ .locked → p.reason = .fault) ∧
      (q.state = .opened → p.session = none) := by
  obtain ⟨p, hp, hstate, hf, hmark, hr, hs⟩ := State.lockTap_get
    (s := (s.setTap i { q with fault := s.latchedTapFault k q }).mark .tap i) (Table.get_set_self _ _ _)
  exact ⟨p, hp, hstate, hf, hmark, fun h => hr (.inl h), fun h => hs (.inl h)⟩

section
variable (hq : s.tap.taps.get i = some q) (he : (s.protectionOf k).enable = true)
include hq he

/-- A tap that latches is LOCKED, with the out-of-service mark at the trip limit. -/
theorem State.detectTap_latched (hl : (s.protectionOf k).latch = true) :
    let counted := q.fault.latches.get k = false ∧ (s.protectionOf k).count = true
    let limit := counted ∧ s.mgmt.config.tripLimit ≤ (tripsNow s q.fault).length
    ∃ p, (s.detectTap i k).tap.taps.get i = some p ∧ p.fault.last = some (k, s.now) ∧
      p.fault.latches = q.fault.latches.set k true ∧ p.state = .locked ∧ (q.state ≠ .locked → p.reason = .fault) ∧
      (q.state = .opened → p.session = none) ∧ (q.outOfService = true → p.outOfService = true) ∧
      (q.outOfService = false → (p.outOfService = true ↔ limit)) ∧
      (q.outOfService = false → counted → p.fault.trips = tripsNow s q.fault) := by
  obtain ⟨p, hp, hstate, hf, hmark, hr, hs⟩ := State.latchedTap_get i k q s
  have hleaves : s.Leaves (s.latchedTap i k q) :=
    State.lockTap_leaves _ (State.mark_leaves _ _ (State.setTap_leaves _ _ (.refl s)))
  have ht : tripsNow (s.latchedTap i k q) p.fault = tripsNow s q.fault := hleaves.tripsNow (by rw [hf]; rfl)
  have hlast : p.fault.last = some (k, s.now) := by rw [hf]; rfl
  have hlatches : p.fault.latches = q.fault.latches.set k true := by rw [hf]; rfl
  rw [State.detectTap_latches hq he hl]
  by_cases hm : q.outOfService = true
  · have hno : q.outOfService ≠ false := by simp [hm]
    rw [State.tripTap_out hp (hmark.trans hm), ite_self]
    exact ⟨p, hp, hlast, hlatches, hstate, hr, hs, fun _ => hmark.trans hm, fun h => (hno h).elim,
      fun h => (hno h).elim⟩
  · have hm' := hmark.trans (eq_false_of_ne_true hm)
    by_cases hc : q.fault.latches.get k = false ∧ (s.protectionOf k).count = true
    · obtain ⟨r, hg, hrf, hlimit, hbelow, hrs, hrr⟩ := State.tripTap_get hp hm'
      rw [ht, hleaves.mgmt] at hlimit hbelow
      rw [if_pos hc]
      refine ⟨r, hg, by rw [hrf]; exact hlast, by rw [hrf]; exact hlatches, ?_, fun h => hrr (hr h),
        fun h => hrs (hs h), fun h => (hm h).elim, fun _ => ⟨fun h => ⟨hc, ?_⟩, fun h => (hlimit h.2).2⟩,
        fun _ _ => by rw [hrf]; exact ht⟩
      · by_cases hlim : s.mgmt.config.tripLimit ≤ (tripsNow s q.fault).length
        · exact (hlimit hlim).1
        · exact (hbelow hlim).1.trans hstate
      · by_contra hlim
        exact Bool.false_ne_true ((hbelow hlim).2.symm.trans h)
    · rw [if_neg hc]
      refine ⟨p, hp, hlast, hlatches, hstate, hr, hs, fun h => (hm h).elim, fun _ => ?_, fun _ h => (hc h).elim⟩
      exact ⟨fun h => (Bool.false_ne_true (hm'.symm.trans h)).elim, fun h => (hc h.1).elim⟩

/-- An OPEN tap whose session a detection cuts: CLOSED, or LOCKED with the out-of-service mark at the trip limit. -/
theorem State.detectTap_shut (hl : (s.protectionOf k).latch = false) (hcut : (s.protectionOf k).cut = true)
    (hx : q.state = .opened) :
    let limit := (s.protectionOf k).count = true ∧ s.mgmt.config.tripLimit ≤ (tripsNow s q.fault).length
    ∃ p, (s.detectTap i k).tap.taps.get i = some p ∧ p.fault.last = some (k, s.now) ∧
      p.fault.latches = q.fault.latches ∧ p.session = none ∧ p.reason = .fault ∧
      (q.outOfService = false → (limit → p.state = .locked ∧ p.outOfService = true) ∧
        (¬limit → p.state = .closed ∧ p.outOfService = false) ∧
        ((s.protectionOf k).count = true → p.fault.trips = tripsNow s q.fault)) := by
  obtain ⟨p, hp, hstate, hr, hs, hf, hmark⟩ := State.shutTap_record (s := s.notedTap i k q)
    (q := { q with fault := s.lastFault k q.fault }) (Table.get_set_self _ _ _) .closed .fault
  have hmark : p.outOfService = q.outOfService := hmark
  have hleaves : s.Leaves ((s.notedTap i k q).shutTap i .closed .fault) :=
    State.shutTap_leaves _ _ _ (State.mark_leaves _ _ (State.setTap_leaves _ _ (.refl s)))
  have ht : tripsNow ((s.notedTap i k q).shutTap i .closed .fault) p.fault = tripsNow s q.fault :=
    hleaves.tripsNow (by rw [hf]; rfl)
  have hlast : p.fault.last = some (k, s.now) := by rw [hf]; rfl
  have hlatches : p.fault.latches = q.fault.latches := by rw [hf]; rfl
  rw [State.detectTap_cuts hq he hl hcut hx]
  by_cases hm : q.outOfService = true
  · rw [State.tripTap_out hp (hmark.trans hm), ite_self]
    exact ⟨p, hp, hlast, hlatches, hs, hr, fun h => (Bool.false_ne_true (h.symm.trans hm)).elim⟩
  · have hm' := hmark.trans (eq_false_of_ne_true hm)
    by_cases hc : (s.protectionOf k).count = true
    · obtain ⟨r, hg, hrf, hlimit, hbelow, hrs, hrr⟩ := State.tripTap_get hp hm'
      rw [ht, hleaves.mgmt] at hlimit hbelow
      rw [if_pos hc]
      refine ⟨r, hg, by rw [hrf]; exact hlast, by rw [hrf]; exact hlatches, hrs hs, hrr hr,
        fun _ => ⟨fun h => hlimit h.2, fun h => ?_, fun _ => by rw [hrf]; exact ht⟩⟩
      obtain ⟨hrx, hrm⟩ := hbelow fun hlim => h ⟨hc, hlim⟩
      exact ⟨hrx.trans hstate, hrm⟩
    · rw [if_neg hc]
      exact ⟨p, hp, hlast, hlatches, hs, hr,
        fun _ => ⟨fun h => (hc h.1).elim, fun _ => ⟨hstate, hm'⟩, fun h => (hc h).elim⟩⟩

end

end

/-- A detection at a tap, by whether its entry latches, cuts or does neither. -/
theorem detectionActsAtATap : Claim.DetectionAtATap := by
  intro i k q s hq
  refine ⟨State.detectTap_disabled, fun he => ?_⟩
  have hothers := (State.detectTap_only (k := k) hq).others
  cases hl : (s.protectionOf k).latch with
  | true =>
    obtain ⟨p, hp, hlast, hlatches, hstate, hr, hs, hout, hlimit, htrips⟩ := State.detectTap_latched hq he hl
    exact ⟨p, hp, hlast, hothers, fun _ => ⟨hlatches, hstate, hr, hs, hout,
      fun hm => (hlimit hm).trans and_assoc, fun hm h1 h2 => htrips hm ⟨h1, h2⟩⟩,
      fun h => (Bool.false_ne_true h.symm).elim⟩
  | false =>
    by_cases hc : (s.protectionOf k).cut = false ∨ q.state ≠ .opened
    · rw [State.detectTap_notes hq he hl hc] at hothers ⊢
      exact ⟨_, Table.get_set_self _ _ _, rfl, hothers, fun h => (Bool.false_ne_true h).elim,
        fun _ => ⟨rfl, fun h hx => (hc.elim (by simp [h]) fun hn => hn hx).elim, fun _ => rfl⟩⟩
    · obtain ⟨hcut, hx⟩ := not_or.1 hc
      obtain ⟨p, hp, hlast, hlatches, hs, hr, hrest⟩ :=
        State.detectTap_shut hq he hl (by simpa using hcut) (not_not.1 hx)
      exact ⟨p, hp, hlast, hothers, fun h => (Bool.false_ne_true h).elim,
        fun _ => ⟨hlatches, fun _ _ => ⟨hs, hr, hrest⟩, fun h => (hc h).elim⟩⟩

end Sys2Proof.Machine
end

section
/-! SUPPORT. What a reply shows of a fault at an outlet or tap (04 R73 to R78, R80). -/

namespace Sys2Proof.Machine

open Sys2Proof Sys2Proof.Claim

theorem mem_filter_faultKinds {p : FaultKind → Bool} {k : FaultKind} : k ∈ faultKinds.filter p ↔ p k = true := by
  simp [mem_faultKinds]

/-! ## The fault record a reply is examined with (04 R73) -/

/-- A fault record as a reply finds it: the re-basing one finds it started afresh. -/
def FaultRecord.atReply (fresh : Bool) (f : FaultRecord) : FaultRecord := if fresh then f.afresh else f

section
variable (fresh : Bool) (f : FaultRecord)

theorem FaultRecord.atReply_overCount : (f.atReply fresh).overCount = if fresh then 0 else f.overCount := by
  cases fresh <;> rfl

theorem FaultRecord.atReply_disagreeEnd : (f.atReply fresh).disagreeEnd = if fresh then none else f.disagreeEnd := by
  cases fresh <;> rfl

theorem FaultRecord.atReply_check : (f.atReply fresh).check = if fresh then none else f.check := by
  cases fresh <;> rfl

theorem FaultRecord.atReply_stuck : (f.atReply fresh).stuck = if fresh then 0 else f.stuck := by
  cases fresh <;> rfl

/-- Starting afresh leaves latches, trip times and last fault. -/
theorem FaultRecord.atReply_rest : (f.atReply fresh).latches = f.latches ∧ (f.atReply fresh).trips = f.trips ∧
    (f.atReply fresh).last = f.last := by
  cases fresh <;> exact ⟨rfl, rfl, rfl⟩

end

/-! ## Check points (04 R77) -/

/-- A check point is passed at one reply, and goes at the next. -/
theorem CheckPoint.reply_eq (c : CheckPoint) : c.reply = if c.count = 0 then some { c with count := 1 } else none := rfl

/-- A check point fails at the second reply where the readback differs; a re-basing reply finds none. -/
theorem FaultRecord.checkFails_iff {fresh : Bool} {f : FaultRecord} {readback : Bool} :
    (((f.atReply fresh).check.map (·.fails readback)).getD false) = true ↔
      fresh = false ∧ ∃ c, f.check = some c ∧ c.count ≠ 0 ∧ c.energised ≠ readback := by
  rw [FaultRecord.atReply_check]
  cases fresh with
  | true => simp
  | false => cases f.check <;> simp [CheckPoint.fails]

/-- The check point after a reply, where its kind is enabled. -/
theorem FaultRecord.checkAfter_eq (fresh on : Bool) (f : FaultRecord) :
    (if on then (f.atReply fresh).check.bind (·.reply) else none) = if fresh then none else if on then
      f.check.bind fun c => if c.count = 0 then some { c with count := 1 } else none else none := by
  rw [FaultRecord.atReply_check]
  cases fresh with
  | true => simp
  | false => rfl

/-! ## A reply at an outlet (04 R74 to R78) -/

section
variable (s : State) (o : Outlet) (x : SideStatus) (fresh jump : Bool)

/-- A reply adds to the overcurrent count: the outlet is LIVE above its threshold, and OVERCURRENT is enabled (04
R74). -/
def State.overReply : Bool := s.overThreshold o.rating x.current && decide (o.state = .live) && s.enabled .overcurrent

theorem State.overReply_iff : s.overReply o x = true ↔ o.rating * s.mgmt.config.overcurrentRatio < x.current * 100 ∧
    o.state = .live ∧ (s.protectionOf .overcurrent).enable = true := by
  simp [State.overReply, State.overThreshold, State.enabled, and_assoc]

/-- The overcurrent count at a reply, before it returns to 0 (04 R74). -/
def State.countAt : Nat := if s.overReply o x then (o.fault.atReply fresh).overCount + 1 else 0

/-- The count reaches 2 where it was 1 before the reply. -/
theorem State.two_le_countAt : 2 ≤ s.countAt o x fresh ↔
    s.overReply o x = true ∧ 1 ≤ if fresh then 0 else o.fault.overCount := by
  rw [State.countAt, FaultRecord.atReply_overCount]
  cases s.overReply o x <;> simp

/-- Whether a reply shows a kind detected at an outlet. -/
def State.outletShows (k : FaultKind) : Bool :=
  match k with
  | .overcurrent => decide (2 ≤ s.countAt o x fresh) || x.breaker && (fresh || !o.breaker)
  | .earthLeak => x.leakA && x.leakB && (!(o.fault.atReply fresh).latches.earthLeak || fresh || !(o.leakA && o.leakB))
  | .contactor => ((o.fault.atReply fresh).check.map (·.fails x.contactorClosed)).getD false
  | .meter => jump
  | .leakDisagree | .leak | .valve => false

theorem State.mem_examineOutlet (k : FaultKind) :
    k ∈ (s.examineOutlet o x fresh jump).2 ↔ s.outletShows o x fresh jump k = true :=
  mem_filter_faultKinds (p := s.outletShows o x fresh jump)

theorem State.outletShows_overcurrent : s.outletShows o x fresh jump .overcurrent = true ↔
    2 ≤ s.countAt o x fresh ∨ x.breaker = true ∧ (fresh = true ∨ o.breaker = false) := by
  simp [State.outletShows]

theorem State.outletShows_earthLeak : s.outletShows o x fresh jump .earthLeak = true ↔ x.leakA = true ∧
    x.leakB = true ∧ (o.fault.latches.earthLeak = false ∨ fresh = true ∨ o.leakA = false ∨ o.leakB = false) := by
  obtain ⟨hl, -, -⟩ := FaultRecord.atReply_rest fresh o.fault
  simp [State.outletShows, hl, and_assoc, or_assoc]

/-- The overcurrent count after a reply. -/
theorem State.examineOutlet_overCount : (s.examineOutlet o x fresh jump).1.overCount =
    if 2 ≤ s.countAt o x fresh then 0 else s.countAt o x fresh := rfl

theorem State.examineOutlet_overCount_above (h : s.overReply o x = true) :
    (s.examineOutlet o x fresh jump).1.overCount = if 1 ≤ (if fresh then 0 else o.fault.overCount) then 0 else 1 := by
  have hc : s.countAt o x fresh = (if fresh then 0 else o.fault.overCount) + 1 := by
    rw [State.countAt, if_pos h, FaultRecord.atReply_overCount]
  rw [State.examineOutlet_overCount, hc]
  generalize (if fresh then 0 else o.fault.overCount) = before
  split <;> split <;> omega

theorem State.examineOutlet_overCount_below (h : s.overReply o x = false) :
    (s.examineOutlet o x fresh jump).1.overCount = 0 := by
  simp [State.examineOutlet_overCount, State.countAt, h]

/-- The disagreement timer runs while exactly one leak channel is shown set, from the first such reply (04 R76). -/
theorem State.examineOutlet_disagreeEnd : (s.examineOutlet o x fresh jump).1.disagreeEnd =
    if (x.leakA != x.leakB) && s.enabled .leakDisagree then
      some ((if fresh then none else o.fault.disagreeEnd).getD (s.now + s.mgmt.config.disagreementTime * 1000))
    else none := by
  have hor : (o.fault.atReply fresh).disagreeEnd.or (some (s.now + s.mgmt.config.disagreementTime * 1000)) =
      some ((if fresh then none else o.fault.disagreeEnd).getD (s.now + s.mgmt.config.disagreementTime * 1000)) := by
    rw [Option.or_some, FaultRecord.atReply_disagreeEnd]
  rw [← hor]
  rfl

theorem State.examineOutlet_check : (s.examineOutlet o x fresh jump).1.check = if fresh then none else
    if (s.protectionOf .contactor).enable then
      (o.fault.check.bind fun c => if c.count = 0 then some { c with count := 1 } else none) else none :=
  FaultRecord.checkAfter_eq fresh (s.protectionOf .contactor).enable o.fault

end

/-- What a reply tells of an outlet, detection by detection. -/
theorem outletReplyIsExamined : Claim.OutletReplyIsExamined := by
  intro o x fresh jump s
  obtain ⟨hlatches, htrips, hlast⟩ := FaultRecord.atReply_rest fresh o.fault
  have habove := State.overReply_iff s o x
  have hstuck := FaultRecord.atReply_stuck fresh o.fault
  refine ⟨?_, fun h => ?_, fun h => ?_, ?_, fun hx he => ?_, fun h => ?_, ?_,
    State.examineOutlet_check s o x fresh jump, ?_, ?_, ?_, ?_, hlatches, htrips, hlast, fun h => ?_, fun h => ?_⟩
  · rw [State.mem_examineOutlet, State.outletShows_overcurrent, State.two_le_countAt, habove]
  · exact State.examineOutlet_overCount_above s o x fresh jump (habove.2 h)
  · exact State.examineOutlet_overCount_below s o x fresh jump (eq_false_of_ne_true (mt habove.1 h))
  · rw [State.mem_examineOutlet, State.outletShows_earthLeak]
  · rw [State.examineOutlet_disagreeEnd, if_pos]
    simpa [State.enabled, he] using hx
  · rw [State.examineOutlet_disagreeEnd, if_neg]
    simpa [State.enabled, ← or_iff_not_imp_left] using h
  · exact (State.mem_examineOutlet s o x fresh jump .contactor).trans FaultRecord.checkFails_iff
  · exact State.mem_examineOutlet s o x fresh jump .meter
  · exact fun h => Bool.false_ne_true ((State.mem_examineOutlet s o x fresh jump .leakDisagree).1 h)
  · exact fun h => Bool.false_ne_true ((State.mem_examineOutlet s o x fresh jump .leak).1 h)
  · exact fun h => Bool.false_ne_true ((State.mem_examineOutlet s o x fresh jump .valve).1 h)
  · exact hstuck.trans (if_pos h)
  · exact hstuck.trans (if_neg (by simp [h]))

/-! ## A reply at a tap (04 R77, R78, R80) -/

section
variable (s : State) (t : Tap) (x : SideStatus) (fresh jump : Bool) (q : Nat)

/-- The leak watch takes a reply: the valve is commanded closed, the delta stands, the settle time is over, and LEAK is
enabled (04 R80). -/
def State.watches : Bool := decide (t.state ≠ .opened) && !jump && !t.settling s.now && s.enabled .leak

/-- The watch sum at a reply, before it returns to 0 (04 R80). -/
def State.sumAt : Nat := if s.watches t jump then t.watchSum + q else if s.enabled .leak then t.watchSum else 0

/-- Whether a reply shows LEAK (04 R80; a lowered threshold by log 47). -/
def State.showsLeak : Bool := s.watches t jump && decide (s.mgmt.config.leakThreshold ≤ s.sumAt t jump q)

/-- Whether a reply shows a kind detected at a tap. -/
def State.tapShows (k : FaultKind) : Bool :=
  match k with
  | .meter => jump
  | .leak => s.showsLeak t jump q
  | .valve => ((t.fault.atReply fresh).check.map (·.fails x.valveOpen)).getD false
  | .overcurrent | .earthLeak | .leakDisagree | .contactor => false

theorem State.mem_examineTap (k : FaultKind) :
    k ∈ (s.examineTap t x fresh jump q).2.2 ↔ s.tapShows t x fresh jump q k = true :=
  mem_filter_faultKinds (p := s.tapShows t x fresh jump q)

theorem Tap.settling_eq_false_iff {now : Nat} {t : Tap} :
    t.settling now = false ↔ ∀ e, t.settleEnd = some e → e ≤ now := by
  unfold Tap.settling
  cases t.settleEnd <;> simp

theorem State.watches_iff : s.watches t jump = true ↔ t.state ≠ .opened ∧ jump = false ∧
    (∀ e, t.settleEnd = some e → e ≤ s.now) ∧ (s.protectionOf .leak).enable = true := by
  simp only [State.watches, Bool.and_eq_true, Bool.not_eq_true', decide_eq_true_eq, Tap.settling_eq_false_iff,
    and_assoc]
  rfl

theorem State.showsLeak_iff : s.showsLeak t jump q = true ↔
    s.watches t jump = true ∧ s.mgmt.config.leakThreshold ≤ t.watchSum + q := by
  rw [State.showsLeak, State.sumAt]
  cases s.watches t jump <;> simp

/-- The watch sum after a reply. -/
theorem State.examineTap_sum : (s.examineTap t x fresh jump q).2.1 =
    if s.showsLeak t jump q then 0 else s.sumAt t jump q := rfl

theorem State.examineTap_sum_watched (h : s.watches t jump = true) : (s.examineTap t x fresh jump q).2.1 =
    if s.mgmt.config.leakThreshold ≤ t.watchSum + q then 0 else t.watchSum + q := by
  simp [State.examineTap_sum, State.showsLeak_iff, State.sumAt, h]

theorem State.examineTap_sum_unwatched (h : s.watches t jump = false) : (s.examineTap t x fresh jump q).2.1 =
    if (s.protectionOf .leak).enable then t.watchSum else 0 := by
  have hleak : s.showsLeak t jump q = false := by simp [State.showsLeak, h]
  have hsum : s.sumAt t jump q = if (s.protectionOf .leak).enable then t.watchSum else 0 := by
    rw [State.sumAt, h]
    rfl
  rw [State.examineTap_sum, hleak, hsum]
  rfl

theorem State.examineTap_check : (s.examineTap t x fresh jump q).1.check = if fresh then none else
    if (s.protectionOf .valve).enable then
      (t.fault.check.bind fun c => if c.count = 0 then some { c with count := 1 } else none) else none :=
  FaultRecord.checkAfter_eq fresh (s.protectionOf .valve).enable t.fault

/-- A reply shows no kind of outlets alone at a tap. -/
theorem State.tapShows_kind {k : FaultKind} (h : s.tapShows t x fresh jump q k = true) :
    k = .leak ∨ k = .valve ∨ k = .meter := by
  cases k with
  | meter | leak | valve => simp
  | overcurrent | earthLeak | leakDisagree | contactor => exact (Bool.false_ne_true h).elim

end

/-- What a reply tells of a tap, detection by detection. -/
theorem tapReplyIsExamined : Claim.TapReplyIsExamined := by
  intro t x fresh jump q s
  obtain ⟨hlatches, htrips, hlast⟩ := FaultRecord.atReply_rest fresh t.fault
  have hwatches := State.watches_iff s t jump
  refine ⟨?_, fun h => State.examineTap_sum_watched s t x fresh jump q (hwatches.2 h), fun h he => ?_, fun he => ?_, ?_,
    State.examineTap_check s t x fresh jump q, State.mem_examineTap s t x fresh jump q .meter,
    fun k hk => State.tapShows_kind s t x fresh jump q ((State.mem_examineTap s t x fresh jump q k).1 hk),
    decide_eq_true_iff, hlatches, htrips, hlast⟩
  · rw [State.mem_examineTap, ← hwatches]
    exact State.showsLeak_iff s t jump q
  · rw [State.examineTap_sum_unwatched s t x fresh jump q (eq_false_of_ne_true (mt hwatches.1 h)), if_pos he]
  · have hno : s.watches t jump = false := by
      refine eq_false_of_ne_true fun h => ?_
      obtain ⟨-, -, -, hon⟩ := hwatches.1 h
      exact he hon
    rw [State.examineTap_sum_unwatched s t x fresh jump q hno, if_neg he]
  · exact (State.mem_examineTap s t x fresh jump q .valve).trans FaultRecord.checkFails_iff

/-- Settles O36, from its four parts. -/
theorem detectionAtAnOutlet : Obligations.DetectionAtAnOutlet :=
  ⟨detectionActsAtAnOutlet, detectionActsAtATap, outletReplyIsExamined, tapReplyIsExamined⟩

end Sys2Proof.Machine
end

section
/-! SUPPORT. Latches cleared at an outlet or tap, and the evaluation that follows (04 R84). -/

namespace Sys2Proof.Machine

open Sys2Proof Sys2Proof.Claim

/-! ## Fault records with latches cleared (04 R84) -/

section
variable {named : FaultKind → Bool} {f : FaultRecord}

theorem FaultRecord.clear_latches (named : FaultKind → Bool) (f : FaultRecord) (k : FaultKind) :
    (f.clear named).latches.get k = (f.latches.get k && !named k) := KindMap.get_of _ k

/-- A clear changes the latches where a set one is named. -/
theorem FaultRecord.clear_latches_eq_iff :
    (f.clear named).latches = f.latches ↔ ¬∃ k, named k = true ∧ f.latches.get k = true := by
  constructor
  · rintro h ⟨k, hn, hk⟩
    have := FaultRecord.clear_latches named f k
    rw [h, hk, hn] at this
    cases this
  · refine fun h => KindMap.ext_get fun k => ?_
    rw [FaultRecord.clear_latches]
    cases hn : named k with
    | false => simp
    | true => simpa using fun hk => h ⟨k, hn, hk⟩

/-- A fault record with named latches cleared: where none is set, the record is left. -/
def FaultRecord.cleared (named : FaultKind → Bool) (f : FaultRecord) : FaultRecord :=
  if (f.clear named).latches = f.latches then f else f.clear named

theorem FaultRecord.cleared_same (h : (f.clear named).latches = f.latches) : f.cleared named = f := if_pos h

theorem FaultRecord.cleared_changed (h : (f.clear named).latches ≠ f.latches) : f.cleared named = f.clear named :=
  if_neg h

theorem FaultRecord.cleared_latches (named : FaultKind → Bool) (f : FaultRecord) (k : FaultKind) :
    (f.cleared named).latches.get k = (f.latches.get k && !named k) := by
  rw [← FaultRecord.clear_latches]
  unfold FaultRecord.cleared
  split
  · next h => rw [h]
  · rfl

/-- A recovery timer that does not run is not started by a clear. -/
theorem FaultRecord.cleared_recovery {k : FaultKind} (h : f.recovery.get k = none) :
    (f.cleared named).recovery.get k = none := by
  unfold FaultRecord.cleared
  split
  · exact h
  · exact (KindMap.get_of _ k).trans (by simp [h])

end

/-! ## An outlet in OFF evaluated (03 R53) -/

section
variable {i : Nat} {o : Outlet} {reason : Reason} {s : State}

/-- Attempts leave the fault record of every outlet. -/
theorem State.flushAttempts_fault (i : Nat) (s : State) : (s.flushAttempts.outlet.outlets.get i).map Outlet.fault =
    (s.outlet.outlets.get i).map Outlet.fault := by
  refine State.flushAttempts_induction
    (P := fun u => (u.outlet.outlets.get i).map Outlet.fault = (s.outlet.outlets.get i).map Outlet.fault)
    (fun _ _ h => h) ?_ rfl
  rintro u f e o fd n ⟨⟨a, b, -, ho, -⟩, -⟩ hu
  by_cases hi : i = e.outlet
  · rw [← hu, hi, State.grantOutlet_get, ho]
    rfl
  · rw [(State.grantOutlet_only (.refl _ u) ho _ n).others i hi, hu]

variable (ho : s.outlet.outlets.get i = some o)
include ho

theorem State.flushAttempts_get : ∃ p, s.flushAttempts.outlet.outlets.get i = some p ∧ p.fault = o.fault ∧
    (p.state = o.state ∨ serving p.state) := by
  obtain ⟨p, hp, -, hx⟩ := State.flushAttempts_raises i s o ho
  have hf := State.flushAttempts_fault i s
  rw [hp, ho] at hf
  exact ⟨p, hp, Option.some.inj hf, hx⟩

theorem State.admissionCheck_fault :
    ∃ p, (s.admissionCheck i).outlet.outlets.get i = some p ∧ p.fault = o.fault := by
  unfold State.admissionCheck
  simp only [ho]
  split
  · split
    · exact ⟨_, State.grantOutlet_get _ _ _ _ _, rfl⟩
    · rw [State.writeImage_outlet, State.enqueue_outlets]
      exact ⟨_, Table.get_set_self _ _ _, rfl⟩
  · exact ⟨o, ho, rfl⟩

variable (hx : o.state = .off)
include hx

theorem State.evalOutlet_fault :
    ∃ p, (s.evalOutlet i reason).outlet.outlets.get i = some p ∧ p.fault = o.fault := by
  cases he : s.outletEligible o with
  | false => exact ⟨o, by rwa [State.evalOutlet_off ho he hx], rfl⟩
  | true =>
    have hr : (s.readied i o).outlet.outlets.get i = some { o with state := .ready, reason := .eligible } :=
      Table.get_set_self _ _ _
    by_cases hp : o.plug = .present
    · rw [State.evalOutlet_plugged ho he hx hp]
      obtain ⟨p, hg, hf⟩ := State.admissionCheck_fault hr
      exact ⟨p, hg, hf⟩
    · rw [State.evalOutlet_unplugged ho he hx hp]
      exact ⟨_, hr, rfl⟩

/-- An outlet in OFF that is evaluated keeps its fault record and stays in OFF or comes into use, the latter where it is
eligible. -/
theorem State.evalAndFlush_off : ∃ p, (s.evalAndFlush i reason).outlet.outlets.get i = some p ∧ p.fault = o.fault ∧
    (p.state = .off ∨ serving p.state) ∧ (s.outletEligible o = true → serving p.state) := by
  obtain ⟨q, hq, hf⟩ := State.evalOutlet_fault (reason := reason) ho hx
  obtain ⟨p, hp, hpf, hpx⟩ := State.flushAttempts_get hq
  refine ⟨p, hp, hpf.trans hf, ?_⟩
  cases he : s.outletEligible o with
  | false =>
    rw [State.evalOutlet_off ho he hx, ho] at hq
    obtain rfl := Option.some.inj hq
    exact ⟨hpx.imp (fun h => h.trans hx) id, fun h => (Bool.false_ne_true h).elim⟩
  | true =>
    obtain ⟨r, hr, -, hrx⟩ := State.evalOutlet_raises (reason := reason) ho he hx
    obtain rfl := Option.some.inj (hq.symm.trans hr)
    have hpx : serving p.state := hpx.elim (fun h => h ▸ hrx) id
    exact ⟨.inr hpx, fun _ => hpx⟩

/-- An outlet in OFF that is not eligible stays as it is where no attempt awaits. -/
theorem State.evalAndFlush_idle (he : s.outletEligible o = false) (ha : s.outlet.attempts = []) :
    s.evalAndFlush i reason = s := by
  rw [State.evalAndFlush, State.evalOutlet_off ho he hx, State.flushAttempts_nil ha]

end

/-! ## Latches cleared at an outlet (04 R84) -/

section
variable {i : Nat} {named : FaultKind → Bool} {o : Outlet} {s : State} (ho : s.outlet.outlets.get i = some o)

/-- An outlet with a fault record. -/
def State.refaulted (i : Nat) (o : Outlet) (f : FaultRecord) (s : State) : State :=
  (s.setOutlet i { o with fault := f }).mark .outlet i

/-- An outlet that recovers to OFF with a fault record, before its evaluation. -/
def State.recovered (i : Nat) (o : Outlet) (f : FaultRecord) (s : State) : State :=
  ((s.refaulted i o f).setOutlet i { o with fault := f, state := .off, reason := .recovered }).writeImage o.address

theorem State.recovered_get (i : Nat) (o : Outlet) (f : FaultRecord) (s : State) :
    (s.recovered i o f).outlet.outlets.get i = some { o with fault := f, state := .off, reason := .recovered } :=
  Table.get_set_self _ _ _

theorem State.recovered_leaves (i : Nat) (o : Outlet) (f : FaultRecord) (s : State) : s.Leaves (s.recovered i o f) :=
  State.writeImage_leaves _ (State.setOutlet_leaves _ _ (State.mark_leaves _ _ (State.setOutlet_leaves _ _ (.refl s))))

include ho

theorem State.clearOutlet_same (h : (o.fault.clear named).latches = o.fault.latches) : s.clearOutlet i named = s := by
  simp only [State.clearOutlet, ho, if_pos h]

variable (h : (o.fault.clear named).latches ≠ o.fault.latches)
include h

theorem State.clearOutlet_refaults (hx : o.state ≠ .tripped ∨ ¬noLatch (o.fault.clear named).latches) :
    s.clearOutlet i named = s.refaulted i o (o.fault.clear named) := by
  have hno : (decide (o.state = .tripped) && !(o.fault.clear named).latches.any) = false := by
    rcases hx with hx | hx
    · simp [hx]
    · simpa using fun _ => eq_true_of_ne_false (mt KindMap.any_eq_false_iff.1 hx)
  simp only [State.clearOutlet, ho, if_neg h, hno]
  rfl

theorem State.clearOutlet_recovers (hx : o.state = .tripped) (hl : noLatch (o.fault.clear named).latches) :
    s.clearOutlet i named = (s.recovered i o (o.fault.clear named)).evalAndFlush i .fault := by
  have hyes : (decide (o.state = .tripped) && !(o.fault.clear named).latches.any) = true := by
    simp [hx, KindMap.any_eq_false_iff.2 hl]
  simp only [State.clearOutlet, ho, if_neg h, hyes, if_true]
  rfl

/-- A TRIPPED outlet left without a latch is evaluated in OFF. -/
theorem State.clearOutlet_evaluates (hx : o.state = .tripped) (hl : noLatch (o.fault.clear named).latches) :
    let r : Outlet := { o with fault := o.fault.clear named, state := .off, reason := .recovered }
    ∃ p, (s.clearOutlet i named).outlet.outlets.get i = some p ∧
      (s.outletEligible r = false → s.outlet.attempts = [] → p = r) ∧
      (s.outletEligible r = true → serving p.state) := by
  intro r
  have hr := State.recovered_get i o (o.fault.clear named) s
  have he := (State.recovered_leaves i o (o.fault.clear named) s).outletEligible r
  obtain ⟨p, hp, -, -, hserves⟩ := State.evalAndFlush_off (reason := .fault) hr rfl
  rw [State.clearOutlet_recovers ho h hx hl]
  refine ⟨p, hp, fun hno ha => ?_, fun hyes => hserves (he.trans hyes)⟩
  rw [State.evalAndFlush_idle hr rfl (he.trans hno) ha, hr] at hp
  exact (Option.some.inj hp).symm

omit h in
/-- What a clear makes of an outlet: a TRIPPED one left without a latch is in OFF or in use, another stays. -/
theorem State.clearOutlet_get : ∃ p, (s.clearOutlet i named).outlet.outlets.get i = some p ∧
    p.fault = o.fault.cleared named ∧
    (o.state ≠ .tripped ∨ ¬noLatch p.fault.latches → p.state = o.state ∧ p.session = o.session) ∧
    (o.state = .tripped → noLatch p.fault.latches → (o.fault.clear named).latches ≠ o.fault.latches →
      p.state = .off ∨ serving p.state) := by
  by_cases h : (o.fault.clear named).latches = o.fault.latches
  · rw [State.clearOutlet_same ho h, FaultRecord.cleared_same h]
    exact ⟨o, ho, rfl, fun _ => ⟨rfl, rfl⟩, fun _ _ hn => (hn h).elim⟩
  · rw [FaultRecord.cleared_changed h]
    by_cases hx : o.state ≠ .tripped ∨ ¬noLatch (o.fault.clear named).latches
    · rw [State.clearOutlet_refaults ho h hx]
      exact ⟨_, Table.get_set_self _ _ _, rfl, fun _ => ⟨rfl, rfl⟩,
        fun ht hl => (hx.elim (· ht) (· hl)).elim⟩
    · obtain ⟨ht, hl⟩ := not_or.1 hx
      rw [State.clearOutlet_recovers ho h (not_not.1 ht) (not_not.1 hl)]
      obtain ⟨p, hp, hf, hpx, -⟩ := State.evalAndFlush_off (reason := .fault)
        (State.recovered_get i o (o.fault.clear named) s) rfl
      have hf : p.fault = o.fault.clear named := hf
      exact ⟨p, hp, hf, fun hor => (hx (by rwa [hf] at hor)).elim, fun _ _ _ => hpx⟩

end

/-! ## Latches cleared at a tap (04 R84) -/

section
variable {i : Nat} {named : FaultKind → Bool} {q : Tap} {s : State} (hq : s.tap.taps.get i = some q)

/-- A tap with latches cleared: a LOCKED one left with none and without the mark is CLOSED. -/
def Tap.cleared (named : FaultKind → Bool) (q : Tap) : Tap :=
  let t := { q with fault := q.fault.clear named }
  if q.state = .locked ∧ t.fault.latches.any = false ∧ q.outOfService = false then
    { t with state := .closed, reason := .recovered }
  else t
include hq

theorem State.clearTap_same (h : (q.fault.clear named).latches = q.fault.latches) : s.clearTap i named = s := by
  simp only [State.clearTap, hq, if_pos h]

theorem State.clearTap_changed (h : (q.fault.clear named).latches ≠ q.fault.latches) :
    s.clearTap i named = (s.setTap i (q.cleared named)).mark .tap i := by
  simp only [State.clearTap, hq, if_neg h, Tap.cleared, Bool.and_eq_true,
    decide_eq_true_eq, Bool.not_eq_true', and_assoc]

/-- What a clear makes of a tap. -/
theorem State.clearTap_get : ∃ p, (s.clearTap i named).tap.taps.get i = some p ∧ p.fault = q.fault.cleared named ∧
    (q.state ≠ .locked ∨ ¬noLatch p.fault.latches → p.state = q.state) ∧
    (q.state = .locked → noLatch p.fault.latches → (q.fault.clear named).latches ≠ q.fault.latches →
      q.outOfService = false → p.state = .closed ∧ p.reason = .recovered) := by
  by_cases h : (q.fault.clear named).latches = q.fault.latches
  · rw [State.clearTap_same hq h, FaultRecord.cleared_same h]
    exact ⟨q, hq, rfl, fun _ => rfl, fun _ _ hn => (hn h).elim⟩
  · rw [State.clearTap_changed hq h, FaultRecord.cleared_changed h]
    refine ⟨_, Table.get_set_self _ _ _, ?_⟩
    unfold Tap.cleared
    dsimp only
    split
    · next hc =>
      obtain ⟨hx, hl, -⟩ := hc
      exact ⟨rfl, fun hor => (hor.elim (· hx) (· (KindMap.any_eq_false_iff.1 hl))).elim, fun _ _ _ _ => ⟨rfl, rfl⟩⟩
    · next hc =>
      exact ⟨rfl, fun _ => rfl, fun hx hl _ hm => (hc ⟨hx, KindMap.any_eq_false_iff.2 hl, hm⟩).elim⟩

end

end Sys2Proof.Machine
end

section
/-! SUPPORT. CLEAR FAULT, RETURN TO SERVICE and BY_UNPLUG (04 R84, R85, R87). -/

namespace Sys2Proof.Machine

open Sys2Proof Sys2Proof.Claim

/-! ## What the conditions and the entries rest on (04 R73, R81) -/

section
variable (fr : IntakeFrame) (s : State)

theorem State.taken_outletCondition (o : Outlet) : (s.taken fr).outletCondition o = s.outletCondition o := by
  unfold State.taken
  split <;> rfl

theorem State.taken_tapCondition (q : Tap) : (s.taken fr).tapCondition q = s.tapCondition q := rfl

theorem State.protectionOf_byCommand (k : FaultKind) :
    (s.protectionOf k).byCommand = (s.outlet.protection.get k).byCommand := by
  cases k <;> rfl

theorem State.protectionOf_byUnplug (k : FaultKind) :
    (s.protectionOf k).byUnplug = (s.outlet.protection.get k).byUnplug := by
  cases k <;> rfl

end

/-! ## The checks of CLEAR FAULT (04 R85) -/

section
variable {fr : IntakeFrame} {f : ClearFault} {t : Target} {k : FaultKind} {s : State} {latches : KindMap Bool}
  {condition : FaultKind → Bool}

theorem clearNames_iff : clearNames f k = true ↔ names f k := by
  unfold clearNames names
  split
  · next h => simp [h]
  · next x h => simp [h, eq_comm]
  · next h => simp [h]

theorem clearKindOk_iff : clearKindOk f t = true ↔
    f.kind ≠ some .unlisted ∧ ∀ k, f.kind = some (.known k) → k.appliesTo t = true := by
  unfold clearKindOk
  split
  · next h => simp [h]
  · next x h => simp [h, applies]
  · next h => simp [h]

/-- A set latch of a named kind with a property. -/
theorem any_namedLatch_iff {p : FaultKind → Bool} :
    (faultKinds.filter fun k => clearNames f k && latches.get k).any p = true ↔
      ∃ k, names f k ∧ latches.get k = true ∧ p k = true := by
  simp [mem_faultKinds, clearNames_iff, and_assoc]

theorem State.clearRefusal_notPermitted (h : notByCommand f latches s) :
    s.clearRefusal (clearNames f) latches condition = some .notPermitted := by
  obtain ⟨k, hn, hl, hc⟩ := h
  have hany := (any_namedLatch_iff (f := f) (latches := latches) (p := fun k => !(s.protectionOf k).byCommand)).2
    ⟨k, hn, hl, by simp [State.protectionOf_byCommand, hc]⟩
  simp only [State.clearRefusal, hany, if_true]

variable (h : ¬notByCommand f latches s)
include h

theorem State.clearRefusal_permitted : s.clearRefusal (clearNames f) latches condition =
    if (faultKinds.filter fun k => clearNames f k && latches.get k).any condition then some .conditionPresent
    else none := by
  have hany := mt (any_namedLatch_iff (f := f) (latches := latches) (p := fun k => !(s.protectionOf k).byCommand)).1
    fun ⟨k, hn, hl, hc⟩ => h ⟨k, hn, hl, by simpa [State.protectionOf_byCommand] using hc⟩
  simp only [State.clearRefusal, hany, Bool.false_eq_true, if_false]

theorem State.clearRefusal_conditionPresent (hc : conditionStands (names f) latches condition) :
    s.clearRefusal (clearNames f) latches condition = some .conditionPresent := by
  rw [State.clearRefusal_permitted h, if_pos (any_namedLatch_iff.2 hc)]

theorem State.clearRefusal_none (hc : ¬conditionStands (names f) latches condition) :
    s.clearRefusal (clearNames f) latches condition = none := by
  rw [State.clearRefusal_permitted h, if_neg (mt any_namedLatch_iff.1 hc)]

end

/-! ## CLEAR FAULT (04 R85) -/

section
variable {fr : IntakeFrame} {f : ClearFault} {t : Target} {o p : Outlet} {q r : Tap} {c : ReasonCode} {s : State}

theorem clearFaultAct_unlisted (h : f.target = .unlisted) : clearFaultAct fr f s = s.refuse fr .outOfRange := by
  simp only [clearFaultAct, h]

theorem clearFaultAct_unchecked (ht : f.target = .known t) (h : ¬(indexOk f.index && clearKindOk f t) = true) :
    clearFaultAct fr f s = s.refuse fr .outOfRange := by
  simp only [clearFaultAct, ht, eq_false_of_ne_true h, Bool.not_false, if_true]

/-- A CLEAR FAULT of a target, an index or a kind it cannot name is refused. -/
theorem clearFaultAct_outOfRange (h : f.target = .unlisted ∨ ¬(1 ≤ f.index ∧ f.index ≤ 48) ∨ f.kind = some .unlisted ∨
    ∃ t k, f.target = .known t ∧ f.kind = some (.known k) ∧ k.appliesTo t = false) :
    clearFaultAct fr f s = s.refuse fr .outOfRange := by
  cases ht : f.target with
  | unlisted => exact clearFaultAct_unlisted ht
  | known t =>
    refine clearFaultAct_unchecked ht fun hok => ?_
    obtain ⟨hi, hk⟩ := Bool.and_eq_true_iff.1 hok
    obtain ⟨hlisted, happlies⟩ := clearKindOk_iff.1 hk
    obtain h | h | h | ⟨u, k, hu, hf, hno⟩ := h
    · rw [ht] at h; cases h
    · exact h (indexOk_iff.1 hi)
    · exact hlisted h
    · obtain rfl : t = u := by rw [ht] at hu; cases hu; rfl
      exact Bool.false_ne_true (hno.symm.trans (happlies k hf))

section
variable (ht : f.target = .known .outlet) (hok : (indexOk f.index && clearKindOk f .outlet) = true)
include ht hok

theorem clearFaultAct_outletNotFound (ho : s.outlet.outlets.get f.index = none) :
    clearFaultAct fr f s = s.refuse fr .notFound := by
  simp only [clearFaultAct, ht, hok, ho]
  rfl

variable (ho : s.outlet.outlets.get f.index = some o)
include ho

theorem clearFaultAct_outletOut (hx : o.state = .outOfService) : clearFaultAct fr f s = s.refuse fr .wrongState := by
  simp only [clearFaultAct, ht, hok, ho, if_pos hx]
  rfl

variable (hx : o.state ≠ .outOfService)
include hx

theorem clearFaultAct_outletRefused
    (hc : s.clearRefusal (clearNames f) o.fault.latches (s.outletCondition o) = some c) :
    clearFaultAct fr f s = s.refuse fr c := by
  simp only [clearFaultAct, ht, hok, ho, if_neg hx, hc]
  rfl

theorem clearFaultAct_outletCleared
    (hc : s.clearRefusal (clearNames f) o.fault.latches (s.outletCondition o) = none)
    (hp : (s.clearOutlet f.index (clearNames f)).outlet.outlets.get f.index = some p) : clearFaultAct fr f s =
      (s.clearOutlet f.index (clearNames f)).accept fr [] (.outletLatches p.state p.fault.latches) := by
  simp only [clearFaultAct, ht, hok, ho, if_neg hx, hc, Table.getD, hp]
  rfl

end

section
variable (ht : f.target = .known .tap) (hok : (indexOk f.index && clearKindOk f .tap) = true)
include ht hok

theorem clearFaultAct_tapNotFound (hq : s.tap.taps.get f.index = none) :
    clearFaultAct fr f s = s.refuse fr .notFound := by
  simp only [clearFaultAct, ht, hok, hq]
  rfl

variable (hq : s.tap.taps.get f.index = some q)
include hq

theorem clearFaultAct_tapOut (hm : q.outOfService = true) : clearFaultAct fr f s = s.refuse fr .wrongState := by
  simp only [clearFaultAct, ht, hok, hq, if_pos hm]
  rfl

variable (hm : q.outOfService = false)
include hm

theorem clearFaultAct_tapRefused (hc : s.clearRefusal (clearNames f) q.fault.latches (s.tapCondition q) = some c) :
    clearFaultAct fr f s = s.refuse fr c := by
  simp only [clearFaultAct, ht, hok, hq, hm, hc]
  rfl

theorem clearFaultAct_tapCleared (hc : s.clearRefusal (clearNames f) q.fault.latches (s.tapCondition q) = none)
    (hp : (s.clearTap f.index (clearNames f)).tap.taps.get f.index = some r) : clearFaultAct fr f s =
      (s.clearTap f.index (clearNames f)).accept fr [] (.tapLatches r.state r.fault.latches) := by
  simp only [clearFaultAct, ht, hok, hq, hm, hc, Table.getD, hp]
  rfl

end

/-! ### What a clear makes of the latches -/

/-- The latches after a clear, as CLEAR FAULT states it. -/
theorem FaultRecord.cleared_names (f : ClearFault) (g : FaultRecord) :
    Claim.cleared f g.latches (g.cleared (clearNames f)).latches := by
  intro k
  rw [FaultRecord.cleared_latches, ← clearNames_iff]
  cases clearNames f k <;> simp

theorem FaultRecord.clear_changes_iff {f : ClearFault} {g : FaultRecord} :
    (g.clear (clearNames f)).latches ≠ g.latches ↔ someNamed f g.latches := by
  simp only [ne_eq, FaultRecord.clear_latches_eq_iff, not_not, clearNames_iff, someNamed]

end

/-- An outlet in OFF or in use is neither TRIPPED nor OUT_OF_SERVICE. -/
theorem OutletState.ne_of_off_or_serving {x : OutletState} (h : x = .off ∨ serving x) :
    x ≠ .tripped ∧ x ≠ .outOfService := by
  obtain rfl | rfl | ⟨w, rfl⟩ | rfl := h <;> simp

/-- CLEAR FAULT, by the checks in their order and the latches it clears. -/
theorem clearFaultClearsNamedLatches : Claim.ClearFaultClearsNamedLatches := by
  intro f fr s h
  have run {ans : Answer} {effect : State} (ha : clearFaultAct fr f (s.taken fr) = effect.answer fr ans) :
      exec (.clearFault (.fields f)) s = done fr ans effect := exec_of_takes rfl rfl h ha
  refine ⟨fun hr => run (clearFaultAct_outOfRange hr), fun h1 h48 hlisted => ⟨fun ht happ => ?_, fun ht happ => ?_⟩⟩
  · have hok := Bool.and_eq_true_iff.2 ⟨indexOk_iff.2 ⟨h1, h48⟩, clearKindOk_iff.2 ⟨hlisted, happ⟩⟩
    refine ⟨fun hn => run (clearFaultAct_outletNotFound ht hok hn), fun o ho =>
      ⟨fun hx => run (clearFaultAct_outletOut ht hok ho hx), fun hx hb => run (clearFaultAct_outletRefused ht hok ho hx
        (State.clearRefusal_notPermitted hb)), fun hx hb => ?_⟩⟩
    rw [← State.taken_outletCondition fr]
    refine ⟨fun hc => run (clearFaultAct_outletRefused ht hok ho hx (State.clearRefusal_conditionPresent hb hc)),
      fun hc => ?_⟩
    obtain ⟨p, hp, hf, hstays, hrecovers⟩ := State.clearOutlet_get (s := s.taken fr) (named := clearNames f) ho
    refine ⟨_, p, hp, run (clearFaultAct_outletCleared ht hok ho hx (State.clearRefusal_none hb hc) hp),
      by rw [hf]; exact FaultRecord.cleared_names f _,
      fun hno => State.clearOutlet_same ho (not_not.1 (mt FaultRecord.clear_changes_iff.1 hno)), hstays,
      fun hx hl hs => (OutletState.ne_of_off_or_serving (hrecovers hx hl (FaultRecord.clear_changes_iff.2 hs))).1⟩
  · have hok := Bool.and_eq_true_iff.2 ⟨indexOk_iff.2 ⟨h1, h48⟩, clearKindOk_iff.2 ⟨hlisted, happ⟩⟩
    refine ⟨fun hn => run (clearFaultAct_tapNotFound ht hok hn), fun q hq =>
      ⟨fun hm => run (clearFaultAct_tapOut ht hok hq hm), fun hm hb => run (clearFaultAct_tapRefused ht hok hq hm
        (State.clearRefusal_notPermitted hb)), fun hm hb => ⟨fun hc => run (clearFaultAct_tapRefused ht hok hq hm
          (State.clearRefusal_conditionPresent hb hc)), fun hc => ?_⟩⟩⟩
    obtain ⟨p, hp, hf, hstays, hrecovers⟩ := State.clearTap_get (s := s.taken fr) (named := clearNames f) hq
    exact ⟨_, p, hp, run (clearFaultAct_tapCleared ht hok hq hm (State.clearRefusal_none hb hc) hp),
      by rw [hf]; exact FaultRecord.cleared_names f _,
      fun hno => State.clearTap_same hq (not_not.1 (mt FaultRecord.clear_changes_iff.1 hno)), hstays,
      fun hx hl hs => hrecovers hx hl (FaultRecord.clear_changes_iff.2 hs) hm⟩

/-! ## RETURN TO SERVICE (04 R87) -/

section
variable {fr : IntakeFrame} {f : ReturnToService} {o p : Outlet} {q : Tap} {s : State}

theorem FaultRecord.blocked_iff {g : FaultRecord} {condition : FaultKind → Bool} :
    g.blocked condition = true ↔ conditionStands (fun _ => True) g.latches condition := by
  simp [FaultRecord.blocked, conditionStands, mem_faultKinds]

/-- An outlet returned to service, before its evaluation. -/
def State.returned (i : Nat) (o : Outlet) (s : State) : State :=
  ((s.setOutlet i { o with fault := o.fault.returned, state := .off, reason := .recovered }).mark .outlet i).writeImage
    o.address

theorem State.returned_get (i : Nat) (o : Outlet) (s : State) : (s.returned i o).outlet.outlets.get i =
    some { o with fault := o.fault.returned, state := .off, reason := .recovered } := Table.get_set_self _ _ _

/-- A tap returned to service. -/
def State.returnedTap (s : State) (q : Tap) : Tap :=
  s.startSettle { q with fault := q.fault.returned, outOfService := false, state := .closed, reason := .recovered }

theorem returnToServiceAct_outOfRange (h : f.target = .unlisted ∨ ¬(1 ≤ f.index ∧ f.index ≤ 48)) :
    returnToServiceAct fr f s = s.refuse fr .outOfRange := by
  cases ht : f.target with
  | unlisted => simp only [returnToServiceAct, ht]
  | known t =>
    have hno : indexOk f.index = false := eq_false_of_ne_true fun hi => by
      rw [ht] at h
      exact h.elim (fun h => by cases h) fun h => h (indexOk_iff.1 hi)
    simp only [returnToServiceAct, ht, hno, Bool.not_false, if_true]

variable (hi : indexOk f.index = true)
include hi

section
variable (ht : f.target = .known .outlet)
include ht

theorem returnToServiceAct_outletNotFound (ho : s.outlet.outlets.get f.index = none) :
    returnToServiceAct fr f s = s.refuse fr .notFound := by
  simp only [returnToServiceAct, ht, hi, ho]
  rfl

variable (ho : s.outlet.outlets.get f.index = some o)
include ho

theorem returnToServiceAct_outletIn (hx : o.state ≠ .outOfService) :
    returnToServiceAct fr f s = s.refuse fr .wrongState := by
  simp only [returnToServiceAct, ht, hi, ho, if_pos hx]
  rfl

variable (hx : o.state = .outOfService)
include hx

theorem returnToServiceAct_outletBlocked (hb : o.fault.blocked (s.outletCondition o) = true) :
    returnToServiceAct fr f s = s.refuse fr .conditionPresent := by
  simp only [returnToServiceAct, ht, hi, ho, if_neg (not_not.2 hx), if_pos hb]
  rfl

theorem returnToServiceAct_outletReturned (hb : ¬o.fault.blocked (s.outletCondition o) = true)
    (hp : ((s.returned f.index o).evalAndFlush f.index .fault).outlet.outlets.get f.index = some p) :
    returnToServiceAct fr f s = ((s.returned f.index o).evalAndFlush f.index .fault).accept fr []
      (.outletState f.index p.state) := by
  unfold State.returned at hp
  simp only [returnToServiceAct, ht, hi, ho, if_neg (not_not.2 hx), if_neg hb, Table.getD, hp]
  rfl

end

section
variable (ht : f.target = .known .tap)
include ht

theorem returnToServiceAct_tapNotFound (hq : s.tap.taps.get f.index = none) :
    returnToServiceAct fr f s = s.refuse fr .notFound := by
  simp only [returnToServiceAct, ht, hi, hq]
  rfl

variable (hq : s.tap.taps.get f.index = some q)
include hq

theorem returnToServiceAct_tapIn (hm : q.outOfService = false) :
    returnToServiceAct fr f s = s.refuse fr .wrongState := by
  simp only [returnToServiceAct, ht, hi, hq, hm]
  rfl

variable (hm : q.outOfService = true)
include hm

theorem returnToServiceAct_tapBlocked (hb : q.fault.blocked (s.tapCondition q) = true) :
    returnToServiceAct fr f s = s.refuse fr .conditionPresent := by
  simp only [returnToServiceAct, ht, hi, hq, hm, if_pos hb]
  rfl

theorem returnToServiceAct_tapReturned (hb : ¬q.fault.blocked (s.tapCondition q) = true) :
    returnToServiceAct fr f s =
      ((s.setTap f.index (s.returnedTap q)).mark .tap f.index).accept fr [] (.tapState f.index .closed) := by
  simp only [returnToServiceAct, ht, hi, hq, hm, if_neg hb]
  rfl

end

end

/-- RETURN TO SERVICE, by the checks in their order and what is returned. -/
theorem returnToServiceEndsOutOfService : Claim.ReturnToServiceEndsOutOfService := by
  intro f fr s h
  have run {ans : Answer} {effect : State} (ha : returnToServiceAct fr f (s.taken fr) = effect.answer fr ans) :
      exec (.returnToService (.fields f)) s = done fr ans effect := exec_of_takes rfl rfl h ha
  refine ⟨fun hr => run (returnToServiceAct_outOfRange hr), fun h1 h48 ht => ?_, fun h1 h48 ht => ?_⟩
  · have hi := indexOk_iff.2 ⟨h1, h48⟩
    refine ⟨fun hn => run (returnToServiceAct_outletNotFound hi ht hn), fun o ho =>
      ⟨fun hx => run (returnToServiceAct_outletIn hi ht ho hx), fun hx => ?_⟩⟩
    rw [← State.taken_outletCondition fr, ← FaultRecord.blocked_iff]
    refine ⟨fun hb => run (returnToServiceAct_outletBlocked hi ht ho hx hb), fun hb => ?_⟩
    obtain ⟨p, hp, hf, hpx, -⟩ := State.evalAndFlush_off (reason := .fault)
      (State.returned_get f.index o (s.taken fr)) rfl
    refine ⟨_, p, hp, run (returnToServiceAct_outletReturned hi ht ho hx hb hp), fun k => ?_, by rw [hf]; rfl,
      (OutletState.ne_of_off_or_serving hpx).2⟩
    rw [hf]
    exact KindMap.get_of (fun _ => false) k
  · have hi := indexOk_iff.2 ⟨h1, h48⟩
    refine ⟨fun hn => run (returnToServiceAct_tapNotFound hi ht hn), fun q hq =>
      ⟨fun hm => run (returnToServiceAct_tapIn hi ht hq hm), fun hm => ?_⟩⟩
    rw [← FaultRecord.blocked_iff]
    refine ⟨fun hb => run (returnToServiceAct_tapBlocked hi ht hq hm hb), fun hb => ?_⟩
    rw [← State.taken_config fr s]
    exact run (returnToServiceAct_tapReturned hi ht hq hm hb)

/-! ## BY_UNPLUG (04 R84) -/

section
variable {i : Nat} {detected : FaultKind → Bool} {o : Outlet} {k : FaultKind} {s : State}

/-- The kinds a reply that shows the plug absent clears at an outlet (log 10). -/
def State.unplugs (s : State) (o : Outlet) (detected : FaultKind → Bool) (k : FaultKind) : Bool :=
  (s.protectionOf k).byUnplug && !s.outletCondition o k && !detected k

theorem State.unplugs_iff : s.unplugs o detected k = true ↔ (s.outlet.protection.get k).byUnplug = true ∧
    s.outletCondition o k = false ∧ detected k = false := by
  simp [State.unplugs, State.protectionOf_byUnplug, and_assoc]

variable (ho : s.outlet.outlets.get i = some o)
include ho

theorem State.unplugRecovery_out (hx : o.state = .outOfService) : s.unplugRecovery i detected = s := by
  simp only [State.unplugRecovery, ho, if_pos hx]

theorem State.unplugRecovery_clears (hx : o.state ≠ .outOfService) :
    s.unplugRecovery i detected = s.clearOutlet i (s.unplugs o detected) := by
  simp only [State.unplugRecovery, ho, if_neg hx]
  rfl

end

/-- BY_UNPLUG, by the state of the outlet and the latches it clears. -/
theorem unpluggingClearsLatches : Claim.UnpluggingClearsLatches := by
  intro i detected o s ho
  dsimp only
  simp only [← State.unplugs_iff]
  have hchanges : (o.fault.clear (s.unplugs o detected)).latches ≠ o.fault.latches ↔
      ∃ k, s.unplugs o detected k = true ∧ o.fault.latches.get k = true := by
    rw [ne_eq, FaultRecord.clear_latches_eq_iff, not_not]
  refine ⟨fun h => ?_, fun hx hc => ?_⟩
  · by_cases hx : o.state = .outOfService
    · exact State.unplugRecovery_out ho hx
    · rw [State.unplugRecovery_clears ho hx]
      exact State.clearOutlet_same ho (not_not.1 (mt hchanges.1 (h.resolve_left hx)))
  · rw [State.unplugRecovery_clears ho hx]
    obtain ⟨p, hp, hf, hstays, hrecovers⟩ := State.clearOutlet_get (named := s.unplugs o detected) ho
    refine ⟨p, hp, fun k => ?_, fun h => (hstays h).1, fun ht hl => ?_⟩
    · rw [hf, FaultRecord.cleared_latches]
      simp
    · have hch := hchanges.2 hc
      rw [hf, FaultRecord.cleared_changed hch] at hl ⊢
      obtain ⟨r, hr, hoff, hserves⟩ := State.clearOutlet_evaluates ho hch ht hl
      obtain rfl := Option.some.inj (hp.symm.trans hr)
      exact ⟨fun he ha => by rw [hoff he ha]; exact ⟨rfl, rfl⟩, hserves⟩

/-- Settles O35, from its three parts. -/
theorem clearFaultAndReturnToService : Obligations.ClearFaultAndReturnToService :=
  ⟨clearFaultClearsNamedLatches, returnToServiceEndsOutOfService, unpluggingClearsLatches⟩

end Sys2Proof.Machine
end

section
/-! SUPPORT. The stuck-meter, disagreement and recovery steps of outlets and taps (04 R76, R79, R84). -/

namespace Sys2Proof.Machine

open Sys2Proof Sys2Proof.Claim

/-! ## The stuck-meter count and the disagreement timer (04 R76, R79) -/

section
variable {i e : Nat} {k : FaultKind} {o : Outlet} {q : Tap} {s : State}

section
variable (ho : s.outlet.outlets.get i = some o)
include ho

theorem State.stuckDetect_reached (h : 30 ≤ o.fault.stuck) : s.stuckDetect i =
    ((s.setOutlet i { o with fault := { o.fault with stuck := 0 } }).detectOutlet i .meter).flushAttempts := by
  have hr : Config.stuckRounds ≤ o.fault.stuck := h
  simp only [State.stuckDetect, ho, if_pos hr]

theorem State.stuckDetect_below (h : o.fault.stuck < 30) : s.stuckDetect i = s := by
  have hr : ¬Config.stuckRounds ≤ o.fault.stuck := h.not_ge
  simp only [State.stuckDetect, ho, if_neg hr]

theorem State.disagreeExpiry_running (h : o.fault.disagreeEnd = some e) : s.disagreeExpiry i =
    (((s.advanceTo e).setOutlet i { o with fault := { o.fault with disagreeEnd := none } }).detectOutlet i
      .leakDisagree).flushAttempts := by
  simp only [State.disagreeExpiry, ho, h]

theorem State.disagreeExpiry_stopped (h : o.fault.disagreeEnd = none) : s.disagreeExpiry i = s := by
  simp only [State.disagreeExpiry, ho, h]

end

/-! ## The recovery timers (04 R84) -/

/-- A fault record with the recovery timer of a kind stopped. -/
def FaultRecord.timed (k : FaultKind) (f : FaultRecord) : FaultRecord := { f with recovery := f.recovery.set k none }

/-- Clearing one kind's latch takes it out, and its timer is as stopped. -/
theorem FaultRecord.timed_cleared (k : FaultKind) (f : FaultRecord) :
    ((f.timed k).cleared fun x => decide (x = k)).latches = f.latches.set k false ∧
      ((f.timed k).cleared fun x => decide (x = k)).recovery.get k = none := by
  refine ⟨KindMap.ext_get fun j => ?_, FaultRecord.cleared_recovery (KindMap.get_set_self _ _ _)⟩
  rw [FaultRecord.cleared_latches, KindMap.get_set]
  by_cases hj : j = k
  · simp [hj]
  · simp [hj, FaultRecord.timed]

/-- The clock at the expiry of a recovery timer, and the timer stopped (log 1). -/
def State.recoveryStopped (i : Nat) (k : FaultKind) (o : Outlet) (e : Nat) (s : State) : State :=
  (s.advanceTo e).setOutlet i { o with fault := o.fault.timed k }

/-- The clock at the expiry of a tap's recovery timer, and the timer stopped (log 1). -/
def State.tapRecoveryStopped (i : Nat) (k : FaultKind) (q : Tap) (e : Nat) (s : State) : State :=
  (s.advanceTo e).setTap i { q with fault := q.fault.timed k }

section
variable (ho : s.outlet.outlets.get i = some o) (he : o.fault.recovery.get k = some e)
include ho he

theorem State.timeRecoveryOutlet_eq : s.timeRecoveryOutlet i k =
    if (s.protectionOf k).byTime = true ∧ s.outletCondition o k = false ∧ o.state ≠ .outOfService then
      (s.recoveryStopped i k o e).clearOutlet i fun x => decide (x = k)
    else s.recoveryStopped i k o e := by
  simp only [State.timeRecoveryOutlet, ho, he, Bool.and_eq_true, Bool.not_eq_true', decide_eq_true_eq, and_assoc]
  rfl

/-- What the expiry of a recovery timer makes of an outlet. -/
theorem State.timeRecoveryOutlet_get :
    let clears := (s.protectionOf k).byTime = true ∧ s.outletCondition o k = false ∧ o.state ≠ .outOfService
    ∃ p, (s.timeRecoveryOutlet i k).outlet.outlets.get i = some p ∧ p.fault.recovery.get k = none ∧
      (clears → p.fault.latches = o.fault.latches.set k false) ∧
      (¬clears → p = { o with fault := o.fault.timed k }) := by
  have hg : (s.recoveryStopped i k o e).outlet.outlets.get i = some { o with fault := o.fault.timed k } :=
    Table.get_set_self _ _ _
  rw [State.timeRecoveryOutlet_eq ho he]
  split
  · next hc =>
    obtain ⟨p, hp, hf, -, -⟩ := State.clearOutlet_get (named := fun x => decide (x = k)) hg
    obtain ⟨hl, hr⟩ := FaultRecord.timed_cleared k o.fault
    exact ⟨p, hp, by rw [hf, hr], fun _ => by rw [hf, hl], fun h => (h hc).elim⟩
  · next hc => exact ⟨_, hg, KindMap.get_set_self _ _ _, fun h => (hc h).elim, fun _ => rfl⟩

theorem State.timeRecoveryOutlet_now : (s.timeRecoveryOutlet i k).now = max s.now e := by
  rw [State.timeRecoveryOutlet_eq ho he]
  split
  · exact (State.clearOutlet_leaves i _ (.refl _)).now
  · rfl

end

section
variable (hq : s.tap.taps.get i = some q) (he : q.fault.recovery.get k = some e)
include hq he

theorem State.timeRecoveryTap_eq : s.timeRecoveryTap i k =
    if (s.protectionOf k).byTime = true ∧ s.tapCondition q k = false ∧ q.outOfService = false then
      (s.tapRecoveryStopped i k q e).clearTap i fun x => decide (x = k)
    else s.tapRecoveryStopped i k q e := by
  simp only [State.timeRecoveryTap, hq, he, Bool.and_eq_true, Bool.not_eq_true', and_assoc]
  rfl

/-- What the expiry of a recovery timer makes of a tap. -/
theorem State.timeRecoveryTap_get :
    let clears := (s.protectionOf k).byTime = true ∧ s.tapCondition q k = false ∧ q.outOfService = false
    ∃ p, (s.timeRecoveryTap i k).tap.taps.get i = some p ∧ p.fault.recovery.get k = none ∧
      (clears → p.fault.latches = q.fault.latches.set k false) ∧
      (¬clears → p = { q with fault := q.fault.timed k }) := by
  have hg : (s.tapRecoveryStopped i k q e).tap.taps.get i = some { q with fault := q.fault.timed k } :=
    Table.get_set_self _ _ _
  rw [State.timeRecoveryTap_eq hq he]
  split
  · next hc =>
    obtain ⟨p, hp, hf, -, -⟩ := State.clearTap_get (named := fun x => decide (x = k)) hg
    obtain ⟨hl, hr⟩ := FaultRecord.timed_cleared k q.fault
    exact ⟨p, hp, by rw [hf, hr], fun _ => by rw [hf, hl], fun h => (h hc).elim⟩
  · next hc => exact ⟨_, hg, KindMap.get_set_self _ _ _, fun h => (hc h).elim, fun _ => rfl⟩

theorem State.timeRecoveryTap_now : (s.timeRecoveryTap i k).now = max s.now e := by
  rw [State.timeRecoveryTap_eq hq he]
  split
  · exact (State.clearTap_leaves i _ (.refl _)).now
  · rfl

end

end

/-! ## The statement -/

/-- Passing the conditions on leaves the clock, the outlets and the taps. -/
theorem State.refreshAlarm_units (s : State) : s.refreshAlarm.now = s.now ∧
    s.refreshAlarm.outlet.outlets = s.outlet.outlets ∧ s.refreshAlarm.tap = s.tap := by
  rw [State.refreshAlarm_eq]
  exact ⟨rfl, rfl, rfl⟩

/-- Settles O37: each step by whether its count is reached or its timer runs. -/
theorem protectionTimersExpire : Obligations.ProtectionTimersExpire := by
  intro i s ha
  refine ⟨fun o ho => ⟨fun h => ?_, fun h => ?_, fun e h => ?_, fun h => ?_, fun k e he => ?_⟩, fun q hq k e he => ?_⟩
  · rw [exec_of_active (act := State.stuckDetect i) rfl ha, State.stuckDetect_reached ho h]
  · rw [exec_of_active (act := State.stuckDetect i) rfl ha, State.stuckDetect_below ho h]
  · rw [exec_of_active (act := State.disagreeExpiry i) rfl ha, State.disagreeExpiry_running ho h]
    rfl
  · rw [exec_of_active (act := State.disagreeExpiry i) rfl ha, State.disagreeExpiry_stopped ho h]
  · obtain ⟨p, hp, hr, hclears, hstays⟩ := State.timeRecoveryOutlet_get ho he
    obtain ⟨hnow, houtlets, -⟩ := (s.timeRecoveryOutlet i k).refreshAlarm_units
    exact ⟨_, p, exec_of_active (act := State.timeRecovery .outlet i k) rfl ha,
      hnow.trans (State.timeRecoveryOutlet_now ho he), (congrArg (Table.get · i) houtlets).trans hp, hr, hclears,
      hstays⟩
  · obtain ⟨p, hp, hr, hclears, hstays⟩ := State.timeRecoveryTap_get hq he
    obtain ⟨hnow, -, htap⟩ := (s.timeRecoveryTap i k).refreshAlarm_units
    exact ⟨_, p, exec_of_active (act := State.timeRecovery .tap i k) rfl ha,
      hnow.trans (State.timeRecoveryTap_now hq he), (congrArg (fun u => Table.get u.taps i) htap).trans hp, hr, hclears,
      hstays⟩

end Sys2Proof.Machine
end

section
/-! SUPPORT. TAP LOAD: its refusals, and the tap it stores or moves (05 R93). -/

namespace Sys2Proof.Machine

open Sys2Proof Sys2Proof.Claim

/-! ## What a load reads and leaves -/

theorem State.createSource_tap (c : ReportClass) (n : Nat) (s : State) : (s.createSource c n).tap = s.tap := by
  rw [State.createSource_eq]

/-- The settle time starts alike before and after a frame is taken. -/
theorem State.taken_startSettle (fr : IntakeFrame) (s : State) (t : Tap) :
    (s.taken fr).startSettle t = s.startSettle t := by
  simp only [State.startSettle, State.taken_now, State.taken_config]

/-- The ranges of TAP LOAD (05 R93). -/
def tapRange (f : TapLoad) : Prop := 1 ≤ f.index ∧ f.index ≤ 48 ∧ 1 ≤ f.address ∧ f.address ≤ 126

theorem tapRange_iff {f : TapLoad} : tapRange f ↔ (indexOk f.index && busAddressOk f.address) = true := by
  rw [Bool.and_eq_true, indexOk_iff, busAddressOk_iff, and_assoc]
  rfl

/-- The side of a load is held by another tap. -/
def State.tapSideHeld (s : State) (i a : Nat) (side : Side) : Bool :=
  s.tap.taps.any fun p => decide (p.1 ≠ i ∧ p.2.address = a ∧ p.2.side = side)

theorem State.tapSideHeld_iff {s : State} {i a : Nat} {side : Side} : s.tapSideHeld i a side = true ↔
    ∃ p ∈ s.tap.taps, p.1 ≠ i ∧ p.2.address = a ∧ p.2.side = side := by
  simp [State.tapSideHeld]

/-! ## The stored tap -/

/-- A new tap with its settle time started and its source, on a side whose litre counter is to be re-based. -/
def State.newTap (f : TapLoad) (side : Side) (s : State) : State :=
  (((s.setTap f.index (s.startSettle (Tap.fresh f side s.now))).createSource .tap f.index).modDevice f.address
    (Device.dropLitres side)).writeImage f.address

/-- A tap on the side of a load, with its settle time started and its readback UNKNOWN. -/
def State.movedTap (s : State) (f : TapLoad) (side : Side) (t : Tap) : Tap :=
  s.startSettle { t with address := f.address, side := side, readback := .unknown }

/-- A loaded tap moved: the images of the pedestals it leaves and joins are written (log 46). -/
def State.moveTap (f : TapLoad) (side : Side) (t : Tap) (s : State) : State :=
  (((s.setTap f.index (s.movedTap f side t)).modDevice f.address (Device.dropLitres side)).writeImage
    t.address).writeImage f.address

/-- The load marks the source of the tap, and is answered with its state. -/
def State.acceptTap (fr : IntakeFrame) (i : Nat) (s : State) : State :=
  (s.mark .tap i).accept fr [] (.tapState i (((s.tap.taps.get i).map (·.state)).getD .closed))

section
variable {fr : IntakeFrame} {f : TapLoad} {side : Side} {t : Tap} {s : State}

theorem State.acceptTap_loaded {i : Nat} (ht : s.tap.taps.get i = some t) :
    s.acceptTap fr i = (s.mark .tap i).answer fr (.accepted [] (.tapState i t.state)) := by
  rw [State.acceptTap, ht]
  rfl

theorem State.newTap_get (f : TapLoad) (side : Side) (s : State) :
    (s.newTap f side).tap.taps.get f.index = some (s.startSettle (Tap.fresh f side s.now)) := by
  have htap : (s.newTap f side).tap =
      ((s.setTap f.index (s.startSettle (Tap.fresh f side s.now))).createSource .tap f.index).tap := rfl
  rw [htap, State.createSource_tap]
  exact Table.get_set_self _ _ _

theorem State.moveTap_get (f : TapLoad) (side : Side) (t : Tap) (s : State) :
    (s.moveTap f side t).tap.taps.get f.index = some (s.movedTap f side t) := Table.get_set_self _ _ _

/-! ## TAP LOAD (05 R93) -/

theorem tapLoadAct_unlisted (h : f.side = .unlisted) : tapLoadAct fr f s = s.refuse fr .outOfRange := by
  simp only [tapLoadAct, h]

theorem tapLoadAct_outOfRange (h : ¬tapRange f) : tapLoadAct fr f s = s.refuse fr .outOfRange := by
  have hok : (indexOk f.index && busAddressOk f.address) = false := eq_false_of_ne_true (mt tapRange_iff.2 h)
  unfold tapLoadAct
  split
  · rfl
  · rw [hok]
    rfl

section
variable (hside : f.side = .known side) (hr : tapRange f)
include hside hr

theorem tapLoadAct_exists (hh : s.tapSideHeld f.index f.address side = true) :
    tapLoadAct fr f s = s.refuse fr .exists := by
  unfold State.tapSideHeld at hh
  simp only [tapLoadAct, hside, tapRange_iff.1 hr, hh]
  rfl

variable (hh : s.tapSideHeld f.index f.address side = false)
include hh

theorem tapLoadAct_new (ht : s.tap.taps.get f.index = none) :
    tapLoadAct fr f s = (s.newTap f side).acceptTap fr f.index := by
  unfold State.tapSideHeld at hh
  simp only [tapLoadAct, hside, tapRange_iff.1 hr, hh, ht]
  rfl

variable (ht : s.tap.taps.get f.index = some t)
include ht

theorem tapLoadAct_again (ha : t.address = f.address) (hs : t.side = side) :
    tapLoadAct fr f s = (s.mark .tap f.index).answer fr (.accepted [] (.tapState f.index t.state)) := by
  unfold State.tapSideHeld at hh
  simp only [tapLoadAct, hside, tapRange_iff.1 hr, hh, ht, if_pos (And.intro ha hs)]
  rfl

variable (hm : t.address ≠ f.address ∨ t.side ≠ side)
include hm

theorem tapLoadAct_inUse (hu : t.state ≠ .closed) : tapLoadAct fr f s = s.refuse fr .inUse := by
  unfold State.tapSideHeld at hh
  simp only [tapLoadAct, hside, tapRange_iff.1 hr, hh, ht, if_neg (not_and_or.2 hm), if_pos hu]
  rfl

theorem tapLoadAct_moves (hc : t.state = .closed) :
    tapLoadAct fr f s = (s.moveTap f side t).acceptTap fr f.index := by
  unfold State.tapSideHeld at hh
  simp only [tapLoadAct, hside, tapRange_iff.1 hr, hh, ht, if_neg (not_and_or.2 hm), if_neg (not_not.2 hc)]
  rfl

end

end

/-- TAP LOAD, by its refusals in their order, then by whether the tap is new, stays on its side or moves. -/
theorem tapLoadIsCheckedAndStored : Claim.TapLoadIsCheckedAndStored := by
  intro f fr s h
  have run {ans : Answer} {effect : State} (ha : tapLoadAct fr f (s.taken fr) = effect.answer fr ans) :
      exec (.tapLoad (.fields f)) s = done fr ans effect := exec_of_takes rfl rfl h ha
  have accepted {x : State} {p : Tap} (hp : x.tap.taps.get f.index = some p)
      (ha : tapLoadAct fr f (s.taken fr) = x.acceptTap fr f.index) :
      exec (.tapLoad (.fields f)) s = done fr (.accepted [] (.tapState f.index p.state)) (x.mark .tap f.index) :=
    run (ha.trans (State.acceptTap_loaded hp))
  refine ⟨fun hr => run (hr.elim tapLoadAct_unlisted tapLoadAct_outOfRange), fun side hside hr =>
    ⟨fun hh => run (tapLoadAct_exists hside hr (State.tapSideHeld_iff.2 hh)), fun hn ht => ?_, fun t hn ht => ?_⟩⟩
  all_goals have hfree := eq_false_of_ne_true (mt (State.tapSideHeld_iff (s := s.taken fr)).1 hn)
  · have hnew := accepted (State.newTap_get f side _) (tapLoadAct_new hside hr hfree ht)
    rw [State.newTap, State.taken_startSettle] at hnew
    exact hnew
  · refine ⟨fun ha hs => run (tapLoadAct_again hside hr hfree ht ha hs),
      fun hm hu => run (tapLoadAct_inUse hside hr hfree ht hm hu), fun hm hc => ?_⟩
    have hmove := accepted (State.moveTap_get f side t _) (tapLoadAct_moves hside hr hfree ht hm hc)
    rw [State.moveTap, State.movedTap, State.taken_startSettle] at hmove
    have hstate : (s.startSettle { t with address := f.address, side := side, readback := .unknown }).state = .closed :=
      hc
    rw [hstate] at hmove
    exact hmove

end Sys2Proof.Machine
end

section
/-! SUPPORT. A tap shut, its button pressed, and the expiries of its dispense period and settle time (05 R95 to R98; 04
R80). -/

namespace Sys2Proof.Machine

open Sys2Proof Sys2Proof.Claim

/-! ## The closing entry of a tap's session (05 R98, 02 R37) -/

/-- The WATER slots and the waiting closings after the session of a tap is ended. -/
def State.tapClosed (s : State) (i : Nat) (t : Tap) (x : Session) (reason : Reason) :
    List Posting × List WaitingClosing :=
  closePosting i x.account x.unposted (s.closingOf x reason) s.charge.water t.waiting

/-- A tap out of use, its settle time started now (05 R98, 04 R80). -/
def State.shutAs (s : State) (target : TapState) (reason : Reason) (w : List WaitingClosing) (t : Tap) : Tap :=
  { t with
    state := target, reason := reason, session := none, waiting := w, lastClose := s.now
    settleEnd := some (s.now + s.mgmt.config.settleTime * 1000), watchSum := 0 }

section
variable {i : Nat} {t : Tap} {x : Session} {target : TapState} {reason : Reason} {s : State}

/-- A shut changes the tap after its session is ended, and no posting slot. -/
theorem State.shutTap_of_ended {w : List WaitingClosing}
    (he : (s.endTapSession i reason).tap.taps.get i = some { t with session := none, waiting := w }) :
    (s.shutTap i target reason).tap.taps.get i = some (s.shutAs target reason w t) ∧
      (s.shutTap i target reason).charge = (s.endTapSession i reason).charge := by
  have hleaves := State.endTapSession_leaves i reason (.refl s)
  have hshut : s.shutTap i target reason = (((s.endTapSession i reason).setTap i
      (s.shutAs target reason w t)).mark .tap i).writeImage t.address := by
    simp only [State.shutTap, he, State.startSettle, State.shutAs, hleaves.now, hleaves.mgmt]
  rw [hshut]
  exact ⟨Table.get_set_self _ _ _, rfl⟩

variable (ht : s.tap.taps.get i = some t)
include ht

theorem State.endTapSession_none (hx : t.session = none) : s.endTapSession i reason = s := by
  simp only [State.endTapSession, ht, hx]

theorem State.endTapSession_some (hx : t.session = some x) : s.endTapSession i reason =
    ({ s with charge := { s.charge with water := (s.tapClosed i t x reason).1 } }.setTap i
      { t with session := none, waiting := (s.tapClosed i t x reason).2 }).mark .tap i := by
  simp only [State.endTapSession, ht, hx]
  rfl

/-- A shut without a session leaves the waiting closings; one that ends a session makes its closing entry. -/
theorem State.shutTap_ends (target : TapState) (reason : Reason) : ∃ w,
    (s.shutTap i target reason).tap.taps.get i = some (s.shutAs target reason w t) ∧
      ∀ x, t.session = some x → w = (s.tapClosed i t x reason).2 ∧
        (s.shutTap i target reason).charge.water = (s.tapClosed i t x reason).1 := by
  cases hx : t.session with
  | none =>
    have he : (s.endTapSession i reason).tap.taps.get i = some { t with session := none, waiting := t.waiting } := by
      rw [State.endTapSession_none ht hx, ht, ← hx]
    obtain ⟨hget, -⟩ := State.shutTap_of_ended (target := target) he
    exact ⟨t.waiting, hget, fun x h => (Option.some_ne_none x h.symm).elim⟩
  | some x =>
    have hs := State.endTapSession_some (reason := reason) ht hx
    have he : (s.endTapSession i reason).tap.taps.get i =
        some { t with session := none, waiting := (s.tapClosed i t x reason).2 } := by
      rw [hs]
      exact Table.get_set_self _ _ _
    obtain ⟨hget, hcharge⟩ := State.shutTap_of_ended (target := target) he
    refine ⟨_, hget, fun y hy => ?_⟩
    cases hy
    rw [hcharge, hs]
    exact ⟨rfl, rfl⟩

end

/-! ## A button press (05 R95, R96) -/

section
variable {i : Nat} {t : Tap} {r : SideRef} {s : State} (hr : s.tapOfSide r = some (i, t))
include hr

theorem State.buttonPress_opened (hx : t.state = .opened) : s.buttonPress r = s.shutTap i .closed .button := by
  simp only [State.buttonPress, hr, hx]

theorem State.buttonPress_locked (hx : t.state = .locked) : s.buttonPress r = s := by
  simp only [State.buttonPress, hr, hx]

theorem State.buttonPress_ineligible (hx : t.state = .closed) (he : s.tapEligible t = false) :
    s.buttonPress r = s := by
  simp only [State.buttonPress, hr, hx, he]
  rfl

theorem State.buttonPress_opens {n : Nat} (hx : t.state = .closed) (he : s.tapEligible t = true)
    (hn : s.berthAccount r = some n) : s.buttonPress r = s.openTap i t n := by
  simp only [State.buttonPress, hr, hx, he, hn, if_true]

end

/-! ## Expiries (05 R97, 04 R80) -/

section
variable {i e : Nat} {t : Tap} {x : Session} {s : State} (ht : s.tap.taps.get i = some t)
include ht

theorem State.dispenseExpiry_running (hx : t.state = .opened) (hs : t.session = some x) :
    s.dispenseExpiry i = (s.advanceTo x.moment).shutTap i .closed .period := by
  simp only [State.dispenseExpiry, ht, hs, if_pos hx]

theorem State.dispenseExpiry_stopped (h : t.state ≠ .opened ∨ t.session = none) : s.dispenseExpiry i = s := by
  cases hs : t.session with
  | none => simp only [State.dispenseExpiry, ht, hs]
  | some x =>
    have hx : t.state ≠ .opened := h.resolve_right (by simp [hs])
    simp only [State.dispenseExpiry, ht, hs, if_neg hx]

theorem State.settleExpiry_running (he : t.settleEnd = some e) :
    s.settleExpiry i = (s.advanceTo e).setTap i { t with settleEnd := none } := by
  simp only [State.settleExpiry, ht, he]

theorem State.settleExpiry_stopped (he : t.settleEnd = none) : s.settleExpiry i = s := by
  simp only [State.settleExpiry, ht, he]

end

/-! ## The statement -/

/-- A shut by what stands in the WATER slot, a press by the state of the tap, and each expiry by whether its timer
runs. -/
theorem tapsOpenAndShut : Claim.TapsOpenAndShut := by
  intro i t s ht
  refine ⟨fun target reason => ?_, fun r hr => ⟨State.buttonPress_opened hr, fun h => ?_, fun n hx he hn => ?_⟩,
    fun x ha hx hs => ?_, fun ha h => ?_, fun e ha he => ?_, fun ha he => ?_⟩
  · obtain ⟨w, hget, hend⟩ := State.shutTap_ends ht target reason
    refine ⟨w, hget, (State.shutTap_only i target reason s).others, fun x hx hf => ?_, fun x e hx hf hc => ?_⟩
    all_goals
      obtain ⟨hw, hwater⟩ := hend x hx
      rw [hw, hwater, State.tapClosed]
    · rw [closePosting_new hf]; exact ⟨rfl, rfl⟩
    · rw [closePosting_own hf hc]; exact ⟨rfl, rfl⟩
  · rcases h with hx | ⟨hx, he⟩
    · exact State.buttonPress_locked hr hx
    · exact State.buttonPress_ineligible hr hx he
  · rw [State.buttonPress_opens hr hx he hn]
    rfl
  · rw [exec_of_active (act := State.dispenseExpiry i) rfl ha, State.dispenseExpiry_running ht hx hs]
    rfl
  · rw [exec_of_active (act := State.dispenseExpiry i) rfl ha, State.dispenseExpiry_stopped ht h]
  · rw [exec_of_active (act := State.settleExpiry i) rfl ha, State.settleExpiry_running ht he]
    rfl
  · rw [exec_of_active (act := State.settleExpiry i) rfl ha, State.settleExpiry_stopped ht he]

end Sys2Proof.Machine
end

section
/-! SUPPORT. What a reply of the pedestal brings to a tap, in its order (05 R95, R100; 04 R73, R80; log 10), and the
statement on taps. -/

namespace Sys2Proof.Machine

open Sys2Proof Sys2Proof.Claim

/-- A tap as a reply finds it: the re-basing one finds the watch of a shut tap started afresh (04 R73, R80). -/
def State.watchedTap (s : State) (fresh : Bool) (t : Tap) : Tap :=
  if fresh = true ∧ t.state ≠ .opened then s.startSettle t else t

theorem State.watchedTap_ref (s : State) (fresh : Bool) (t : Tap) : (s.watchedTap fresh t).ref = t.ref := by
  unfold State.watchedTap
  split <;> rfl

/-- A tap stored with its valve readback, whose change marks the source (05 R100). -/
def State.readTap (i : Nat) (readback : Contact) (fault : FaultRecord) (sum : Nat) (t : Tap) (s : State) : State :=
  let u := s.setTap i { t with fault := fault, watchSum := sum, readback := readback }
  if t.readback = readback then u else u.mark .tap i

/-- The readback reaches the tap, and at most a mark of its source beside it. -/
theorem State.readTap_eq (i : Nat) (readback : Contact) (fault : FaultRecord) (sum : Nat) (t : Tap) (s : State) :
    s.readTap i readback fault sum t = { s with
      tap := { s.tap with
        taps := s.tap.taps.set i { t with fault := fault, watchSum := sum, readback := readback } }
      trunk := { s.trunk with sources := (s.readTap i readback fault sum t).trunk.sources } } := by
  unfold State.readTap
  dsimp only
  split <;> rfl

/-- A litre delta that is no jump is tallied and goes to the session (05 R100, 11 R183). -/
def State.litreDelta (i q : Nat) (jump : Bool) (s : State) : State :=
  if jump then s else (s.modLive fun y => { y with litres := addLifetime i q y.litres }).tapDelta i q

/-- The kinds a reply shows are detected at its tap in their order. -/
def State.detectTaps (i : Nat) (kinds : List FaultKind) (s : State) : State :=
  kinds.foldl (fun u k => u.detectTap i k) s

/-- A reply at a loaded tap: readback, litres, detections, then the press (log 10). -/
theorem State.tapReply_loaded {i : Nat} {t : Tap} {x : SideStatus} {fresh pressed : Bool} {delta : Option Nat}
    {s : State} (ht : s.tap.taps.get i = some t) :
    let q := delta.getD 0
    let jump := decide (s.mgmt.config.litreJumpLimit < q)
    let w := s.watchedTap fresh t
    let r := s.examineTap w x fresh jump q
    let u := ((s.readTap i (if x.valveOpen then .opened else .closed) r.1 r.2.1 w).litreDelta i q jump).detectTaps i
      r.2.2
    s.tapReply i x fresh pressed delta = if pressed then u.buttonPress t.ref else u := by
  have hw : (if fresh && decide (t.state ≠ .opened) then s.startSettle t else t) = s.watchedTap fresh t := by
    simp only [State.watchedTap, Bool.and_eq_true, decide_eq_true_eq]
  intro q jump w r u
  rw [← State.watchedTap_ref s fresh t]
  simp only [State.tapReply, ht, hw]
  rfl

/-- What a reply brings to a tap; the readback's state is the one the statement names. -/
theorem tapReplyIsDelivered : Claim.TapReplyIsDelivered := by
  intro i o x fresh pressed delta s ho q jump watched r
  exact ⟨s.readTap i _ r.1 r.2.1 watched, State.readTap_eq i _ r.1 r.2.1 watched s, State.tapReply_loaded ho⟩

/-- Settles O38, from its three parts. -/
theorem tapsAreLoadedOpenedAndShut : Obligations.TapsAreLoadedOpenedAndShut :=
  ⟨tapLoadIsCheckedAndStored, tapsOpenAndShut, tapReplyIsDelivered⟩

end Sys2Proof.Machine
end

section
/-! SUPPORT. TAKE SALE (06 R122), TANK SET and TANK ADD (06 R105). -/

namespace Sys2Proof.Machine

open Sys2Proof Sys2Proof.Claim

/-! ## What taking a frame leaves of the fuel unit -/

section
variable (fr : IntakeFrame) (s : State)

@[simp] theorem State.taken_fuel : (s.taken fr).fuel = s.fuel := rfl
@[simp] theorem State.taken_bus : (s.taken fr).bus = s.bus := rfl
@[simp] theorem State.taken_saleCount : (s.taken fr).saleCount = s.saleCount := rfl

end

/-! ## TAKE SALE -/

section
variable {fr : IntakeFrame} {s : State}

theorem takeSaleAct_oldest {x : Sale} {rest : List Sale} (h : s.fuel.sales = x :: rest) : takeSaleAct fr () s =
    (State.mark .sale 0 { s with fuel := { s.fuel with sales := rest } }).answer fr (.accepted [] (.sale (some x))) := by
  simp only [takeSaleAct, h, State.accept]

theorem takeSaleAct_empty (h : s.fuel.sales = []) :
    takeSaleAct fr () s = s.answer fr (.accepted [] (.sale none)) := by
  simp only [takeSaleAct, h, State.accept]

end

/-- Settles O41, by whether the sale list holds a record. -/
theorem takeSaleRemovesTheOldest : Obligations.TakeSaleRemovesTheOldest := by
  intro fr s h u
  refine ⟨fun x rest hx => ?_, fun hx => exec_of_takes rfl rfl h (takeSaleAct_empty hx)⟩
  intro e
  refine ⟨exec_of_takes rfl rfl h (takeSaleAct_oldest hx), ?_⟩
  have hs : s.saleCount = (x :: rest).length + s.salesInProgress := by rw [← hx]; rfl
  have he : e.saleCount = rest.length + s.salesInProgress := rfl
  rw [hs, he, List.length_cons]
  omega

/-! ## TANK SET and TANK ADD -/

/-- The ranges of a tank's index, amount, level and cutoff (06 R105). -/
def tankRange (f : TankFields) (level : Nat) : Prop :=
  f.tank ≤ 1 ∧ f.amount ≤ 4294967295 ∧ level ≤ 4294967295 ∧ ∀ x, f.cutoff = some x → x ≤ 4294967295

theorem tankRange_iff {f : TankFields} {level : Nat} : tankRange f level ↔
    (decide (f.tank ≤ 1 ∧ f.amount ≤ Config.max32 ∧ level ≤ Config.max32) &&
      optOk (fun c => decide (c ≤ Config.max32)) f.cutoff) = true := by
  simp only [tankRange, Bool.and_eq_true, decide_eq_true_eq, optOk_iff, and_assoc]
  rfl

theorem State.setTank_eq (grade : Nat) (t : Tank) (s : State) : s.setTank grade t =
    if grade = 0 then { s with fuel := { s.fuel with tank0 := t } } else { s with fuel := { s.fuel with tank1 := t } } := by
  unfold State.setTank
  split <;> rfl

section
variable {fr : IntakeFrame} {f : TankFields} {level : Nat} {s : State}

theorem State.storeTank_outOfRange (h : ¬tankRange f level) : s.storeTank fr f level = s.refuse fr .outOfRange :=
  if_neg (mt tankRange_iff.2 h)

theorem State.storeTank_stores (h : tankRange f level) :
    let t : Tank := ⟨level, f.cutoff.getD (s.tankOf f.tank).cutoff, false⟩
    s.storeTank fr f level = State.answer fr (.accepted [] (.tank f.tank t)) (State.markStatus
      (if f.tank = 0 then { s with fuel := { s.fuel with tank0 := t } }
        else { s with fuel := { s.fuel with tank1 := t } })) := by
  intro t
  rw [← State.setTank_eq, State.storeTank, if_pos (tankRange_iff.1 h)]
  rfl

end

/-- Settles O42: both commands store a tank once their level is known, and the range of the level is the check of it. -/
theorem tankSetAndTankAdd : Obligations.TankSetAndTankAdd := by
  intro add f fr s c h u
  cases add with
  | false => exact ⟨fun hr => exec_of_takes rfl rfl h (State.storeTank_outOfRange hr),
      fun hr => exec_of_takes rfl rfl h (State.storeTank_stores hr)⟩
  | true => exact ⟨fun hr => exec_of_takes rfl rfl h (State.storeTank_outOfRange hr),
      fun hr => exec_of_takes rfl rfl h (State.storeTank_stores hr)⟩

end Sys2Proof.Machine
end

section
/-! SUPPORT. What a grant attempt of the pump FIFO does: how far it goes, and what it leaves (06 R112). -/

namespace Sys2Proof.Machine

open Sys2Proof Sys2Proof.Claim

namespace Table

variable {α : Type}

/-- The later of two stores of one entry stands. -/
@[simp] theorem set_set (t : Table α) (n : Nat) (a b : α) : (t.set n a).set n b = t.set n b := by
  induction t with
  | nil => simp [set]
  | cons p t ih =>
    obtain ⟨k, c⟩ := p
    by_cases hlt : n < k
    · simp [set, hlt]
    · by_cases hk : k = n
      · simp [set, hk]
      · simp [set, hlt, hk, ih]

/-- A store adds at most one entry to those that satisfy a property. -/
theorem length_filter_set_le_succ (q : Nat × α → Bool) (t : Table α) (n : Nat) (a : α) :
    (List.filter q (t.set n a)).length ≤ (List.filter q t).length + 1 := by
  simp only [← List.countP_eq_length_filter]
  induction t with
  | nil =>
    rw [set, List.countP_cons]
    split <;> simp
  | cons p t ih =>
    obtain ⟨k, b⟩ := p
    unfold set
    split
    · rw [List.countP_cons (a := (n, a))]
      split <;> omega
    · split
      · rw [List.countP_cons, List.countP_cons]
        split <;> omega
      · rw [List.countP_cons, List.countP_cons]
        omega

end Table

/-! ## One pump granted -/

/-- The head of the FIFO is taken off it and authorised. -/
def State.pumpGranted (i : Nat) (rest : List Nat) (s : State) : State :=
  { s with fuel := { s.fuel with fifo := rest } }.authorise i

/-- An authorisation writes its dispenser and the slot of its device. -/
theorem State.authorise_eq (i : Nat) (s : State) : s.authorise i = { s with
    fuel := { s.fuel with dispensers := (s.authorise i).fuel.dispensers }
    bus := { s.bus with devices := (s.authorise i).bus.devices } } := by
  unfold State.authorise
  split
  · rfl
  · split <;> rfl

theorem State.authorise_get_ne {i j : Nat} (s : State) (h : j ≠ i) :
    (s.authorise i).fuel.dispensers.get j = s.fuel.dispensers.get j := by
  unfold State.authorise
  split
  · rfl
  · split
    · rfl
    · exact Table.get_set_ne _ _ h

theorem State.authorise_running_le (i : Nat) (s : State) : (s.authorise i).running ≤ s.running + 1 := by
  unfold State.authorise
  split
  · exact Nat.le_succ _
  · split
    · exact Nat.le_succ _
    · exact Table.length_filter_set_le_succ _ _ _ _

theorem State.pumpGranted_fifo (i : Nat) (rest : List Nat) (s : State) : (s.pumpGranted i rest).fuel.fifo = rest := by
  rw [State.pumpGranted, State.authorise_eq]

theorem State.pumpGranted_mgmt (i : Nat) (rest : List Nat) (s : State) : (s.pumpGranted i rest).mgmt = s.mgmt := by
  rw [State.pumpGranted, State.authorise_eq]

theorem State.pumpGranted_running_le (i : Nat) (rest : List Nat) (s : State) :
    (s.pumpGranted i rest).running ≤ s.running + 1 := State.authorise_running_le i _

/-! ## The run of grants -/

theorem State.grantHeads_nil (n : Nat) {s : State} (h : s.fuel.fifo = []) : s.grantHeads n = s := by
  cases n <;> simp [State.grantHeads, h]

theorem State.grantHeads_full (n : Nat) {s : State} (h : s.mgmt.config.pumpConcurrency ≤ s.running) :
    s.grantHeads n = s := by
  cases n with
  | zero => rfl
  | succ n =>
    rw [State.grantHeads]
    split
    · rfl
    · exact if_neg (Nat.not_lt.2 h)

theorem State.grantHeads_granted (n : Nat) {i : Nat} {rest : List Nat} {s : State} (hq : s.fuel.fifo = i :: rest)
    (h : s.running < s.mgmt.config.pumpConcurrency) : s.grantHeads (n + 1) = (s.pumpGranted i rest).grantHeads n := by
  rw [State.grantHeads, hq]
  exact if_pos h

/-- What each grant of a pump keeps, a grant attempt keeps. -/
theorem State.grantHeads_induction {P : State → Prop}
    (step : ∀ (i : Nat) (rest : List Nat) (t : State), t.fuel.fifo = i :: rest →
      t.running < t.mgmt.config.pumpConcurrency → P t → P (t.pumpGranted i rest))
    (n : Nat) {s : State} (h : P s) : P (s.grantHeads n) := by
  induction n generalizing s with
  | zero => exact h
  | succ n ih =>
    cases hq : s.fuel.fifo with
    | nil => rwa [State.grantHeads_nil _ hq]
    | cons i rest =>
      by_cases hr : s.running < s.mgmt.config.pumpConcurrency
      · rw [State.grantHeads_granted n hq hr]
        exact ih (step i rest s hq hr h)
      · rwa [State.grantHeads_full _ (Nat.not_lt.1 hr)]

/-- A grant attempt writes dispensers, the FIFO, and the slots of devices. -/
theorem State.grantPumps_eq (s : State) : s.grantPumps = { s with
    fuel := { s.fuel with dispensers := s.grantPumps.fuel.dispensers, fifo := s.grantPumps.fuel.fifo }
    bus := { s.bus with devices := s.grantPumps.bus.devices } } :=
  State.grantHeads_induction (P := fun t => t = { s with
      fuel := { s.fuel with dispensers := t.fuel.dispensers, fifo := t.fuel.fifo }
      bus := { s.bus with devices := t.bus.devices } })
    (fun i rest t _ _ h => by rw [State.pumpGranted, State.authorise_eq, h]) _ rfl

theorem State.grantPumps_mgmt (s : State) : s.grantPumps.mgmt = s.mgmt := by rw [State.grantPumps_eq]

/-- A dispenser that is not in the FIFO is as it was. -/
theorem State.grantPumps_get {i : Nat} {s : State} (h : i ∉ s.fuel.fifo) :
    s.grantPumps.fuel.dispensers.get i = s.fuel.dispensers.get i := by
  refine (State.grantHeads_induction
    (P := fun t => i ∉ t.fuel.fifo ∧ t.fuel.dispensers.get i = s.fuel.dispensers.get i)
    (fun j rest t hq _ ht => ⟨?_, ?_⟩) _ ⟨h, rfl⟩).2
  · rw [State.pumpGranted_fifo]
    exact fun hi => ht.1 (hq ▸ .tail _ hi)
  · have hj : i ≠ j := fun e => ht.1 (hq ▸ e ▸ List.mem_cons_self)
    exact (State.authorise_get_ne _ hj).trans ht.2

theorem State.grantPumps_running_le (s : State) :
    s.grantPumps.running ≤ max s.running s.mgmt.config.pumpConcurrency := by
  refine (State.grantHeads_induction
    (P := fun t => t.mgmt = s.mgmt ∧ t.running ≤ max s.running s.mgmt.config.pumpConcurrency)
    (fun i rest t _ hr ht => ⟨(State.pumpGranted_mgmt i rest t).trans ht.1, ?_⟩) _ ⟨rfl, le_max_left _ _⟩).2
  rw [ht.1] at hr
  exact (State.pumpGranted_running_le i rest t).trans (hr.trans_le (le_max_right _ _))

theorem State.grantPumps_fifo (s : State) : ∃ n, s.grantPumps.fuel.fifo = s.fuel.fifo.drop n := by
  refine State.grantHeads_induction (P := fun t => ∃ n, t.fuel.fifo = s.fuel.fifo.drop n) ?_ _ ⟨0, rfl⟩
  rintro i rest t hq - ⟨n, hn⟩
  refine ⟨n + 1, ?_⟩
  rw [State.pumpGranted_fifo, ← List.tail_drop, ← hn, hq, List.tail_cons]

/-- A run of grants as long as the FIFO ends with none waiting or all pumps in use. -/
theorem State.grantHeads_stops {n : Nat} {s : State} (h : s.fuel.fifo.length ≤ n) :
    (s.grantHeads n).fuel.fifo = [] ∨ s.mgmt.config.pumpConcurrency ≤ (s.grantHeads n).running := by
  induction n generalizing s with
  | zero => exact .inl (List.length_eq_zero_iff.1 (Nat.le_zero.1 h))
  | succ n ih =>
    cases hq : s.fuel.fifo with
    | nil => exact .inl (by rw [State.grantHeads_nil _ hq, hq])
    | cons i rest =>
      by_cases hr : s.running < s.mgmt.config.pumpConcurrency
      · have hl : (s.pumpGranted i rest).fuel.fifo.length ≤ n := by
          rw [State.pumpGranted_fifo]
          simpa [hq] using h
        have hs := ih hl
        rw [State.pumpGranted_mgmt] at hs
        rwa [State.grantHeads_granted n hq hr]
      · rw [State.grantHeads_full _ (Nat.not_lt.1 hr)]
        exact .inr (Nat.not_lt.1 hr)

/-- A grant attempt, by how far it goes. -/
theorem pumpGrantsKeepWithinConcurrency : Claim.PumpGrantsKeepWithinConcurrency := fun s _ =>
  ⟨s.grantPumps_running_le, s.grantPumps_fifo, State.grantHeads_stops le_rfl, State.grantHeads_full _⟩

end Sys2Proof.Machine
end

section
/-! SUPPORT. A sale that starts (06 R110), and AUTHORISE SALE with its checks (06 R109). -/

namespace Sys2Proof.Machine

open Sys2Proof Sys2Proof.Claim

/-! ## The record of a sale (06 R110, 02 R42) -/

theorem State.fuelPrice_eq (s : State) (acct : Option Nat) (grade : Nat) :
    s.fuelPrice acct grade = latchedPrice s acct grade := by
  unfold State.fuelPrice latchedPrice
  cases acct.bind s.account <;> rfl

/-- The record a sale starts with. -/
def State.newSale (s : State) (i : Nat) (acct : Option Nat) (token : Option Token) (grade preset : Nat) : Sale :=
  let price := latchedPrice s acct grade
  ⟨none, i, grade, acct, token, price, preset, 0, limitOf preset price, 0, none, acct.isNone, false, false, clockNow s,
    none⟩

/-- The record an office sale starts with is that of the state its frame is taken from. -/
theorem State.taken_newSale (fr : IntakeFrame) (s : State) {f : AuthoriseSale} {n : Option Nat} (hn : f.account = n) :
    (s.taken fr).newSale f.dispenser n none f.grade (f.preset.getD s.mgmt.config.defaultPreset) = startedSale s f := by
  subst hn
  simp only [State.newSale, clockNow, State.taken_timeValid, State.taken_clock]
  rfl

/-- A dispenser that enters HOLDING with a sale. -/
def Dispenser.held (x : Sale) (d : Dispenser) : Dispenser := { d with state := .holding, card := none, sale := some x }

section
variable (i : Nat) (d : Dispenser) (token : Option Token) (grade preset : Nat) (s : State)

/-- An account sale enters HOLDING, and its HOLD joins the FUEL requester. -/
theorem State.startSale_account (n : Nat) : s.startSale i d (some n) token grade preset = State.mark .sale 0 { s with
    fuel := { s.fuel with
      dispensers := s.fuel.dispensers.set i (d.held (s.newSale i (some n) token grade preset)) }
    charge := { s.charge with fuel := s.charge.fuel ++ [⟨i, n, .hold preset⟩] } } := by
  simp only [State.startSale, State.fuelPrice_eq]
  rfl

/-- A cash sale goes on at once to WAIT_PUMP. -/
theorem State.startSale_cash : s.startSale i d none token grade preset =
    ((s.setDispenser i (d.held (s.newSale i none token grade preset))).mark .sale 0).enterWaitPump i := by
  simp only [State.startSale, State.fuelPrice_eq]
  rfl

end

/-- A grant attempt after a sale enters WAIT_PUMP leaves what the management unit does and the charge engine. -/
theorem State.enterWaitPump_leaves (i : Nat) (s : State) :
    (s.enterWaitPump i).mgmt = s.mgmt ∧ (s.enterWaitPump i).charge = s.charge := by
  rw [State.enterWaitPump, State.grantPumps_eq]
  exact ⟨rfl, rfl⟩

/-- An office sale that waits on its hold is answered. -/
theorem State.answerHold_waiting {i : Nat} {fr : IntakeFrame} {s : State} (h : s.mgmt.work = .hold fr i) (a : Answer) :
    s.answerHold i a = s.answer fr a := by
  simp [State.answerHold, h]

/-! ## The checks of AUTHORISE SALE (06 R109) -/

theorem saleRange_iff {f : AuthoriseSale} : saleRange f ↔
    (smallIndexOk f.dispenser && decide (f.grade ≤ 1) && optOk presetOk f.preset && optOk accountOk f.account) = true := by
  simp only [saleRange, Bool.and_eq_true, smallIndexOk_iff, decide_eq_true_eq, optOk_iff, presetOk, accountOk_iff,
    and_assoc]

theorem Dispenser.hose_iff {d : Dispenser} {grade : Nat} :
    d.hose grade = true ↔ grade = 0 ∧ d.hose0 = true ∨ grade = 1 ∧ d.hose1 = true := by
  unfold Dispenser.hose
  split
  · simp
  · simp
  · next h0 h1 => simp [show grade ≠ 0 from h0, show grade ≠ 1 from h1]

theorem State.deviceServes_iff {a : Nat} {s : State} : s.deviceServes a = true ↔
    ∃ v, s.bus.devices.get a = some v ∧ (v.state = .online ∨ v.state = .missing) := by
  cases h : s.bus.devices.get a <;> simp [State.deviceServes, h, DeviceState.reachable_iff]

theorem State.tankLow_iff {grade : Nat} {s : State} : s.tankLow grade = true ↔
    (s.tankOf grade).level ≤ (s.tankOf grade).cutoff := decide_eq_true_iff

theorem State.barred_iff {x : Option Nat} {s : State} : s.barred x = true ↔
    ∃ n a, x = some n ∧ s.account n = some a ∧ (a.standing = .stopped ∨ a.standing = .suspended) := by
  have hs (y : Standing) : (!y.serves) = true ↔ y = .stopped ∨ y = .suspended := by cases y <;> decide
  cases x with
  | none => simp [State.barred]
  | some n => cases h : s.account n <;> simp [State.barred, h, hs]

/-! ## The first check that fails -/

/-- The reason of the first check after the ranges and the dispenser that an AUTHORISE SALE fails, or none. -/
def State.saleRefusal (s : State) (f : AuthoriseSale) (d : Dispenser) : Option ReasonCode :=
  if f.account.isSome && (f.account.bind s.account).isNone then some .notFound
  else if d.state ≠ .idle then some .busy
  else if !d.hose f.grade then some .outOfRange
  else if !s.deviceServes d.address then some .wrongState
  else if 16 ≤ s.saleCount then some .busy
  else if s.tankLow f.grade then some .wrongState
  else if s.barred f.account then some .notPermitted
  else none

section
variable {f : AuthoriseSale} {d : Dispenser} {s : State}

theorem State.saleRefusal_unknown {n : Nat} (hn : f.account = some n) (ha : s.account n = none) :
    s.saleRefusal f d = some .notFound := by
  simp [State.saleRefusal, hn, ha]

section
variable (ha : ∀ n, f.account = some n → s.account n ≠ none)
include ha

theorem State.account_known : (f.account.isSome && (f.account.bind s.account).isNone) = false := by
  cases hn : f.account with
  | none => rfl
  | some n => simpa [Option.isSome_iff_ne_none] using ha n hn

theorem State.saleRefusal_engaged (hs : d.state ≠ .idle) : s.saleRefusal f d = some .busy := by
  simp [State.saleRefusal, State.account_known ha, hs]

section
variable (hs : d.state = .idle)
include hs

theorem State.saleRefusal_noHose (hh : ¬d.hose f.grade = true) : s.saleRefusal f d = some .outOfRange := by
  simp [State.saleRefusal, State.account_known ha, hs, hh]

section
variable (hh : d.hose f.grade = true)
include hh

theorem State.saleRefusal_noDevice (hv : ¬s.deviceServes d.address = true) :
    s.saleRefusal f d = some .wrongState := by
  simp [State.saleRefusal, State.account_known ha, hs, hh, hv]

section
variable (hv : s.deviceServes d.address = true)
include hv

theorem State.saleRefusal_full (hc : 16 ≤ s.saleCount) : s.saleRefusal f d = some .busy := by
  simp [State.saleRefusal, State.account_known ha, hs, hh, hv, hc]

section
variable (hc : s.saleCount < 16)
include hc

theorem State.saleRefusal_low (ht : s.tankLow f.grade = true) : s.saleRefusal f d = some .wrongState := by
  simp [State.saleRefusal, State.account_known ha, hs, hh, hv, Nat.not_le.2 hc, ht]

section
variable (ht : ¬s.tankLow f.grade = true)
include ht

theorem State.saleRefusal_barred (hb : s.barred f.account = true) : s.saleRefusal f d = some .notPermitted := by
  simp [State.saleRefusal, State.account_known ha, hs, hh, hv, Nat.not_le.2 hc, ht, hb]

theorem State.saleRefusal_none (hb : ¬s.barred f.account = true) : s.saleRefusal f d = none := by
  simp [State.saleRefusal, State.account_known ha, hs, hh, hv, Nat.not_le.2 hc, ht, hb]

end
end
end
end
end
end
end

/-! ## AUTHORISE SALE (06 R109) -/

section
variable {fr : IntakeFrame} {f : AuthoriseSale} {d : Dispenser} {s : State}

theorem authoriseSaleAct_outOfRange (h : ¬saleRange f) : authoriseSaleAct fr f s = s.refuse fr .outOfRange := by
  rw [saleRange_iff, Bool.not_eq_true] at h
  simp only [authoriseSaleAct, h, Bool.not_false, if_true]

theorem authoriseSaleAct_notFound (hr : saleRange f) (hd : s.fuel.dispensers.get f.dispenser = none) :
    authoriseSaleAct fr f s = s.refuse fr .notFound := by
  simp only [authoriseSaleAct, saleRange_iff.1 hr, hd, Bool.not_true, Bool.false_eq_true, if_false]

section
variable (hr : saleRange f) (hd : s.fuel.dispensers.get f.dispenser = some d)
include hr hd

theorem authoriseSaleAct_refused {c : ReasonCode} (hc : s.saleRefusal f d = some c) :
    authoriseSaleAct fr f s = s.refuse fr c := by
  simp only [authoriseSaleAct, saleRange_iff.1 hr, hd, Bool.not_true, Bool.false_eq_true, if_false, Config.saleCapacity]
  unfold State.saleRefusal at hc
  split_ifs at hc ⊢ <;> cases hc <;> rfl

/-- An account sale that passes every check starts, and the management unit waits on its hold. -/
theorem authoriseSaleAct_account {n : Nat} (hc : s.saleRefusal f d = none) (hn : f.account = some n) :
    authoriseSaleAct fr f s = (s.setWork (.hold fr f.dispenser)).startSale f.dispenser d (some n) none f.grade
      (f.preset.getD s.mgmt.config.defaultPreset) := by
  simp only [authoriseSaleAct, saleRange_iff.1 hr, hd, Bool.not_true, Bool.false_eq_true, if_false, Config.saleCapacity]
  unfold State.saleRefusal at hc
  rw [hn] at hc ⊢
  split_ifs at hc ⊢
  rfl

/-- A cash sale that passes every check starts, and is answered by the state its dispenser is in. -/
theorem authoriseSaleAct_cash (hc : s.saleRefusal f d = none) (hn : f.account = none) {t : State} {e : Dispenser}
    {x : Sale} (ht : (s.setWork (.hold fr f.dispenser)).startSale f.dispenser d none none f.grade
      (f.preset.getD s.mgmt.config.defaultPreset) = t)
    (he : t.fuel.dispensers.get f.dispenser = some e) (hx : e.sale = some x) : authoriseSaleAct fr f s =
      t.answerHold f.dispenser (.accepted [] (.saleStarted f.dispenser e.state x.price x.limit)) := by
  simp only [authoriseSaleAct, saleRange_iff.1 hr, hd, Bool.not_true, Bool.false_eq_true, if_false, Config.saleCapacity]
  unfold State.saleRefusal at hc
  rw [hn] at hc ⊢
  split_ifs at hc ⊢
  simp only [ht, he, hx, Dispenser.limit, Option.map_some, Option.getD_some]

end
end

/-- A cash sale that enters HOLDING goes on to WAIT_PUMP or AUTHORISED, with nothing handed to the charge engine. -/
theorem State.startSale_cash_get (i : Nat) (d : Dispenser) (grade preset : Nat) (s : State) :
    let t := s.startSale i d none none grade preset
    t.mgmt = s.mgmt ∧ t.charge = s.charge ∧ ∃ e, t.fuel.dispensers.get i = some e ∧
      e.sale = some (s.newSale i none none grade preset) ∧ (e.state = .waitPump ∨ e.state = .authorised) := by
  intro t
  have ht : t = _ := State.startSale_cash i d none grade preset s
  obtain ⟨hm, hc⟩ := State.enterWaitPump_leaves i
    ((s.setDispenser i (d.held (s.newSale i none none grade preset))).mark .sale 0)
  rw [ht]
  exact ⟨hm, hc, State.enterWaitPump_get (d := d.held _) (Table.get_set_self _ _ _)⟩

/-- Settles O39: the checks in their order, then the start by who pays. -/
theorem authoriseSaleIsCheckedAndStarts : Obligations.AuthoriseSaleIsCheckedAndStarts := by
  intro f fr s h u refused tank x
  have refuse {c : ReasonCode} (hc : authoriseSaleAct fr f u = u.refuse fr c) : refused c := exec_of_takes rfl rfl h hc
  refine ⟨fun hr => refuse (authoriseSaleAct_outOfRange hr), fun hr hd => refuse (authoriseSaleAct_notFound hr hd),
    fun d hr hd => ?_⟩
  have hd : u.fuel.dispensers.get f.dispenser = some d := hd
  have check {c : ReasonCode} (hc : u.saleRefusal f d = some c) : refused c :=
    refuse (authoriseSaleAct_refused hr hd hc)
  refine ⟨fun n hn ha => check (State.saleRefusal_unknown hn ha), fun ha =>
    ⟨fun hs => check (State.saleRefusal_engaged ha hs), fun hs => ?_⟩⟩
  intro hose device barred
  have hhose : hose ↔ d.hose f.grade = true := Dispenser.hose_iff.symm
  have hdevice : device ↔ u.deviceServes d.address = true := State.deviceServes_iff.symm
  have hbarred : barred ↔ u.barred f.account = true := State.barred_iff.symm
  have hlow : tank.level ≤ tank.cutoff ↔ u.tankLow f.grade = true := State.tankLow_iff.symm
  have hstock : tank.cutoff < tank.level ↔ ¬u.tankLow f.grade = true := Nat.not_le.symm.trans (not_congr hlow)
  rw [hhose, hdevice, hbarred, hstock, hlow]
  refine ⟨fun hh => check (State.saleRefusal_noHose ha hs hh),
    fun hh hv => check (State.saleRefusal_noDevice ha hs hh hv),
    fun hh hv hc => check (State.saleRefusal_full ha hs hh hv hc),
    fun hh hv hc ht => check (State.saleRefusal_low ha hs hh hv hc ht),
    fun hh hv hc ht hb => check (State.saleRefusal_barred ha hs hh hv hc ht hb), fun hh hv hc ht hb => ?_⟩
  have hpass : u.saleRefusal f d = none := State.saleRefusal_none ha hs hh hv hc ht hb
  have hp : u.mgmt.config = s.mgmt.config := State.taken_config fr s
  refine ⟨fun n hn => ?_, fun hn => ?_⟩
  · intro d' e
    have hx : (u.setWork (.hold fr f.dispenser)).newSale f.dispenser (some n) none f.grade
        (f.preset.getD s.mgmt.config.defaultPreset) = x := State.taken_newSale fr s hn
    have hact : authoriseSaleAct fr f u = e.mark .sale 0 := by
      rw [authoriseSaleAct_account hr hd hpass hn, hp, State.startSale_account, hx]
      rfl
    exact (exec_of_takes_acted authoriseSaleAct rfl rfl h).trans (congrArg acted hact)
  · have hx : (u.setWork (.hold fr f.dispenser)).newSale f.dispenser none none f.grade
        (f.preset.getD s.mgmt.config.defaultPreset) = x := State.taken_newSale fr s hn
    obtain ⟨hm, hcharge, e, he, hes, hst⟩ := State.startSale_cash_get f.dispenser d f.grade
      (f.preset.getD s.mgmt.config.defaultPreset) (u.setWork (.hold fr f.dispenser))
    rw [hx] at hes
    refine ⟨_, e, exec_of_takes rfl rfl h ?_, he, hes, hst, hcharge⟩
    rw [authoriseSaleAct_cash hr hd hpass hn (by rw [hp]) he hes]
    exact State.answerHold_waiting (congrArg ManagementUnit.work hm) _

end Sys2Proof.Machine
end

section
/-! SUPPORT. A sale cancelled, by STOP SALE or by the nozzle timeout (06 R113, R116, R117). -/

namespace Sys2Proof.Machine

open Sys2Proof Sys2Proof.Claim

/-! ## A cancelled sale (06 R117) -/

/-- The sale of a dispenser is off the FIFO, with its HOLD withdrawn and an office sale that waits on it answered. -/
def State.withdrawn (i : Nat) (s : State) : State :=
  let t := (s.withdrawHold i).answerHold i (.refused .wrongState)
  { t with fuel := { t.fuel with fifo := t.fuel.fifo.filter fun j => decide (j ≠ i) } }

theorem State.withdrawn_fifo (i : Nat) (s : State) : i ∉ (s.withdrawn i).fuel.fifo := by simp [State.withdrawn]

/-- A dispenser that waits on the release of its sale's hold. -/
def Dispenser.cancelling (x : Sale) (d : Dispenser) : Dispenser :=
  { d.idled with state := .cancelling, sale := some x }

section
variable {toOffice : Bool} {i : Nat} {d : Dispenser} {x : Sale} {s : State}
  (hd : s.fuel.dispensers.get i = some d) (hx : d.sale = some x)
include hd hx

theorem State.cancelSale_unheld (h : x.hold = 0 ∨ x.account = none) : s.cancelSale toOffice i =
    (((s.withdrawn i).setDispenser i d.idled).mark .sale 0).grantPumps := by
  simp only [State.cancelSale, hd, hx]
  split
  · next hn hz => simp [hn, of_decide_eq_false hz] at h
  · rfl

theorem State.cancelSale_held {n : Nat} (hz : x.hold ≠ 0) (hn : x.account = some n) : s.cancelSale toOffice i =
    ((((s.withdrawn i).setDispenser i (d.cancelling x)).request toOffice ⟨i, n, .release x.hold⟩).mark .sale
      0).grantPumps := by
  simp only [State.cancelSale, hd, hx, hn, decide_eq_false hz]
  rfl

/-- A sale with no hold to release leaves its dispenser idle. -/
theorem State.cancelSale_idles (h : x.hold = 0 ∨ x.account = none) :
    (s.cancelSale toOffice i).fuel.dispensers.get i = some d.idled := by
  rw [State.cancelSale_unheld hd hx h]
  refine (State.grantPumps_get ?_).trans (Table.get_set_self _ _ _)
  exact State.withdrawn_fifo i s

/-- A sale with a hold leaves its dispenser in CANCELLING, and the RELEASE of its hold joins the FUEL requester. -/
theorem State.cancelSale_releases {n : Nat} (hz : x.hold ≠ 0) (hn : x.account = some n) :
    let t := s.cancelSale false i
    t.fuel.dispensers.get i = some (d.cancelling x) ∧
      (⟨i, n, .release x.hold⟩ : FuelRequest) ∈ t.charge.fuel := by
  intro t
  have ht : t = _ := State.cancelSale_held (toOffice := false) hd hx hz hn
  rw [ht, (State.grantPumps_onlyPumps _).charge]
  refine ⟨(State.grantPumps_get ?_).trans (Table.get_set_self _ _ _),
    List.mem_append_right _ (List.mem_singleton_self _)⟩
  exact State.withdrawn_fifo i s

/-- A cancelled sale is off the FIFO, and its dispenser is idle or waits on the release of its hold. -/
theorem State.cancelSale_cancelled : cancelled i d x (s.cancelSale false i) :=
  ⟨(State.cancelSale_fuel hd hx).2.1, State.cancelSale_idles hd hx, fun _ => State.cancelSale_releases hd hx⟩

end

/-- What cancels a sale reads the fuel unit and the charge engine alone. -/
theorem cancelled_congr {i : Nat} {d : Dispenser} {x : Sale} {s t : State} (h : cancelled i d x s)
    (hf : t.fuel = s.fuel) (hc : t.charge = s.charge) : cancelled i d x t := by
  unfold cancelled
  rwa [hf, hc]

/-! ## STOP SALE (06 R116) -/

section
variable {fr : IntakeFrame} {i : Nat} {s : State}

theorem stopSaleAct_outOfRange (hi : 3 < i) : stopSaleAct fr i s = s.refuse fr .outOfRange := by
  simp [stopSaleAct, smallIndexOk, hi]

section
variable (hi : i ≤ 3)
include hi

theorem stopSaleAct_notFound (hd : s.fuel.dispensers.get i = none) : stopSaleAct fr i s = s.refuse fr .notFound := by
  simp [stopSaleAct, smallIndexOk, hi, hd]

section
variable {d : Dispenser} (hd : s.fuel.dispensers.get i = some d)
include hd

theorem stopSaleAct_wrongState
    (hs : d.state = .idle ∨ d.state = .cardWait ∨ d.state = .settling ∨ d.state = .cancelling) :
    stopSaleAct fr i s = s.refuse fr .wrongState := by
  rcases hs with hs | hs | hs | hs <;> simp [stopSaleAct, smallIndexOk, hi, hd, hs]

theorem stopSaleAct_again (hs : d.state = .authorised ∨ d.state = .delivering) (hr : d.stopRequested = true) :
    stopSaleAct fr i s = s.answer fr (.accepted [] .stopRequested) := by
  rcases hs with hs | hs <;> simp [stopSaleAct, smallIndexOk, hi, hd, hs, hr, State.accept]

theorem stopSaleAct_stops (hs : d.state = .authorised ∨ d.state = .delivering) (hr : d.stopRequested = false) :
    stopSaleAct fr i s = State.answer fr (.accepted [] .stopRequested)
      ((s.setDispenser i { d with stopRequested := true, stopAcked := false }).writeOneShot d.address .stop) := by
  rcases hs with hs | hs <;> simp [stopSaleAct, smallIndexOk, hi, hd, hs, hr, State.accept]

theorem stopSaleAct_cancels (hs : d.state = .holding ∨ d.state = .waitPump) :
    stopSaleAct fr i s = (s.cancelSale false i).answer fr (.accepted [] .saleCancelled) := by
  rcases hs with hs | hs <;> simp [stopSaleAct, smallIndexOk, hi, hd, hs, State.accept]

end
end
end

/-! ## The nozzle timeout (06 R113) -/

/-- A STOP takes the place of any command in the slot of its device. -/
theorem Device.writeSlot_stop (v : Device) : (v.writeSlot .stop).slot = some ⟨.stop, 0, !v.sequence⟩ := by
  unfold Device.writeSlot
  split
  · next old _ => cases hc : old.command <;> simp [OneShot.takes]
  · rfl

/-- A device keeps its place on the poll list. -/
theorem State.Spares.listed {s t : State} (h : s.Spares t) {a : Nat} {v : Device}
    (hv : s.bus.devices.get a = some v) : ∃ w, t.bus.devices.get a = some w := by
  have hw := h.served a
  rw [hv] at hw
  cases hg : t.bus.devices.get a with
  | none => simp [hg] at hw
  | some w => exact ⟨w, rfl⟩

section
variable {i : Nat} {d : Dispenser} {s : State} (hd : s.fuel.dispensers.get i = some d)
include hd

theorem State.nozzleExpiry_running {e : Nat} (hs : d.state = .authorised) (he : d.nozzleEnd = some e) :
    s.nozzleExpiry i = ((s.advanceTo e).cancelSale false i).writeOneShot d.address .stop := by
  simp only [State.nozzleExpiry, hd, hs, he]

theorem State.nozzleExpiry_stopped (h : d.state ≠ .authorised ∨ d.nozzleEnd = none) : s.nozzleExpiry i = s := by
  simp only [State.nozzleExpiry, hd]
  split
  · next hs he => simp [hs, he] at h
  · rfl

end

/-- STOP SALE by the state of the dispenser; the timeout by whether an authorised sale's timer runs. -/
theorem stopSaleAndNozzleTimeout : Claim.StopSaleAndNozzleTimeout := by
  intro i s
  refine ⟨fun fr h => ?_, fun d x e ha hd hs hx he => ?_, fun d ha hd hs => ?_⟩
  · refine ⟨fun hi => exec_of_takes rfl rfl h (stopSaleAct_outOfRange hi),
      fun hi hd => exec_of_takes rfl rfl h (stopSaleAct_notFound hi hd), fun d hi hd => ⟨fun hs => ?_, fun hs => ?_,
      fun x hs hx => ⟨_, exec_of_takes rfl rfl h (stopSaleAct_cancels hi hd hs), State.cancelSale_cancelled hd hx⟩⟩⟩
    · exact exec_of_takes rfl rfl h (stopSaleAct_wrongState hi hd hs)
    · exact ⟨fun hr => exec_of_takes rfl rfl h (stopSaleAct_again hi hd hs hr),
        fun hr => exec_of_takes rfl rfl h (stopSaleAct_stops hi hd hs hr)⟩
  · have hk : (s.advanceTo e).Spares ((s.advanceTo e).cancelSale false i) := State.cancelSale_spares false i (.refl _)
    have hc : cancelled i d x ((s.advanceTo e).cancelSale false i) := State.cancelSale_cancelled hd hx
    refine ⟨_, exec_of_active (act := State.nozzleExpiry i) rfl ha, ?_⟩
    rw [State.nozzleExpiry_running hd hs he, State.refreshAlarm_eq]
    refine ⟨hk.now, cancelled_congr hc rfl rfl, fun v hv => ?_⟩
    obtain ⟨w, hw⟩ := hk.listed hv
    refine ⟨w.writeSlot .stop, _, ?_, w.writeSlot_stop, rfl, rfl⟩
    exact (Table.get_modify_self _ _ _).trans (by rw [hw]; rfl)
  · rw [exec_of_active (act := State.nozzleExpiry i) rfl ha, State.nozzleExpiry_stopped hd hs]

end Sys2Proof.Machine
end

section
/-! SUPPORT. What a dispenser's reply brings: totalisers, nozzle and volume, and the end of a delivery (06 R104, R114,
R115; 08 R155, R156). -/

namespace Sys2Proof.Machine

open Sys2Proof Sys2Proof.Claim

/-! ## Two stores of one dispenser -/

@[simp] theorem State.setDispenser_setDispenser (i : Nat) (d e : Dispenser) (s : State) :
    (s.setDispenser i d).setDispenser i e = s.setDispenser i e := by
  simp only [State.setDispenser, Table.set_set]

/-! ## The watched card counter (08 R155) -/

theorem Device.sees_some_iff {α : Type} [DecidableEq α] {d : Device} {w : WatchField} {old new : α} :
    d.sees w (some old) new = true ↔ w ∈ d.watch ∧ old ≠ new := by
  simp [Device.sees]

/-- Whether a reply shows a card: it is not the re-basing one, and the card counter, where watched, differs. -/
def Device.showsCard (fresh : Bool) (c : Nat) (d : Device) : Bool :=
  match d.stored with
  | some (.dispenser c' _ _ _ _ _ _ _) => !fresh && d.sees .cardRead (some c') c
  | _ => false

theorem Device.showsCard_iff {fresh : Bool} {c : Nat} {d : Device} : d.showsCard fresh c = true ↔ fresh = false ∧
    .cardRead ∈ d.watch ∧ ∃ c' k' g' p' n' l' x y, d.stored = some (.dispenser c' k' g' p' n' l' x y) ∧ c' ≠ c := by
  unfold Device.showsCard
  split
  · next c' k' g' p' n' l' x y hd => simp [hd, Device.sees_some_iff]
  · next hd =>
    refine iff_of_false Bool.false_ne_true ?_
    rintro ⟨-, -, c', k', g', p', n', l', x, y, hd', -⟩
    exact hd _ _ _ _ _ _ _ _ hd'

/-- The totalisers and the delivery are taken first, then the card (log 36). -/
theorem State.dispenserStatus_eq (d : Device) (fresh : Bool) (c g p l t0 t1 : Nat) (k : Token) (n : Bool) (s : State) :
    let delta (last : Option Nat) (v : Nat) : Option Nat := if fresh then none else advance 4294967296 last v
    let u := ((s.totaliserReply d.index 0 t0 (delta d.total0 t0)).totaliserReply d.index 1 t1
      (delta d.total1 t1)).dispenserReply d.index n l fresh
    s.dispenserStatus d fresh c k g p n l t0 t1 = if d.showsCard fresh c then u.dispenserCard d.index k g p else u := by
  intro delta u
  cases hd : d.stored with
  | none => simp only [State.dispenserStatus, Device.showsCard, hd]; rfl
  | some st => cases st <;> simp only [State.dispenserStatus, Device.showsCard, hd] <;> rfl

/-! ## Totalisers (06 R104) -/

/-- A totaliser of a dispenser as a reply shows it. -/
def Dispenser.totalled (grade value : Nat) (d : Dispenser) : Dispenser :=
  if grade = 0 then { d with total0 := some value } else { d with total1 := some value }

section
variable {i grade value : Nat} {v : Dispenser} {s : State} (hv : s.fuel.dispensers.get i = some v)
include hv

theorem State.totaliserReply_none :
    s.totaliserReply i grade value none = s.setDispenser i (v.totalled grade value) :=
  congrArg (fun t => { s with fuel := { s.fuel with dispensers := t } })
    (Table.modify_of_some (Dispenser.totalled grade value) hv)

/-- An advance is tallied. -/
theorem State.totaliserReply_some (q : Nat) : s.totaliserReply i grade value (some q) =
    (s.setDispenser i (v.totalled grade value)).modLive fun t =>
      { t with totaliser := addLifetime (2 * i + grade) q t.totaliser } := by
  have hm : s.modDispenser i (Dispenser.totalled grade value) = s.setDispenser i (v.totalled grade value) :=
    State.totaliserReply_none hv
  have hh : (s.setDispenser i (v.totalled grade value)).fuel.dispensers.has i = true := by simp [Table.has]
  calc s.totaliserReply i grade value (some q)
      = if (s.modDispenser i (Dispenser.totalled grade value)).fuel.dispensers.has i then
          (s.modDispenser i (Dispenser.totalled grade value)).modLive fun t =>
            { t with totaliser := addLifetime (2 * i + grade) q t.totaliser }
        else s.modDispenser i (Dispenser.totalled grade value) := rfl
    _ = _ := by rw [hm, if_pos hh]

end

/-! ## Nozzle and volume (06 R104, R114, R115) -/

/-- A dispenser as a reply leaves it: with the nozzle and the delivery volume shown. -/
def Dispenser.shown (lifted : Bool) (l : Nat) (d : Dispenser) : Dispenser :=
  { d with nozzle := if lifted then .lifted else .hung, volume := l }

theorem Dispenser.ends_iff {d : Dispenser} {x : Sale} {hung : Bool} {v : Nat} (hx : d.sale = some x) :
    d.ends hung v = true ↔ hung = true ∨ x.limit ≤ v ∨ d.stopAcked = true := by
  simp [Dispenser.ends, Dispenser.limit, hx, or_assoc]

/-- A sale that delivers, and its end where the reply ends it. -/
def State.delivers (i v : Nat) (d : Dispenser) (hung : Bool) (s : State) : State :=
  let t := s.setDispenser i (d.deliver v)
  if d.ends hung v then t.endDelivery i v else t

section
variable {i v : Nat} {was : Nozzle} {lifted : Bool} {d : Dispenser} {s : State}
  (hd : s.fuel.dispensers.get i = some d)
include hd

theorem State.dispenserReply_rebasing :
    s.dispenserReply i lifted v true = s.setDispenser i (d.shown lifted v) := by
  simp only [State.dispenserReply, hd, if_true]
  rfl

theorem State.dispenserReply_acts : s.dispenserReply i lifted v false =
    (s.setDispenser i (d.shown lifted v)).saleReply i d.nozzle lifted v := by
  simp only [State.dispenserReply, hd, Bool.false_eq_true, if_false]
  rfl

theorem State.saleReply_idle (ha : d.state ≠ .authorised) (hv : d.state ≠ .delivering) :
    s.saleReply i was lifted v = s := by
  simp only [State.saleReply, hd]
  split
  · next hs => exact absurd hs ha
  · next hs => exact absurd hs hv
  all_goals rfl

theorem State.saleReply_stopped (hs : d.state = .authorised) (ha : d.stopAcked = true) :
    s.saleReply i was lifted v = s.endDelivery i v := by
  simp only [State.saleReply, hd, hs, ha, if_true]

theorem State.saleReply_waits (hs : d.state = .authorised) (ha : d.stopAcked = false)
    (h : ¬(lifted = true ∧ was ≠ .lifted ∨ 0 < v)) : s.saleReply i was lifted v = s := by
  have hb : ¬(lifted && decide (was ≠ .lifted) || decide (0 < v)) = true := by simpa using h
  simp only [State.saleReply, hd, hs, ha, Bool.false_eq_true, if_false, if_neg hb]

theorem State.saleReply_starts (hs : d.state = .authorised) (ha : d.stopAcked = false)
    (h : lifted = true ∧ was ≠ .lifted ∨ 0 < v) : s.saleReply i was lifted v = s.delivers i v d (!lifted) := by
  have hb : (lifted && decide (was ≠ .lifted) || decide (0 < v)) = true := by simpa using h
  simp only [State.saleReply, hd, hs, ha, Bool.false_eq_true, if_false, if_pos hb, State.delivers]

theorem State.saleReply_delivers (hs : d.state = .delivering) : s.saleReply i was lifted v =
    s.delivers i v d (!lifted && decide (was = .lifted)) := by
  simp only [State.saleReply, hd, hs, State.delivers]

end

section
variable {i v : Nat} {hung lifted : Bool} {d : Dispenser} {x : Sale} {s : State} (hx : d.sale = some x)
include hx

/-- The dispenser of a sale that delivers after a reply. -/
theorem State.setDispenser_shown_deliver :
    (s.setDispenser i (d.shown lifted v)).setDispenser i ((d.shown lifted v).deliver v) =
      s.setDispenser i { d.shown lifted v with
        state := .delivering, nozzleEnd := none, sale := some { x with volume := v } } := by
  simp [Dispenser.deliver, Dispenser.shown, hx]

theorem State.delivers_ends (h : hung = true ∨ x.limit ≤ v ∨ d.stopAcked = true) :
    s.delivers i v d hung = (s.setDispenser i (d.deliver v)).endDelivery i v :=
  if_pos ((Dispenser.ends_iff hx).2 h)

theorem State.delivers_on (h : ¬(hung = true ∨ x.limit ≤ v ∨ d.stopAcked = true)) :
    s.delivers i v d hung = s.setDispenser i (d.deliver v) := if_neg (mt (Dispenser.ends_iff hx).1 h)

end

/-- A reply is taken in its parts: totalisers, the delivery by the sale's state, and the card. -/
theorem dispenserReplyIsDelivered : Claim.DispenserReplyIsDelivered := by
  refine ⟨fun d fresh carded c g p l t0 t1 k n s h => ?_, fun i grade value delta v s hv => ?_,
    fun i l lifted fresh d s hd => ?_, fun i l s => ⟨fun h => if_pos h, fun h => if_neg h⟩⟩
  · obtain rfl : d.showsCard fresh c = carded := Bool.eq_iff_iff.2 (Device.showsCard_iff.trans h.symm)
    exact State.dispenserStatus_eq d fresh c g p l t0 t1 k n s
  · cases delta with
    | none => exact ⟨by rw [State.totaliserReply_none hv]; rfl, fun _ => by rw [State.totaliserReply_none hv]; rfl, nofun⟩
    | some q =>
      dsimp only
      rw [State.totaliserReply_some hv]
      refine ⟨rfl, nofun, ?_⟩
      rintro _ ⟨rfl⟩
      rfl
  · intro e w t
    have hw : w.fuel.dispensers.get i = some (d.shown lifted l) := Table.get_set_self _ _ _
    have ht (hf : fresh = false) : t = w.saleReply i d.nozzle lifted l := by
      subst hf
      exact State.dispenserReply_acts hd
    refine ⟨fun hf => ?_, fun hf ha hv => (ht hf).trans (State.saleReply_idle hw ha hv), fun x hf hx => ?_⟩
    · subst hf
      exact State.dispenserReply_rebasing hd
    · intro go starts hung
      have hgo : w.setDispenser i ((d.shown lifted l).deliver l) = go := State.setDispenser_shown_deliver hx
      rw [ht hf]
      refine ⟨fun hs ha => State.saleReply_stopped hw hs ha, fun hs ha hn => State.saleReply_waits hw hs ha hn,
        fun hs ha hn => ?_, fun hs => ?_⟩
      · rw [State.saleReply_starts hw hs ha hn, ← hgo]
        exact ⟨fun h => State.delivers_ends hx (h.imp (by simp [·]) .inl),
          fun hl hv => State.delivers_on hx (by simp [Dispenser.shown, hl, hv, ha])⟩
      · rw [State.saleReply_delivers hw hs, ← hgo]
        have hhung : (!lifted && decide (d.nozzle = .lifted)) = true ↔ hung := by simp [hung]
        exact ⟨fun h => State.delivers_ends hx (h.imp hhung.2 id),
          fun hh hv ha => State.delivers_on hx (by rw [hhung]; simp [hh, Dispenser.shown, hv, ha])⟩

end Sys2Proof.Machine
end

section
/-! SUPPORT. A card read at a dispenser, and the decision of it (06 R107, R108, R110; 07 R134, R140). -/

namespace Sys2Proof.Machine

open Sys2Proof Sys2Proof.Claim

/-! ## The journal (07 R140, R141) -/

/-- The gate unit and the report sources alone differ. -/
def State.OnlyJournal (s u : State) : Prop :=
  u = { s with gate := u.gate, trunk := { s.trunk with sources := u.trunk.sources } }

section
variable (r : Requester) (t : Option Token) (d : Decision) (passback queried notStored clockFlag : Bool) (s : State)

theorem State.journalAdd_onlyJournal : s.OnlyJournal (s.journalAdd r t d passback queried notStored clockFlag) := rfl

theorem State.journalAdd_journaled :
    journaled ⟨clockNow s, r, t, d, clockFlag && !s.mgmt.timeValid, passback, queried, notStored⟩ s
      (s.journalAdd r t d passback queried notStored clockFlag) := by
  refine ⟨fun h => ?_, fun h => ?_⟩
  · have hr : s.gate.journal.length < Config.journalCapacity := h
    simp only [State.journalAdd, State.mark_gate, if_pos hr]
    exact ⟨rfl, trivial⟩
  · have hf : ¬s.gate.journal.length < Config.journalCapacity := Nat.not_lt.2 h
    simp only [State.journalAdd, State.mark_gate, if_neg hf]
    exact ⟨trivial, trivial⟩

theorem State.journalAdd_queries :
    (s.journalAdd r t d passback queried notStored clockFlag).gate.queries = s.gate.queries := by
  simp only [State.journalAdd, State.mark_gate]
  split <;> rfl

end

/-! ## A query made (07 R134, R138) -/

theorem State.createSource_get (c : ReportClass) (n : Nat) (s : State) :
    ∃ r, (s.createSource c n).trunk.sources.get (sourceKey ⟨c, n⟩) = some r := by
  by_cases h : s.trunk.sources.has (sourceKey ⟨c, n⟩) = true
  · rw [State.createSource_of_has h]
    exact Option.isSome_iff_exists.1 h
  · simp only [State.createSource, if_neg h]
    exact ⟨_, Table.get_set_self _ _ _⟩

/-- A source that comes to exist or exists, marked. -/
theorem State.createSource_mark (c : ReportClass) (n : Nat) (s : State) :
    ∃ y, ((s.createSource c n).mark c n).trunk.sources.get (sourceKey ⟨c, n⟩) = some y ∧ y.mark = true := by
  obtain ⟨r, hr⟩ := State.createSource_get c n s
  refine ⟨r.marked (s.createSource c n).now, ?_, rfl⟩
  rw [State.mark_trunk, Table.get_modify_self, hr]
  rfl

theorem State.makeQuery_queries (r : Requester) (t : Token) (s : State) : (s.makeQuery r t).gate.queries =
    s.gate.queries ++ [⟨t, r, s.now, s.now + s.mgmt.config.queryTimeout⟩] := by
  rw [State.makeQuery, State.createSource_eq]
  rfl

theorem State.makeQuery_fuel (r : Requester) (t : Token) (s : State) : (s.makeQuery r t).fuel = s.fuel := by
  rw [State.makeQuery, State.createSource_eq]
  rfl

theorem State.makeQuery_marked (r : Requester) (t : Token) (s : State) :
    ∃ y, (s.makeQuery r t).trunk.sources.get (sourceKey ⟨.query, queryIdent r⟩) = some y ∧ y.mark = true :=
  State.createSource_mark _ _ _

theorem State.missRefusal_refuses {s : State} {c : Decision} (h : 4 ≤ s.gate.queries.length ∧ c = .queryBusy ∨
    s.gate.queries.length < 4 ∧ s.trunk.lost = true ∧ c = .officeTimeout) : s.missRefusal = some c := by
  unfold State.missRefusal
  rcases h with ⟨hl, rfl⟩ | ⟨hl, hk, rfl⟩
  · exact if_pos hl
  · exact (if_neg (Nat.not_le.2 hl)).trans (if_pos hk)

theorem State.missRefusal_none {s : State} (hl : s.gate.queries.length < 4) (hk : s.trunk.lost = false) :
    s.missRefusal = none := by
  simp [State.missRefusal, Config.queryCapacity, hl, hk]

/-! ## The checks of a start (06 R107) -/

section
variable {s : State} {d : Dispenser} {grade : Nat}

theorem State.startCode_eq_some_iff {code : Nat} : s.startCode d grade = some code ↔ startRefused s d grade code := by
  have hlow : s.tankLow grade = true ↔ (if grade = 0 then s.fuel.tank0 else s.fuel.tank1).level ≤
      (if grade = 0 then s.fuel.tank0 else s.fuel.tank1).cutoff := State.tankLow_iff
  simp only [State.startCode, startRefused, ← Dispenser.hose_iff, ← hlow, Config.saleCapacity, eq_comm (a := code)]
  cases hh : d.hose grade with
  | false => simp
  | true =>
    by_cases hc : 16 ≤ s.saleCount
    · simp [hc, Nat.not_lt.2 hc]
    · cases ht : s.tankLow grade <;> simp [hc, Nat.not_le.1 hc]

theorem State.startCode_eq_none_iff : s.startCode d grade = none ↔ ∀ code, ¬startRefused s d grade code := by
  simp only [← State.startCode_eq_some_iff, Option.eq_none_iff_forall_ne_some]

end

/-- The display code of a refused decision is that of Table 6.5. -/
theorem displayCode_of {c : Decision} {code : Nat} (h : codeOf c code) : displayCode c = code ∧ c ≠ .granted := by
  unfold codeOf at h
  simp only [List.mem_cons, Prod.mk.injEq, List.not_mem_nil, or_false] at h
  rcases h with ⟨rfl, rfl⟩ | ⟨rfl, rfl⟩ | ⟨rfl, rfl⟩ | ⟨rfl, rfl⟩ | ⟨rfl, rfl⟩ | ⟨rfl, rfl⟩ | ⟨rfl, rfl⟩ | ⟨rfl, rfl⟩ |
    ⟨rfl, rfl⟩ <;> exact ⟨rfl, nofun⟩

/-! ## A card read at a dispenser (06 R107) -/

section
variable {i grade keypad preset : Nat} {t : Token} {d : Dispenser} {s : State}

theorem State.decideCard_hit {e : CacheEntry} (he : s.hit t = some e) : s.decideCard i d t grade preset =
    (s.journalAdd (.dispenser i) (some t) (s.judge .dispenser e).1 (s.judge .dispenser e).2 false false
      true).dispenserDecision i t grade preset (s.judge .dispenser e).1 e.account := by
  simp only [State.decideCard, he]

theorem State.decideCard_refused {c : Decision} (hm : s.hit t = none) (hc : s.missRefusal = some c) :
    s.decideCard i d t grade preset = (s.journalAdd (.dispenser i) (some t) c false false false
      false).dispenserDecision i t grade preset c none := by
  simp only [State.decideCard, hm, hc]

theorem State.decideCard_queried (hm : s.hit t = none) (hc : s.missRefusal = none) :
    s.decideCard i d t grade preset = (s.setDispenser i { d with
      state := .cardWait, card := some ⟨t, grade, preset⟩ }).makeQuery (.dispenser i) t := by
  simp only [State.decideCard, hm, hc]

section
variable (hd : s.fuel.dispensers.get i = some d)
include hd

theorem State.dispenserCard_engaged (hi : d.state ≠ .idle) (hw : d.state ≠ .cardWait) :
    s.dispenserCard i t grade keypad = s.writeOneShot d.address (.refuse 1) := by
  simp only [State.dispenserCard, hd]
  split
  case h_8 hs => exact absurd hs hi
  case h_7 hs => exact absurd hs hw
  all_goals rfl

theorem State.dispenserCard_waiting (hs : d.state = .cardWait) : s.dispenserCard i t grade keypad =
    s.journalAdd (.dispenser i) (some t) .busy false false false false := by
  simp only [State.dispenserCard, hd, hs]

theorem State.dispenserCard_refused {code : Nat} (hs : d.state = .idle) (hc : s.startCode d grade = some code) :
    s.dispenserCard i t grade keypad = s.writeOneShot d.address (.refuse code) := by
  simp only [State.dispenserCard, hd, hs, hc]

theorem State.dispenserCard_decided (hs : d.state = .idle) (hc : s.startCode d grade = none) :
    s.dispenserCard i t grade keypad = s.decideCard i d t grade (presetOf s keypad) := by
  simp only [State.dispenserCard, hd, hs, hc]
  rfl

/-! ## The decision at a dispenser (06 R108, R110) -/

theorem State.refuseCard_eq (code : Nat) :
    s.refuseCard i code = (s.setDispenser i d.idled).writeOneShot d.address (.refuse code) := by
  simp only [State.refuseCard, hd]

theorem State.dispenserDecision_checked {n code : Nat} (hc : s.startCode d grade = some code) :
    s.dispenserDecision i t grade preset .granted (some n) = s.refuseCard i code := by
  simp only [State.dispenserDecision, hd, hc]

theorem State.dispenserDecision_starts {n : Nat} (hc : s.startCode d grade = none) :
    s.dispenserDecision i t grade preset .granted (some n) = s.startSale i d (some n) (some t) grade preset := by
  simp only [State.dispenserDecision, hd, hc]

theorem State.dispenserDecision_refused {c : Decision} (hc : c ≠ .granted) (a : Option Nat) :
    s.dispenserDecision i t grade preset c a = s.refuseCard i (displayCode c) := by
  simp only [State.dispenserDecision, hd]
  split
  · exact absurd rfl hc
  · rfl

end
end

/-- A card read by the state of the dispenser, the checks, and the cache; its decision by the checks made again. -/
theorem cardReadAtADispenser : Claim.CardReadAtADispenser := by
  refine ⟨fun i grade keypad t d s hd => ?_, fun i grade preset t d s hd => ?_⟩
  · intro x entry p journalOnly
    refine ⟨State.dispenserCard_engaged hd, fun hs => ?_,
      fun code hs hc => State.dispenserCard_refused hd hs (State.startCode_eq_some_iff.2 hc), fun hs hc => ?_⟩
    · have hx : x = _ := State.dispenserCard_waiting hd hs
      rw [hx]
      exact ⟨State.journalAdd_onlyJournal .., State.journalAdd_journaled .., State.journalAdd_queries ..⟩
    · have hx : x = s.decideCard i d t grade p := State.dispenserCard_decided hd hs (State.startCode_eq_none_iff.2 hc)
      rw [hx]
      refine ⟨fun e he => ⟨_, ?_, State.journalAdd_journaled .., State.decideCard_hit he⟩, fun c hm hr =>
        ⟨_, ?_, State.journalAdd_journaled .., State.decideCard_refused hm (State.missRefusal_refuses hr)⟩,
        fun hm hl hk => ?_⟩
      · exact State.journalAdd_onlyJournal ..
      · exact State.journalAdd_onlyJournal ..
      · rw [State.decideCard_queried hm (State.missRefusal_none hl hk), State.makeQuery_fuel, State.makeQuery_queries]
        exact ⟨Table.get_set_self _ _ _, rfl, State.makeQuery_marked ..⟩
  · intro refused
    refine ⟨fun n code hc => ?_, fun n hc => ?_, fun c a code hc => ?_⟩
    · exact (State.dispenserDecision_checked hd (State.startCode_eq_some_iff.2 hc)).trans (State.refuseCard_eq hd code)
    · intro price x
      exact ⟨_, (State.dispenserDecision_starts hd (State.startCode_eq_none_iff.2 hc)).trans
        (State.startSale_account ..), rfl, rfl, rfl⟩
    · obtain ⟨rfl, hg⟩ := displayCode_of hc
      exact (State.dispenserDecision_refused hd hg a).trans (State.refuseCard_eq hd _)

/-- Settles O40, from its four parts. -/
theorem salesStopAndPumpsAreGranted : Obligations.SalesStopAndPumpsAreGranted :=
  ⟨stopSaleAndNozzleTimeout, pumpGrantsKeepWithinConcurrency, dispenserReplyIsDelivered, cardReadAtADispenser⟩

end Sys2Proof.Machine
end

section
/-! SUPPORT. The credential cache: what a token hits, and INVALIDATE (07 R127, R129). -/

namespace Sys2Proof.Machine

open Sys2Proof Sys2Proof.Claim

/-- A test of what may be there passes where something is there and passes it. -/
theorem getD_map_eq_true_iff {α : Type} {p : α → Bool} {x : Option α} :
    (x.map p).getD false = true ↔ ∃ a, x = some a ∧ p a = true := by
  cases x <;> simp

/-! ## What a token hits (07 R127) -/

theorem State.holder_eq_some_iff {s : State} {t : Token} {e : CacheEntry} :
    s.holder t = some e ↔ s.gate.cache.get (tokenIndex t) = some e ∧ e.tag = tokenTag t := by
  simp [State.holder, Option.filter_eq_some_iff]

theorem State.cacheable_iff {s : State} {n : Nat} :
    s.cacheable n = true ↔ s.mgmt.config.cacheLow ≤ n ∧ n ≤ s.mgmt.config.cacheHigh := decide_eq_true_iff

theorem State.hit_eq_some_iff {s : State} {t : Token} {e : CacheEntry} :
    s.hit t = some e ↔ s.cacheable t.toNat = true ∧ s.holder t = some e := by
  unfold State.hit
  split
  · next hc => simp [hc]
  · next hc => simp [hc]

theorem State.holder_of_hit {s : State} {t : Token} {e : CacheEntry} (h : s.hit t = some e) : s.holder t = some e :=
  (State.hit_eq_some_iff.1 h).2

/-- A hit is a token of the cacheable range that its entry holds. -/
theorem hitsAreFoundInTheCache : Claim.HitsAreFoundInTheCache := by
  intro t e s held
  refine ⟨State.holder_eq_some_iff, ?_⟩
  rw [State.hit_eq_some_iff, State.cacheable_iff, State.holder_eq_some_iff, and_assoc]
  rfl

/-! ## INVALIDATE (07 R129) -/

/-- With UNPIN, nothing is kept. -/
theorem kept_all_unpin : kept (.all true) = fun _ _ => false :=
  funext fun _ => funext fun _ => Bool.and_false _

/-- Without UNPIN, the pinned entries are kept. -/
theorem kept_all_pinned : kept (.all false) = fun _ e => e.pinned :=
  funext fun _ => funext fun _ => Bool.and_true _

theorem invalidateAct_eq (fr : IntakeFrame) (f : Invalidate) (s : State) :
    let c := s.gate.cache.filter fun p => kept f p.1 p.2
    invalidateAct fr f s =
      (s.setCache c).answer fr (.accepted [] (.invalidated (s.gate.cache.length - c.length))) := rfl

/-- Settles O46: the entries an INVALIDATE does not keep leave the cache, and the reply counts them. -/
theorem invalidateRemovesCacheEntries : Obligations.InvalidateRemovesCacheEntries := by
  intro f fr s h u keeps c
  have hkeeps : keeps = kept f := by
    cases f with
    | token t => rfl
    | all unpin =>
      cases unpin with
      | true => exact kept_all_unpin.symm
      | false => exact kept_all_pinned.symm
  have hc : c = s.gate.cache.filter fun p => kept f p.1 p.2 := by rw [← hkeeps]
  rw [hc]
  exact exec_of_takes rfl rfl h (invalidateAct_eq fr f u)

end Sys2Proof.Machine
end

section
/-! SUPPORT. The decision order (07 Table 7.3, R130), test by test. -/

namespace Sys2Proof.Machine

open Sys2Proof Sys2Proof.Claim

/-! ## The tests -/

/-- Whether a credential has expired by a valid clock. -/
def State.expires (s : State) (e : CacheEntry) : Bool :=
  s.mgmt.timeValid && (e.validUntil.map fun v => decide (v < s.mgmt.clock)).getD false

/-- Whether a credential may not take fuel at a dispenser. -/
def CacheEntry.noFuel (q : Asker) (e : CacheEntry) : Bool :=
  decide (q = .dispenser) && (!e.fuelPermitted || e.account.isNone)

/-- Whether a visitor has no berth where one is asked. -/
def State.berthless (s : State) (q : Asker) (e : CacheEntry) : Bool :=
  decide (q ≠ .exit ∧ e.kind = .visitor) && !s.linked e.account

section
variable {s : State} {q : Asker} {e : CacheEntry}

theorem State.expires_iff :
    s.expires e = true ↔ s.mgmt.timeValid = true ∧ ∃ v, e.validUntil = some v ∧ v < s.mgmt.clock := by
  simp only [State.expires, Bool.and_eq_true, getD_map_eq_true_iff, decide_eq_true_eq]

theorem CacheEntry.noFuel_iff :
    e.noFuel q = true ↔ q = .dispenser ∧ (e.fuelPermitted = false ∨ e.account = none) := by
  simp [CacheEntry.noFuel]

theorem State.linked_iff {n : Option Nat} : s.linked n = true ↔ ∃ p ∈ s.berth.berths,
    (p.2.state = .occupied ∨ p.2.state = .held) ∧ n ≠ none ∧ p.2.account = n := by
  simp only [State.linked, List.any_eq_true, Bool.and_eq_true, Bool.or_eq_true, decide_eq_true_eq,
    Option.isSome_iff_ne_none, and_assoc]

theorem State.berthless_iff : s.berthless q e = true ↔ e.kind = .visitor ∧ q ≠ .exit ∧
    ¬∃ p ∈ s.berth.berths,
      (p.2.state = .occupied ∨ p.2.state = .held) ∧ e.account ≠ none ∧ p.2.account = e.account := by
  rw [← State.linked_iff, State.berthless]
  simp [and_assoc, and_left_comm]

theorem State.accountTest_absent {n : Nat} (hn : e.account = some n) (ha : s.account n = none) :
    s.accountTest q e.account = some .unknownAccount := by
  simp only [State.accountTest, hn, ha]

theorem State.accountTest_suspended {n : Nat} {a : Account} (hn : e.account = some n) (ha : s.account n = some a)
    (hs : a.standing = .suspended) : s.accountTest q e.account = some .suspended := by
  simp only [State.accountTest, hn, ha, hs]

theorem State.accountTest_stopped {n : Nat} {a : Account} (hn : e.account = some n) (ha : s.account n = some a)
    (hs : a.standing = .stopped) : s.accountTest .dispenser e.account = some .stopped := by
  simp only [State.accountTest, hn, ha, hs, if_true]

theorem State.accountTest_passes (habsent : ¬∃ n, e.account = some n ∧ s.account n = none)
    (hsuspended : ¬∃ n a, e.account = some n ∧ s.account n = some a ∧ a.standing = .suspended)
    (hstopped : ¬((∃ n a, e.account = some n ∧ s.account n = some a ∧ a.standing = .stopped) ∧ q = .dispenser)) :
    s.accountTest q e.account = none := by
  cases hn : e.account with
  | none => rfl
  | some n =>
    cases ha : s.account n with
    | none => exact absurd ⟨n, hn, ha⟩ habsent
    | some a =>
      simp only [State.accountTest, ha]
      cases hs : a.standing with
      | suspended => exact absurd ⟨n, a, hn, ha, hs⟩ hsuspended
      | stopped => exact if_neg fun hq => hstopped ⟨⟨n, a, hn, ha, hs⟩, hq⟩
      | good => rfl
      | low => rfl

/-! ## The decision -/

theorem State.judge_expired (h : s.expires e = true) : s.judge q e = (.expired, false) := if_pos h

section
variable (hx : s.expires e = false)
include hx

theorem State.judge_noFuel (h : e.noFuel q = true) : s.judge q e = (.notPermitted, false) :=
  (if_neg (ne_true_of_eq_false hx)).trans (if_pos h)

variable (hf : e.noFuel q = false)
include hf

theorem State.judge_account {d : Decision} (h : s.accountTest q e.account = some d) : s.judge q e = (d, false) := by
  refine (if_neg (ne_true_of_eq_false hx)).trans ((if_neg (ne_true_of_eq_false hf)).trans ?_)
  rw [h]

variable (ha : s.accountTest q e.account = none)
include ha

theorem State.judge_berthless (h : s.berthless q e = true) : s.judge q e = (.noBerth, false) := by
  refine (if_neg (ne_true_of_eq_false hx)).trans ((if_neg (ne_true_of_eq_false hf)).trans ?_)
  rw [ha]
  exact if_pos h

variable (hb : s.berthless q e = false)
include hb

theorem State.judge_first (h : ¬(q = .entry ∧ e.presence = .inside)) : s.judge q e = (.granted, false) := by
  refine (if_neg (ne_true_of_eq_false hx)).trans ((if_neg (ne_true_of_eq_false hf)).trans ?_)
  rw [ha]
  exact (if_neg (ne_true_of_eq_false hb)).trans (if_neg h)

/-- A token that is inside asks to enter again: the passback mode decides. -/
theorem State.judge_again (h : q = .entry ∧ e.presence = .inside) : s.judge q e =
    match s.mgmt.config.passback with
    | .off => (.granted, false)
    | .log => (.granted, true)
    | .enforce => (.passback, false) := by
  refine (if_neg (ne_true_of_eq_false hx)).trans ((if_neg (ne_true_of_eq_false hf)).trans ?_)
  rw [ha]
  exact (if_neg (ne_true_of_eq_false hb)).trans (if_pos h)

end
end

/-- The first test that applies decides. -/
theorem decisionTestsInOrder : Claim.DecisionTestsInOrder := by
  intro q e s expired unpermitted absent stands unlinked again
  refine ⟨fun hx => State.judge_expired (State.expires_iff.2 hx), fun hx hf => ?_, fun hx hf => ?_⟩ <;>
    have hx' := eq_false_of_ne_true (mt State.expires_iff.1 hx)
  · exact State.judge_noFuel hx' (CacheEntry.noFuel_iff.2 hf)
  have hf' := eq_false_of_ne_true (mt CacheEntry.noFuel_iff.1 hf)
  refine ⟨?_, ?_, ?_, fun habsent hsuspended hstopped => ?_⟩
  · rintro ⟨n, hn, ha⟩
    exact State.judge_account hx' hf' (State.accountTest_absent hn ha)
  · rintro ⟨n, a, hn, ha, hs⟩
    exact State.judge_account hx' hf' (State.accountTest_suspended hn ha hs)
  · rintro ⟨n, a, hn, ha, hs⟩ rfl
    exact State.judge_account hx' hf' (State.accountTest_stopped hn ha hs)
  have ha := State.accountTest_passes habsent hsuspended hstopped
  refine ⟨fun hb => State.judge_berthless hx' hf' ha (State.berthless_iff.2 hb), fun hb hr => ?_, fun hb hr => ?_⟩ <;>
    have hb' := eq_false_of_ne_true (mt State.berthless_iff.1 hb)
  · exact State.judge_first hx' hf' ha hb' hr
  · rw [State.judge_again hx' hf' ha hb' hr]
    exact ⟨fun hp => by rw [hp], fun hp => by rw [hp], fun hp => by rw [hp]⟩

end Sys2Proof.Machine
end

section
/-! SUPPORT. Decisions at a gate reader: the card read, the grant's presence and the miss (07 R131, R134, R140). -/

namespace Sys2Proof.Machine

open Sys2Proof Sys2Proof.Claim

/-! ## The journal (07 R140) -/

section
variable (r : Requester) (t : Option Token) (d : Decision) (passback queried notStored clockFlag : Bool) (s : State)

/-- A journal entry changes the journal and GAP of the gate unit. -/
theorem State.journalAdd_gate : (s.journalAdd r t d passback queried notStored clockFlag).gate = { s.gate with
    journal := (s.journalAdd r t d passback queried notStored clockFlag).gate.journal
    gap := (s.journalAdd r t d passback queried notStored clockFlag).gate.gap } := by
  simp only [State.journalAdd, State.mark_gate]
  split <;> rfl

@[simp] theorem State.journalAdd_readers :
    (s.journalAdd r t d passback queried notStored clockFlag).gate.readers = s.gate.readers := by
  rw [State.journalAdd_gate]

@[simp] theorem State.journalAdd_cache :
    (s.journalAdd r t d passback queried notStored clockFlag).gate.cache = s.gate.cache := by
  rw [State.journalAdd_gate]

end

/-! ## A decision at a reader (07 R131) -/

/-- A reader after a decision. -/
def Reader.decided (t : Token) (d : Decision) (r : Reader) : Reader := { r with last := some (t, d) }

/-- A reader after a grant, its release window ending at a moment. -/
def Reader.released (t : Token) (windowEnd : Nat) (r : Reader) : Reader :=
  { r with last := some (t, .granted), windowEnd := some windowEnd }

/-- The end of a release window that starts now. -/
def State.releaseEnd (s : State) : Nat := s.now + s.mgmt.config.unlockTime * 1000

/-- A one-shot that the slot takes is stored in it. -/
theorem Device.writeSlot_taken {c : OneShot} {d : Device} (h : ∀ y, d.slot = some y → y.command.takes c = true) :
    (d.writeSlot c).slot = some ⟨c, 0, !d.sequence⟩ := by
  unfold Device.writeSlot
  split
  · next old ho => rw [if_pos (h old ho)]
  · rfl

theorem State.writeOneShot_get {a : Nat} {d : Device} {s : State} (h : s.bus.devices.get a = some d) (c : OneShot) :
    (s.writeOneShot a c).bus.devices.get a = some (d.writeSlot c) := by
  rw [State.writeOneShot, State.modDevice_bus, Table.get_modify_self, h]
  rfl

section
variable {i : Nat} {t : Token} {d : Decision} {passback queried notStored judged : Bool} {r : Reader} {s : State}

theorem State.gateDecision_absent (hr : s.gate.readers.get i = none) :
    s.gateDecision i t d passback queried notStored judged = s := by
  simp only [State.gateDecision, hr]

variable (hr : s.gate.readers.get i = some r)
include hr

theorem State.gateDecision_granted : s.gateDecision i t .granted passback queried notStored judged =
    ((s.journalAdd (.gate i) (some t) .granted passback queried notStored judged).setReader i
      (r.released t s.releaseEnd)).writeOneShot r.address (.unlock s.mgmt.config.unlockTime) := by
  simp only [State.gateDecision, hr]
  rfl

theorem State.gateDecision_refused (hd : d ≠ .granted) : s.gateDecision i t d passback queried notStored judged =
    (s.journalAdd (.gate i) (some t) d passback queried notStored judged).setReader i (r.decided t d) := by
  simp only [State.gateDecision, hr]
  rfl

/-- Every decision at a loaded reader is journaled. -/
theorem State.gateDecision_journaled :
    journaled ⟨clockNow s, .gate i, some t, d, judged && !s.mgmt.timeValid, passback, queried, notStored⟩ s
      (s.gateDecision i t d passback queried notStored judged) := by
  have hj := s.journalAdd_journaled (.gate i) (some t) d passback queried notStored judged
  by_cases hd : d = .granted
  · subst hd
    rw [State.gateDecision_granted hr]
    exact hj
  · rw [State.gateDecision_refused hr hd]
    exact hj

theorem State.gateDecision_reader_granted :
    (s.gateDecision i t .granted passback queried notStored judged).gate.readers.get i =
      some (r.released t s.releaseEnd) := by
  rw [State.gateDecision_granted hr]
  exact Table.get_set_self _ _ _

theorem State.gateDecision_reader_refused (hd : d ≠ .granted) :
    (s.gateDecision i t d passback queried notStored judged).gate.readers.get i = some (r.decided t d) := by
  rw [State.gateDecision_refused hr hd]
  exact Table.get_set_self _ _ _

end

/-- A decision does nothing at a reader not loaded; else it is journaled, changes the reader but for its side, and
writes no more than the bus. -/
theorem State.gateDecision_cases (i : Nat) (t : Token) (d : Decision) (passback queried notStored judged : Bool)
    (s : State) : s.gateDecision i t d passback queried notStored judged = s ∨
      ∃ r r', s.gate.readers.get i = some r ∧ r'.side = r.side ∧
        s.gateDecision i t d passback queried notStored judged =
          { (s.journalAdd (.gate i) (some t) d passback queried notStored judged).setReader i r' with
            bus := (s.gateDecision i t d passback queried notStored judged).bus } := by
  cases hr : s.gate.readers.get i with
  | none => exact .inl (State.gateDecision_absent hr)
  | some r =>
    by_cases hd : d = .granted
    · subst hd
      exact .inr ⟨r, r.released t s.releaseEnd, rfl, rfl, by rw [State.gateDecision_granted hr]; rfl⟩
    · exact .inr ⟨r, r.decided t d, rfl, rfl, by rw [State.gateDecision_refused hr hd]⟩

/-- A decision at a reader leaves the cache and the pending queries. -/
theorem State.gateDecision_spares (i : Nat) (t : Token) (d : Decision) (passback queried notStored judged : Bool)
    (s : State) : (s.gateDecision i t d passback queried notStored judged).gate.cache = s.gate.cache ∧
      (s.gateDecision i t d passback queried notStored judged).gate.queries = s.gate.queries := by
  obtain h | ⟨r, r', -, -, h⟩ := s.gateDecision_cases i t d passback queried notStored judged <;> rw [h]
  · exact ⟨rfl, rfl⟩
  · exact ⟨State.journalAdd_cache .., State.journalAdd_queries ..⟩

/-! ## The presence a grant sets (07 R131) -/

/-- A reader with its unlock record. -/
def Reader.unlocked (t : Token) (before : Option Presence) (r : Reader) : Reader :=
  { r with unlock := some ⟨t, before, presenceOf r.side⟩ }

section
variable {i : Nat} {t : Token} {r : Reader} {s : State}

theorem State.gatePresence_absent (hr : s.gate.readers.get i = none) : s.gatePresence i t = s := by
  simp only [State.gatePresence, hr]

variable (hr : s.gate.readers.get i = some r)
include hr

theorem State.gatePresence_held {e : CacheEntry} (he : s.holder t = some e) : s.gatePresence i t =
    (s.setCache (s.gate.cache.set (tokenIndex t) { e with presence := presenceOf r.side })).setReader i
      (r.unlocked t (some e.presence)) := by
  simp only [State.gatePresence, hr, he]
  rfl

theorem State.gatePresence_unheld (he : s.holder t = none) :
    s.gatePresence i t = s.setReader i (r.unlocked t none) := by
  simp only [State.gatePresence, hr, he]
  rfl

/-! ## A card read at a gate (07 R131, R132, R134) -/

theorem State.gateCard_granted {e : CacheEntry} (he : s.hit t = some e)
    (hj : (s.judge (askerOf r.side) e).1 = .granted) : s.gateCard i t =
      (s.gateDecision i t .granted (s.judge (askerOf r.side) e).2 false false true).gatePresence i t := by
  simp only [State.gateCard, hr, he, hj, if_true]

theorem State.gateCard_refused {e : CacheEntry} (he : s.hit t = some e)
    (hj : (s.judge (askerOf r.side) e).1 ≠ .granted) : s.gateCard i t =
      s.gateDecision i t (s.judge (askerOf r.side) e).1 (s.judge (askerOf r.side) e).2 false false true := by
  simp only [State.gateCard, hr, he, if_neg hj]

variable (hm : s.hit t = none)
include hm

theorem State.gateCard_busy (hq : s.queryOf (.gate i) ≠ none) :
    s.gateCard i t = s.journalAdd (.gate i) (some t) .busy false false false false := by
  simp only [State.gateCard, hr, hm, if_pos (Option.isSome_iff_ne_none.2 hq)]

variable (hq : s.queryOf (.gate i) = none)
include hq

theorem State.gateCard_missed {d : Decision} (hd : s.missRefusal = some d) :
    s.gateCard i t = s.gateDecision i t d false false false false := by
  simp only [State.gateCard, hr, hm, hq, hd]
  rfl

theorem State.gateCard_queried (hd : s.missRefusal = none) : s.gateCard i t = s.makeQuery (.gate i) t := by
  simp only [State.gateCard, hr, hm, hq, hd]
  rfl

end

/-- The slot of the device a grant writes UNLOCK for. -/
theorem State.gateDecision_unlocks {i : Nat} {t : Token} {r : Reader} {s : State} {d : Device}
    (hr : s.gate.readers.get i = some r) (hd : s.bus.devices.get r.address = some d)
    (passback queried notStored judged : Bool) :
    (s.gateDecision i t .granted passback queried notStored judged).bus.devices.get r.address =
      some (d.writeSlot (.unlock s.mgmt.config.unlockTime)) := by
  rw [State.gateDecision_granted hr]
  exact State.writeOneShot_get hd _

/-- A grant from the cache, whole: the decision, then the presence of the entry it was judged from. -/
theorem State.gateCard_grant {i : Nat} {t : Token} {r : Reader} {e : CacheEntry} {s : State}
    (hr : s.gate.readers.get i = some r) (he : s.hit t = some e) (hj : (s.judge (askerOf r.side) e).1 = .granted) :
    let u := s.gateDecision i t .granted (s.judge (askerOf r.side) e).2 false false true
    s.gateCard i t = (u.setCache (s.gate.cache.set (tokenIndex t) { e with presence := presenceOf r.side })).setReader i
      ((r.released t s.releaseEnd).unlocked t (some e.presence)) := by
  intro u
  obtain ⟨hcache, -⟩ := s.gateDecision_spares i t .granted (s.judge (askerOf r.side) e).2 false false true
  have hheld : u.holder t = some e := by
    rw [State.holder_eq_some_iff, hcache]
    exact State.holder_eq_some_iff.1 (State.holder_of_hit he)
  rw [State.gateCard_granted hr he hj, State.gatePresence_held (State.gateDecision_reader_granted hr) hheld, hcache]
  rfl

/-- A query made leaves the journal and the cache. -/
theorem State.makeQuery_spares (r : Requester) (t : Token) (s : State) :
    (s.makeQuery r t).gate.journal = s.gate.journal ∧ (s.makeQuery r t).gate.cache = s.gate.cache := by
  rw [State.makeQuery, State.createSource_eq]
  exact ⟨rfl, rfl⟩

/-- A card at a gate, by whether it hits, and then by the decision or by what the miss meets. -/
theorem cardReadAtAGate : Claim.CardReadAtAGate := by
  intro i t r s hr x q presence entry
  have missed {d : Decision} (hm : s.hit t = none) (hq : s.queryOf (.gate i) = none) (hd : s.missRefusal = some d) :
      journaled (entry d false false) s x ∧ x.gate.queries = s.gate.queries := by
    have hx : x = _ := State.gateCard_missed hr hm hq hd
    rw [hx]
    exact ⟨State.gateDecision_journaled hr, (State.gateDecision_spares ..).2⟩
  refine ⟨fun e he => ⟨?_, fun hj => ?_, fun hj => ?_⟩, fun hm =>
    ⟨?_, fun hq => ?_, fun hq hl => ?_, fun hq hl hk => ?_, fun hq hl hk => ?_⟩⟩
  · by_cases hj : (s.judge q e).1 = .granted
    · have hx : x = _ := State.gateCard_grant hr he hj
      rw [hx, hj]
      exact State.gateDecision_journaled hr
    · have hx : x = _ := State.gateCard_refused hr he hj
      rw [hx]
      exact State.gateDecision_journaled hr
  · have hx : x = _ := State.gateCard_grant hr he hj
    rw [hx]
    exact ⟨Table.get_set_self _ _ _, rfl, fun d hd =>
      ⟨_, State.gateDecision_unlocks hr hd .., Device.writeSlot_taken⟩⟩
  · have hx : x = _ := State.gateCard_refused hr he hj
    rw [hx]
    exact ⟨State.gateDecision_reader_refused hr hj, (State.gateDecision_spares ..).1⟩
  · by_cases hq : s.queryOf (.gate i) = none
    · cases hd : s.missRefusal with
      | some d =>
        have hx : x = _ := State.gateCard_missed hr hm hq hd
        rw [hx]
        exact (State.gateDecision_spares ..).1
      | none =>
        have hx : x = _ := State.gateCard_queried hr hm hq hd
        rw [hx]
        exact (State.makeQuery_spares ..).2
    · have hx : x = _ := State.gateCard_busy hr hm hq
      rw [hx]
      exact State.journalAdd_cache ..
  · have hx : x = _ := State.gateCard_busy hr hm hq
    rw [hx]
    exact ⟨State.journalAdd_journaled .., State.journalAdd_queries ..⟩
  · exact missed hm hq (State.missRefusal_refuses (.inl ⟨hl, rfl⟩))
  · exact missed hm hq (State.missRefusal_refuses (.inr ⟨hl, hk, rfl⟩))
  · have hx : x = _ := State.gateCard_queried hr hm hq (State.missRefusal_none hl hk)
    rw [hx, State.makeQuery_queries]
    exact ⟨(State.makeQuery_spares ..).1, rfl, State.makeQuery_marked ..⟩

end Sys2Proof.Machine
end

section
/-! SUPPORT. What a gate reader's reply brings: the card, the exit button, the door (07 R132, R133; 08 R155). -/

namespace Sys2Proof.Machine

open Sys2Proof Sys2Proof.Claim

/-! ## The watched fields of a reply (log 49) -/

theorem State.gateReply_rebasing (d : Device) (c e : Nat) (k : Token) (o : Bool) (s : State) :
    s.gateReply d true c k e o = s.modReader d.index fun r => { r with door := if o then .opened else .closed } := rfl

theorem State.gateReply_watched {d : Device} {c' e' : Nat} {k' : Token} {o' : Bool}
    (hd : d.stored = some (.gate c' k' e' o')) (c e : Nat) (k : Token) (o : Bool) (s : State) :
    let u := if d.sees .cardRead (some c') c then s.gateCard d.index k else s
    let v := if d.sees .exitButton (some e') e then u.exitButton d.index else u
    s.gateReply d false c k e o = if d.sees .door (some o') o then v.doorEvent d.index o else v := by
  simp only [State.gateReply, hd]
  rfl

/-- A reply brings the event of a field where the field is watched and differs from the stored one (08 R155). -/
theorem Device.sees_eq {α : Type} [DecidableEq α] {d : Device} {w : WatchField} {old new : α} {b : Bool}
    (h : b = true ↔ w ∈ d.watch ∧ old ≠ new) : d.sees w (some old) new = b := by
  rw [Bool.eq_iff_iff, Device.sees_some_iff, h]

/-! ## The exit button and the door (07 R132, R133) -/

section
variable {i : Nat} {r : Reader} {s : State} (hr : s.gate.readers.get i = some r)
include hr

theorem State.exitButton_eq : s.exitButton i =
    (s.journalAdd (.gate i) none .exitButton false false false false).setReader i
      { r with windowEnd := some s.releaseEnd } := by
  have hj : (s.journalAdd (.gate i) none .exitButton false false false false).gate.readers.get i = some r := by
    rw [State.journalAdd_readers, hr]
  rw [State.exitButton, State.modReader, Table.modify_of_some _ hj]
  rfl

/-- A door's opening is forced where no release window stands, or it has passed. -/
theorem State.doorEvent_forced {opened : Bool} (ho : opened = true) (hw : ∀ e, r.windowEnd = some e → e < s.now) :
    s.doorEvent i opened = (s.setReader i { r with door := .opened }).journalAdd (.gate i) none .doorForced false false
      false false := by
  subst ho
  cases he : r.windowEnd with
  | none => simp [State.doorEvent, hr, he]
  | some e => simp [State.doorEvent, hr, he, hw e he]

theorem State.doorEvent_unforced {opened : Bool} (h : ¬(opened = true ∧ ∀ e, r.windowEnd = some e → e < s.now)) :
    s.doorEvent i opened = s.setReader i { r with door := if opened then .opened else .closed } := by
  cases opened with
  | false => simp [State.doorEvent, hr]
  | true =>
    cases he : r.windowEnd with
    | none => simp [he] at h
    | some e =>
      have hn : ¬e < s.now := fun hw => h ⟨rfl, fun _ hx => by cases he.symm.trans hx; exact hw⟩
      simp [State.doorEvent, hr, he, hn]

end

/-- A reply is taken field by field; a button opens the release window, a door's opening outside it is forced. -/
theorem gateReplyIsDelivered : Claim.GateReplyIsDelivered := by
  refine ⟨State.gateReply_rebasing, fun d c c' e e' k k' o o' carded exited swung s hd hc he ho => ?_,
    fun i r s hr => ?_, fun i opened r s hr => ?_⟩
  · intro u v
    have hreply := State.gateReply_watched hd c e k o s
    rw [Device.sees_eq hc, Device.sees_eq he, Device.sees_eq ho] at hreply
    exact hreply
  · intro t
    have ht : t = _ := State.exitButton_eq hr
    rw [ht]
    exact ⟨State.journalAdd_journaled .., congrArg (Table.set · i _) (State.journalAdd_readers ..),
      State.journalAdd_cache .., State.journalAdd_queries .., rfl⟩
  · intro t forced
    by_cases hf : forced
    · obtain ⟨rfl, hw⟩ := hf
      have ht : t = _ := State.doorEvent_forced hr rfl hw
      rw [ht]
      exact ⟨State.journalAdd_readers .., fun _ => (s.setReader i _).journalAdd_journaled ..,
        fun h => absurd ⟨rfl, hw⟩ h⟩
    · have ht : t = _ := State.doorEvent_unforced hr hf
      rw [ht]
      exact ⟨rfl, fun h => absurd h hf, fun _ => ⟨rfl, rfl⟩⟩

/-- Settles O47, from its four parts. -/
theorem cardsAreDecidedInOrder : Obligations.CardsAreDecidedInOrder :=
  ⟨decisionTestsInOrder, cardReadAtAGate, hitsAreFoundInTheCache, gateReplyIsDelivered⟩

end Sys2Proof.Machine
end

section
/-! SUPPORT. What the decisions of pending queries leave alone, one by one and in their order (07 R131, R135 to R138; 06
R108). -/

namespace Sys2Proof.Machine

open Sys2Proof Sys2Proof.Claim

/-! ## What a decision reads of a state -/

/-- The moment, the configuration, the segment clock, the berths and the accounts are the same. -/
structure State.SameFacts (s t : State) : Prop where
  now : t.now = s.now
  config : t.mgmt.config = s.mgmt.config
  clock : t.mgmt.clock = s.mgmt.clock
  timeValid : t.mgmt.timeValid = s.mgmt.timeValid
  berth : t.berth = s.berth
  accounts : t.charge.accounts = s.charge.accounts

theorem State.SameFacts.refl (s : State) : s.SameFacts s := ⟨rfl, rfl, rfl, rfl, rfl, rfl⟩

theorem State.SameFacts.trans {s t u : State} (h : s.SameFacts t) (k : t.SameFacts u) : s.SameFacts u :=
  ⟨k.now.trans h.now, k.config.trans h.config, k.clock.trans h.clock, k.timeValid.trans h.timeValid,
    k.berth.trans h.berth, k.accounts.trans h.accounts⟩

theorem State.SameFacts.judge {s t : State} (h : s.SameFacts t) (q : Asker) (e : CacheEntry) :
    t.judge q e = s.judge q e := by
  have hreads : t.judge q e = State.judge { s with
      mgmt := { s.mgmt with config := t.mgmt.config, clock := t.mgmt.clock, timeValid := t.mgmt.timeValid }
      berth := t.berth
      charge := { s.charge with accounts := t.charge.accounts } } q e := rfl
  rw [hreads, h.config, h.clock, h.timeValid, h.berth, h.accounts]

theorem State.SameFacts.clockNow {s t : State} (h : s.SameFacts t) : clockNow t = clockNow s := by
  simp only [Claim.clockNow, h.clock, h.timeValid]

theorem State.SameFacts.releaseEnd {s t : State} (h : s.SameFacts t) : t.releaseEnd = s.releaseEnd := by
  simp only [State.releaseEnd, h.now, h.config]

theorem State.taken_sameFacts (fr : IntakeFrame) (s : State) : s.SameFacts (s.taken fr) :=
  ⟨rfl, State.taken_config fr s, State.taken_clock fr s, State.taken_timeValid fr s, rfl, rfl⟩

/-! ## A query removed (07 R138) -/

/-- A removal changes the pending queries and the report sources. -/
theorem State.dropQuery_eq (r : Requester) (s : State) : s.dropQuery r = { s with
    gate := { s.gate with queries := s.gate.queries.filter fun q => decide (q.requester ≠ r) }
    trunk := { s.trunk with sources := (s.dropQuery r).trunk.sources } } := by
  cases hq : s.queryOf r with
  | some q => simp only [State.dropQuery, hq]; rfl
  | none =>
    have hall : s.gate.queries.filter (fun q => decide (q.requester ≠ r)) = s.gate.queries := by
      rw [List.filter_eq_self]
      simpa [State.queryOf] using hq
    simp only [State.dropQuery, hq, hall]

theorem State.dropQuery_sameFacts (r : Requester) (s : State) : s.SameFacts (s.dropQuery r) := by
  rw [State.dropQuery_eq]
  exact ⟨rfl, rfl, rfl, rfl, rfl, rfl⟩

@[simp] theorem State.dropQuery_readers (r : Requester) (s : State) :
    (s.dropQuery r).gate.readers = s.gate.readers := by rw [State.dropQuery_eq]

@[simp] theorem State.dropQuery_fuel (r : Requester) (s : State) : (s.dropQuery r).fuel = s.fuel := by
  rw [State.dropQuery_eq]

@[simp] theorem State.dropQuery_bus (r : Requester) (s : State) : (s.dropQuery r).bus = s.bus := by
  rw [State.dropQuery_eq]

theorem State.dropQuery_reader {i : Nat} {x : Reader} {s : State} (r : Requester)
    (h : s.gate.readers.get i = some x) : (s.dropQuery r).gate.readers.get i = some x := by
  rw [State.dropQuery_readers, h]

/-- A dispenser stands as it was when its query has been removed and the decision journaled. -/
theorem State.dropQuery_dispenser {i : Nat} {x : Dispenser} {s : State} (r : Requester)
    (h : s.fuel.dispensers.get i = some x) {r' : Requester} {t : Option Token} {d : Decision}
    {passback queried notStored judged : Bool} :
    ((s.dropQuery r).journalAdd r' t d passback queried notStored judged).fuel.dispensers.get i = some x :=
  (congrArg (·.dispensers.get i) (s.dropQuery_fuel r)).trans h

/-- What is journaled after a removal is journaled after the state before it. -/
theorem State.dropQuery_journaled {e : JournalEntry} {r : Requester} {s t : State} (h : journaled e (s.dropQuery r) t) :
    journaled e s t := by
  rw [State.dropQuery_eq] at h
  exact h

/-! ## The decision at a dispenser (06 R108) -/

/-- Of the fuel unit's dispensers one alone differs; the gate unit and what a decision reads are the same. -/
structure State.OnlyDispenser (i : Nat) (s t : State) : Prop where
  facts : s.SameFacts t
  gate : t.gate = s.gate
  others : ∀ j, j ≠ i → t.fuel.dispensers.get j = s.fuel.dispensers.get j

section
variable (i : Nat) (s : State)

theorem State.OnlyDispenser.refl : s.OnlyDispenser i s := ⟨.refl s, rfl, fun _ _ => rfl⟩

theorem State.refuseCard_only (code : Nat) : s.OnlyDispenser i (s.refuseCard i code) := by
  cases hd : s.fuel.dispensers.get i with
  | none =>
    have h : s.refuseCard i code = s := by simp only [State.refuseCard, hd]
    rw [h]
    exact .refl i s
  | some d =>
    rw [State.refuseCard_eq hd]
    exact ⟨⟨rfl, rfl, rfl, rfl, rfl, rfl⟩, rfl, fun _ h => Table.get_set_ne _ _ h⟩

theorem State.startSale_only (d : Dispenser) (n : Nat) (token : Option Token) (grade preset : Nat) :
    s.OnlyDispenser i (s.startSale i d (some n) token grade preset) := by
  rw [State.startSale_account]
  exact ⟨⟨rfl, rfl, rfl, rfl, rfl, rfl⟩, rfl, fun _ h => Table.get_set_ne _ _ h⟩

/-- A decision touches its own dispenser alone: a refusal, or the start of a sale. -/
theorem State.dispenserDecision_only (t : Token) (grade preset : Nat) (d : Decision) (acct : Option Nat) :
    s.OnlyDispenser i (s.dispenserDecision i t grade preset d acct) := by
  unfold State.dispenserDecision
  split
  · exact .refl i s
  · split
    · split
      · exact s.refuseCard_only i _
      · exact s.startSale_only i _ _ _ _ _
    · exact s.refuseCard_only i _

end

/-! ## Queries decided -/

/-- The side of a loaded reader. -/
def State.sideOf (s : State) (i : Nat) : Option GateSide := (s.gate.readers.get i).map (·.side)

theorem State.sideOf_eq_some_iff {s : State} {i : Nat} {x : GateSide} :
    s.sideOf i = some x ↔ ∃ r, s.gate.readers.get i = some r ∧ r.side = x := Option.map_eq_some_iff

theorem State.sideOf_eq_none_iff {s : State} {i : Nat} : s.sideOf i = none ↔ s.gate.readers.get i = none :=
  Option.map_eq_none_iff

/-- A reader stored again on its side leaves every reader's side. -/
theorem Table.get_set_side {t : Table Reader} {i : Nat} {r r' : Reader} (hr : t.get i = some r) (h : r'.side = r.side)
    (j : Nat) : ((t.set i r').get j).map (·.side) = (t.get j).map (·.side) := by
  rw [Table.get_set]
  split
  · next hj => rw [hj, hr, Option.map_some, Option.map_some, h]
  · rfl

/-- The queries of a list are removed, and no more than their requesters and the journal take part. -/
structure State.Resolves (qs : List Query) (s t : State) : Prop where
  facts : s.SameFacts t
  cache : t.gate.cache = s.gate.cache
  queries : t.gate.queries = s.gate.queries.filter fun q => !qs.any fun p => decide (p.requester = q.requester)
  readers : ∀ i, (∀ q ∈ qs, q.requester ≠ .gate i) → t.gate.readers.get i = s.gate.readers.get i
  sides : ∀ i, t.sideOf i = s.sideOf i
  dispensers : ∀ i, (∀ q ∈ qs, q.requester ≠ .dispenser i) → t.fuel.dispensers.get i = s.fuel.dispensers.get i

namespace State.Resolves

variable {qs ps : List Query} {s t u : State}

theorem refl (s : State) : s.Resolves [] s :=
  ⟨.refl s, rfl, (List.filter_eq_self.2 fun _ _ => rfl).symm, fun _ _ => rfl, fun _ => rfl, fun _ _ => rfl⟩

theorem append (h : s.Resolves qs t) (k : t.Resolves ps u) : s.Resolves (qs ++ ps) u where
  facts := h.facts.trans k.facts
  cache := k.cache.trans h.cache
  queries := by
    rw [k.queries, h.queries, List.filter_filter]
    simp only [List.any_append, Bool.not_or, Bool.and_comm]
  readers i hi := by
    rw [List.forall_mem_append] at hi
    rw [k.readers i hi.2, h.readers i hi.1]
  sides i := (k.sides i).trans (h.sides i)
  dispensers i hi := by
    rw [List.forall_mem_append] at hi
    rw [k.dispensers i hi.2, h.dispensers i hi.1]

/-- A requester of the list has no pending query any more. -/
theorem queryOf (h : s.Resolves qs t) {q : Query} (hq : q ∈ qs) : t.queryOf q.requester = none := by
  rw [State.queryOf, h.queries, List.find?_eq_none]
  intro p hp
  obtain ⟨-, hp⟩ := List.mem_filter.1 hp
  rw [Bool.not_eq_true', List.any_eq_false] at hp
  simpa [eq_comm] using hp q hq

theorem dropQuery (q : Query) (s : State) : s.Resolves [q] (s.dropQuery q.requester) := by
  rw [State.dropQuery_eq]
  exact ⟨⟨rfl, rfl, rfl, rfl, rfl, rfl⟩, rfl, by simp [eq_comm], fun _ _ => rfl, fun _ => rfl, fun _ _ => rfl⟩

variable {q : Query} {i : Nat}

/-- A requester of the list that is a reader is given a decision. -/
theorem gateDecision (h : s.Resolves qs u) (hq : q ∈ qs) (hi : q.requester = .gate i) (t : Token) (d : Decision)
    (passback queried notStored judged : Bool) :
    s.Resolves qs (u.gateDecision i t d passback queried notStored judged) := by
  obtain he | ⟨r, r', hr, hside, he⟩ := u.gateDecision_cases i t d passback queried notStored judged <;> rw [he]
  · exact h
  · exact {
      facts := h.facts.trans ⟨rfl, rfl, rfl, rfl, rfl, rfl⟩
      cache := (State.journalAdd_cache ..).trans h.cache
      queries := (State.journalAdd_queries ..).trans h.queries
      readers := fun j hj => by
        have hji : j ≠ i := fun e => hj q hq (e ▸ hi)
        have hset := Table.get_set_ne u.gate.readers r' hji
        rw [← h.readers j hj, ← hset, ← State.journalAdd_readers (s := u)]
        rfl
      sides := fun j => by
        rw [← h.sides j, State.sideOf, State.sideOf, ← Table.get_set_side hr hside j,
          ← State.journalAdd_readers (s := u)]
        rfl
      dispensers := h.dispensers }

/-- A requester of the list that is a dispenser is given a decision, which is journaled. -/
theorem dispenserDecision (h : s.Resolves qs u) (hq : q ∈ qs) (hi : q.requester = .dispenser i) (r : Requester)
    (t t' : Token) (d : Decision) (passback queried notStored judged : Bool) (grade preset : Nat) (acct : Option Nat) :
    s.Resolves qs ((u.journalAdd r (some t) d passback queried notStored judged).dispenserDecision i t' grade preset d
      acct) := by
  have ho := State.dispenserDecision_only i (u.journalAdd r (some t) d passback queried notStored judged) t' grade
    preset d acct
  have hj : u.SameFacts (u.journalAdd r (some t) d passback queried notStored judged) := ⟨rfl, rfl, rfl, rfl, rfl, rfl⟩
  exact {
    facts := h.facts.trans (hj.trans ho.facts)
    cache := by rw [ho.gate, State.journalAdd_cache, h.cache]
    queries := by rw [ho.gate, State.journalAdd_queries, h.queries]
    readers := fun j hj => by rw [ho.gate, State.journalAdd_readers, h.readers j hj]
    sides := fun j => by rw [State.sideOf, ho.gate, State.journalAdd_readers, ← h.sides j, State.sideOf]
    dispensers := fun j hj => by
      have hji : j ≠ i := fun e => hj q hq (e ▸ hi)
      exact (ho.others j hji).trans (h.dispensers j hj) }

end State.Resolves

/-! ## Queries decided in their order -/

section
variable {g : State → Query → State} (hg : ∀ (u : State) (q : Query), u.Resolves [q] (g u q))
include hg

theorem State.foldl_resolves (qs : List Query) (s : State) : s.Resolves qs (qs.foldl g s) := by
  induction qs generalizing s with
  | nil => exact .refl s
  | cons q qs ih => exact (hg s q).append (ih (g s q))

/-- A query whose requester has no other is decided from its requester's record as it stood, and the others leave what
the decision makes of it. -/
theorem State.foldl_resolves_at {qs : List Query} (hn : (qs.map fun q => q.requester).Nodup) {q : Query} (hq : q ∈ qs)
    (s : State) : ∃ u, s.SameFacts u ∧
      (∀ i, q.requester = .gate i → u.gate.readers.get i = s.gate.readers.get i ∧
        (qs.foldl g s).gate.readers.get i = (g u q).gate.readers.get i) ∧
      (∀ i, q.requester = .dispenser i → u.fuel.dispensers.get i = s.fuel.dispensers.get i ∧
        (qs.foldl g s).fuel.dispensers.get i = (g u q).fuel.dispensers.get i) := by
  obtain ⟨l, l', rfl⟩ := List.append_of_mem hq
  have hbefore := State.foldl_resolves hg l s
  have hafter := State.foldl_resolves hg l' (g (l.foldl g s) q)
  have hne : ∀ p ∈ l ++ l', p.requester ≠ q.requester := by
    rw [List.map_append, List.map_cons, List.nodup_middle, List.nodup_cons, ← List.map_append] at hn
    exact fun p hp he => hn.1 (he ▸ List.mem_map_of_mem hp)
  obtain ⟨hl, hl'⟩ := List.forall_mem_append.1 hne
  rw [List.foldl_append, List.foldl_cons]
  refine ⟨l.foldl g s, hbefore.facts, fun i hi => ?_, fun i hi => ?_⟩
  · rw [hi] at hl hl'
    exact ⟨hbefore.readers i hl, hafter.readers i hl'⟩
  · rw [hi] at hl hl'
    exact ⟨hbefore.dispensers i hl, hafter.dispensers i hl'⟩

end

end Sys2Proof.Machine
end

section
/-! SUPPORT. Pending queries refused: CREDENTIAL UNKNOWN and the query timeout (07 R135, R136; 06 R108). -/

namespace Sys2Proof.Machine

open Sys2Proof Sys2Proof.Claim

/-! ## One query refused -/

section
variable {q : Query} {d : Decision} {queried : Bool} {i : Nat} {s : State}

theorem State.refuseQuery_gate (hi : q.requester = .gate i) : s.refuseQuery q d queried =
    (s.dropQuery q.requester).gateDecision i q.token d false queried false false := by
  simp only [State.refuseQuery, hi]

theorem State.refuseQuery_dispenser (hi : q.requester = .dispenser i) : s.refuseQuery q d queried =
    ((s.dropQuery q.requester).journalAdd (.dispenser i) (some q.token) d false queried false
      false).dispenserDecision i q.token 0 0 d none := by
  simp only [State.refuseQuery, hi]

theorem State.refuseQuery_resolves (q : Query) (d : Decision) (queried : Bool) (s : State) :
    s.Resolves [q] (s.refuseQuery q d queried) := by
  have hdrop := State.Resolves.dropQuery q s
  cases hi : q.requester with
  | gate i =>
    rw [State.refuseQuery_gate hi]
    exact hdrop.gateDecision List.mem_cons_self hi ..
  | dispenser i =>
    rw [State.refuseQuery_dispenser hi]
    exact hdrop.dispenserDecision List.mem_cons_self hi ..

/-- A refusal is journaled, at a reader where it is loaded. -/
theorem State.refuseQuery_journaled (hl : ∀ i, q.requester = .gate i → s.gate.readers.get i ≠ none) :
    journaled ⟨clockNow s, q.requester, some q.token, d, false, false, queried, false⟩ s
      (s.refuseQuery q d queried) := by
  rw [← (s.dropQuery_sameFacts q.requester).clockNow]
  cases hi : q.requester with
  | gate i =>
    obtain ⟨r, hr⟩ := Option.ne_none_iff_exists'.1 (hl i hi)
    rw [State.refuseQuery_gate hi, hi]
    exact State.dropQuery_journaled (State.gateDecision_journaled (State.dropQuery_reader _ hr))
  | dispenser i =>
    rw [State.refuseQuery_dispenser hi, hi]
    have hj := State.journalAdd_journaled (.dispenser i) (some q.token) d false queried false false
      (s.dropQuery (.dispenser i))
    have ho := State.dispenserDecision_only i ((s.dropQuery (.dispenser i)).journalAdd (.dispenser i) (some q.token) d
      false queried false false) q.token 0 0 d none
    refine State.dropQuery_journaled (r := .dispenser i) ?_
    rw [journaled, ho.gate]
    exact hj

section
variable {r : Reader} (hi : q.requester = .gate i) (hr : s.gate.readers.get i = some r) (hd : d ≠ .granted)
include hi hr hd

theorem State.refuseQuery_reader :
    (s.refuseQuery q d queried).gate.readers.get i = some (r.decided q.token d) := by
  rw [State.refuseQuery_gate hi]
  exact State.gateDecision_reader_refused (State.dropQuery_reader q.requester hr) hd

theorem State.refuseQuery_gate_bus : (s.refuseQuery q d queried).bus = s.bus := by
  rw [State.refuseQuery_gate hi, State.gateDecision_refused (State.dropQuery_reader q.requester hr) hd]
  exact State.dropQuery_bus ..

end

/-- A refusal at a dispenser: REFUSE is written with its code, and the dispenser is IDLE. -/
theorem State.refuseQuery_card {x : Dispenser} (hi : q.requester = .dispenser i)
    (hx : s.fuel.dispensers.get i = some x) (hd : d ≠ .granted) :
    (s.refuseQuery q d queried).fuel.dispensers = s.fuel.dispensers.set i x.idled ∧
      (s.refuseQuery q d queried).bus = (s.writeOneShot x.address (.refuse (displayCode d))).bus := by
  rw [State.refuseQuery_dispenser hi, State.dispenserDecision_refused (State.dropQuery_dispenser _ hx) hd,
    State.refuseCard_eq (State.dropQuery_dispenser _ hx), State.dropQuery_eq]
  exact ⟨rfl, rfl⟩

end

/-- A refused query is removed and journaled, and its requester is told. -/
theorem queryIsRefused : Claim.QueryIsRefused := by
  intro q d queried s t entry
  have hres := s.refuseQuery_resolves q d queried
  refine ⟨hres.queryOf List.mem_cons_self, hres.cache, fun i r hi hr hd => ?_, fun i x code hi hx hc => ?_⟩
  · have hgate (j : Nat) (hj : q.requester = .gate j) : s.gate.readers.get j ≠ none := by
      cases hi.symm.trans hj
      simp [hr]
    exact ⟨State.refuseQuery_journaled hgate, State.refuseQuery_reader hi hr hd, State.refuseQuery_gate_bus hi hr hd⟩
  · obtain ⟨rfl, hd⟩ := displayCode_of hc
    have hgate (j : Nat) (hj : q.requester = .gate j) : s.gate.readers.get j ≠ none := by cases hi.symm.trans hj
    exact ⟨State.refuseQuery_journaled hgate, State.refuseQuery_card hi hx hd⟩

/-! ## The queries of a token refused, oldest first -/

/-- The journal takes a refusal of each query while it has room for all. -/
theorem State.foldl_refuseQuery_journal (d : Decision) (queried : Bool) {qs : List Query} {s : State}
    (hl : ∀ q ∈ qs, ∀ i, q.requester = .gate i → s.gate.readers.get i ≠ none)
    (hroom : s.gate.journal.length + qs.length ≤ 32) :
    (qs.foldl (fun u q => u.refuseQuery q d queried) s).gate.journal = s.gate.journal ++ qs.map fun q =>
      ⟨clockNow s, q.requester, some q.token, d, false, false, queried, false⟩ := by
  induction qs generalizing s with
  | nil => simp
  | cons q qs ih =>
    rw [List.length_cons] at hroom
    have hres := s.refuseQuery_resolves q d queried
    obtain ⟨hj, -⟩ := (State.refuseQuery_journaled (d := d) (queried := queried) (hl q List.mem_cons_self)).1 (by omega)
    have hloaded (p : Query) (hp : p ∈ qs) (i : Nat) (hi : p.requester = .gate i) :
        (s.refuseQuery q d queried).gate.readers.get i ≠ none := by
      rw [Ne, ← State.sideOf_eq_none_iff, hres.sides, State.sideOf_eq_none_iff]
      exact hl p (List.mem_cons_of_mem _ hp) i hi
    have hroom' : (s.refuseQuery q d queried).gate.journal.length + qs.length ≤ 32 := by
      rw [hj, List.length_append, List.length_singleton]
      omega
    rw [List.foldl_cons, ih hloaded hroom', hj, hres.facts.clockNow, List.map_cons, List.append_assoc,
      List.singleton_append]

theorem State.foldl_queriesRefused {d : Decision} (hd : d ≠ .granted) (qs : List Query) (queried : Bool) (s : State) :
    queriesRefused qs d queried s (qs.foldl (fun u q => u.refuseQuery q d queried) s) := by
  rintro ⟨hn, hl⟩
  refine ⟨State.foldl_refuseQuery_journal d queried hl, fun q hq => ?_⟩
  obtain ⟨u, -, hgate, hdisp⟩ := State.foldl_resolves_at (fun u q => u.refuseQuery_resolves q d queried) hn hq s
  refine ⟨fun i r hi hr => ?_, fun i x hi hx => ?_⟩
  · obtain ⟨hu, he⟩ := hgate i hi
    exact he.trans (State.refuseQuery_reader hi (hu.trans hr) hd)
  · obtain ⟨hu, he⟩ := hdisp i hi
    rw [he, (State.refuseQuery_card hi (hu.trans hx) hd).1]
    exact Table.get_set_self _ _ _

/-- The refusals are the same from the state a frame is taken from. -/
theorem queriesRefused_taken {qs : List Query} {d : Decision} {queried : Bool} {fr : IntakeFrame} {s t : State}
    (h : queriesRefused qs d queried (s.taken fr) t) : queriesRefused qs d queried s t := by
  unfold queriesRefused at h
  rw [(s.taken_sameFacts fr).clockNow] at h
  exact h

/-! ## The query timeout (07 R136) -/

theorem State.queryOf_requester {r : Requester} {q : Query} {s : State} (h : s.queryOf r = some q) :
    q.requester = r := by
  simpa using List.find?_some h

theorem State.queryExpiry_pending {r : Requester} {q : Query} {s : State} (h : s.queryOf r = some q) :
    s.queryExpiry r = (s.advanceTo q.timerEnd).refuseQuery q .officeTimeout false := by
  simp only [State.queryExpiry, h]

theorem State.queryExpiry_none {r : Requester} {s : State} (h : s.queryOf r = none) : s.queryExpiry r = s := by
  simp only [State.queryExpiry, h]

@[simp] theorem State.refreshAlarm_gateUnit (s : State) : s.refreshAlarm.gate = s.gate := by
  rw [State.refreshAlarm_eq]

theorem credentialUnknownAct_eq (fr : IntakeFrame) (t : Token) (s : State) : credentialUnknownAct fr t s =
    ((s.queriesFor t).foldl (fun u q => u.refuseQuery q .unknownToken true) s).answer fr
      (.accepted [] (.decided (s.queriesFor t).length)) := rfl

/-- The queries of a token, or of a requester whose timer has run out, are refused and removed. -/
theorem unknownCredentialAndQueryTimeout_effects : Claim.UnknownCredentialAndQueryTimeout := by
  refine ⟨fun t fr s h => ?_, fun r q s ha hq => ?_, fun r s ha hq => ?_⟩
  · have hres := State.foldl_resolves (fun u q => u.refuseQuery_resolves q .unknownToken true) (s.queriesFor t)
      (s.taken fr)
    have hrefused := State.foldl_queriesRefused (d := .unknownToken) nofun (s.queriesFor t) true (s.taken fr)
    exact ⟨_, exec_of_takes rfl rfl h (credentialUnknownAct_eq fr t _), hres.queries, hres.cache, rfl,
      queriesRefused_taken hrefused⟩
  · obtain rfl := State.queryOf_requester hq
    have hexec := (exec_of_active (c := .queryTimeout q.requester) (act := State.queryExpiry q.requester) rfl ha).trans
      (congrArg acted (State.queryExpiry_pending hq))
    have hres := (s.advanceTo q.timerEnd).refuseQuery_resolves q .officeTimeout false
    obtain ⟨hnow, -, -⟩ := ((s.advanceTo q.timerEnd).refuseQuery q .officeTimeout false).refreshAlarm_units
    refine ⟨hexec, _, hexec, hnow.trans hres.facts.now, ?_, ?_, fun hl => ?_⟩
    · rw [State.refreshAlarm_gateUnit, hres.cache, State.advanceTo_gate]
    · rw [State.refreshAlarm_gateUnit, hres.queries]
      simp [eq_comm]
    · rw [journaled, State.refreshAlarm_gateUnit]
      exact State.refuseQuery_journaled (s := s.advanceTo q.timerEnd) hl
  · rw [exec_of_active (act := State.queryExpiry r) rfl ha, State.queryExpiry_none hq]

/-- Settles O45, from the decision of one query and that of several in their order. -/
theorem unknownCredentialAndQueryTimeout : Obligations.UnknownCredentialAndQueryTimeout :=
  ⟨unknownCredentialAndQueryTimeout_effects, queryIsRefused⟩

end Sys2Proof.Machine
end

section
/-! SUPPORT. One pending query decided from the values of a fill (07 R130, R131, R135; 06 R108). -/

namespace Sys2Proof.Machine

open Sys2Proof Sys2Proof.Claim

/-- The tests a reader asks, and the presence its grant sets, are those of its side. -/
theorem askerAt_eq (x : GateSide) : askerAt x = askerOf x := by cases x <;> rfl

theorem presenceAt_eq (x : GateSide) : presenceAt x = presenceOf x := by cases x <;> rfl

section
variable {q : Query} {e : CacheEntry} {b : Bool} {i : Nat} {s : State}

theorem State.answerQuery_gate {r : Reader} (hi : q.requester = .gate i) (hr : s.gate.readers.get i = some r) :
    s.answerQuery q e b = (s.dropQuery q.requester).gateDecision i q.token (s.judge (askerOf r.side) e).1
      (s.judge (askerOf r.side) e).2 true b true := by
  simp only [State.answerQuery, hi, State.dropQuery_readers, hr, (s.dropQuery_sameFacts (.gate i)).judge]

theorem State.answerQuery_unloaded (hi : q.requester = .gate i) (hr : s.gate.readers.get i = none) :
    s.answerQuery q e b = s.dropQuery q.requester := by
  simp only [State.answerQuery, hi, State.dropQuery_readers, hr]

theorem State.answerQuery_dispenser {x : Dispenser} {c : CardWait} (hi : q.requester = .dispenser i)
    (hx : s.fuel.dispensers.get i = some x) (hc : x.card = some c) : s.answerQuery q e b =
      ((s.dropQuery q.requester).journalAdd (.dispenser i) (some q.token) (s.judge .dispenser e).1
        (s.judge .dispenser e).2 true b true).dispenserDecision i q.token c.grade c.preset (s.judge .dispenser e).1
        e.account := by
  simp only [State.answerQuery, hi, State.dropQuery_fuel, hx, Option.bind_some, hc,
    (s.dropQuery_sameFacts (.dispenser i)).judge]

theorem State.answerQuery_cardless (hi : q.requester = .dispenser i)
    (hx : (s.fuel.dispensers.get i).bind (·.card) = none) : s.answerQuery q e b = s.dropQuery q.requester := by
  simp only [State.answerQuery, hi, State.dropQuery_fuel, hx]

theorem State.answerQuery_resolves (q : Query) (e : CacheEntry) (b : Bool) (s : State) :
    s.Resolves [q] (s.answerQuery q e b) := by
  have hdrop := State.Resolves.dropQuery q s
  cases hi : q.requester with
  | gate i =>
    cases hr : s.gate.readers.get i with
    | none => rw [State.answerQuery_unloaded hi hr]; exact hdrop
    | some r =>
      rw [State.answerQuery_gate hi hr]
      exact hdrop.gateDecision List.mem_cons_self hi ..
  | dispenser i =>
    cases hc : (s.fuel.dispensers.get i).bind (·.card) with
    | none => rw [State.answerQuery_cardless hi hc]; exact hdrop
    | some c =>
      obtain ⟨x, hx, hc⟩ := Option.bind_eq_some_iff.1 hc
      rw [State.answerQuery_dispenser hi hx hc]
      exact hdrop.dispenserDecision List.mem_cons_self hi ..

/-! ## At a gate reader -/

section
variable {r : Reader} (hi : q.requester = .gate i) (hr : s.gate.readers.get i = some r)
include hi hr

theorem State.answerQuery_gate_journaled :
    journaled ⟨clockNow s, q.requester, some q.token, (s.judge (askerOf r.side) e).1, !s.mgmt.timeValid,
      (s.judge (askerOf r.side) e).2, true, b⟩ s (s.answerQuery q e b) := by
  have hfacts := s.dropQuery_sameFacts q.requester
  rw [State.answerQuery_gate hi hr, ← hfacts.clockNow, ← hfacts.timeValid]
  have hr' := State.dropQuery_reader q.requester hr
  have hj := State.gateDecision_journaled (t := q.token) (d := (s.judge (askerOf r.side) e).1)
    (passback := (s.judge (askerOf r.side) e).2) (queried := true) (notStored := b) (judged := true) hr'
  rw [← hi] at hj
  exact State.dropQuery_journaled hj

theorem State.answerQuery_granted (hj : (s.judge (askerOf r.side) e).1 = .granted) :
    (s.answerQuery q e b).gate.readers.get i = some (r.released q.token s.releaseEnd) ∧
      (s.answerQuery q e b).bus = (s.writeOneShot r.address (.unlock s.mgmt.config.unlockTime)).bus := by
  have hfacts := s.dropQuery_sameFacts q.requester
  have hr' := State.dropQuery_reader q.requester hr
  rw [State.answerQuery_gate hi hr, hj]
  refine ⟨?_, ?_⟩
  · rw [State.gateDecision_reader_granted hr', hfacts.releaseEnd]
  · rw [State.gateDecision_granted hr', hfacts.config, State.dropQuery_eq]
    rfl

theorem State.answerQuery_refused (hj : (s.judge (askerOf r.side) e).1 ≠ .granted) :
    (s.answerQuery q e b).gate.readers.get i = some (r.decided q.token (s.judge (askerOf r.side) e).1) ∧
      (s.answerQuery q e b).bus = s.bus := by
  have hr' := State.dropQuery_reader q.requester hr
  rw [State.answerQuery_gate hi hr]
  refine ⟨State.gateDecision_reader_refused hr' hj, ?_⟩
  rw [State.gateDecision_refused hr' hj]
  exact State.dropQuery_bus ..

end

/-- A refusal at a dispenser that waits with a card leaves it IDLE. -/
theorem State.answerQuery_idled {x : Dispenser} (hi : q.requester = .dispenser i)
    (hx : s.fuel.dispensers.get i = some x) (hc : x.card ≠ none) (hj : (s.judge .dispenser e).1 ≠ .granted) :
    (s.answerQuery q e b).fuel.dispensers.get i = some x.idled := by
  obtain ⟨c, hc⟩ := Option.ne_none_iff_exists'.1 hc
  rw [State.answerQuery_dispenser hi hx hc, State.dispenserDecision_refused (State.dropQuery_dispenser _ hx) hj,
    State.refuseCard_eq (State.dropQuery_dispenser _ hx)]
  exact Table.get_set_self _ _ _

end

/-- An answered query is removed; at a reader the decision takes effect, at a dispenser it is handed on. -/
theorem queryIsAnsweredByAFill : Claim.QueryIsAnsweredByAFill := by
  intro q e b s t entry
  have hres := s.answerQuery_resolves q e b
  refine ⟨hres.queryOf List.mem_cons_self, hres.cache, fun i r hi hr => ?_, fun i x c hi hx hc => ?_⟩
  · rw [askerAt_eq]
    exact ⟨State.answerQuery_gate_journaled hi hr, State.answerQuery_granted hi hr, State.answerQuery_refused hi hr⟩
  · have hdrop := State.Resolves.dropQuery q s
    refine ⟨(s.dropQuery q.requester).journalAdd (.dispenser i) (some q.token) (s.judge .dispenser e).1
      (s.judge .dispenser e).2 true b true, ?_, ?_, ?_, State.answerQuery_dispenser hi hx hc⟩
    · rw [State.dropQuery_eq]
      rfl
    · have hj := (s.dropQuery q.requester).journalAdd_journaled q.requester (some q.token) (s.judge .dispenser e).1
        (s.judge .dispenser e).2 true b true
      rw [hdrop.facts.clockNow, hdrop.facts.timeValid] at hj
      rw [← hi]
      exact State.dropQuery_journaled hj
    · rw [State.queryOf, State.journalAdd_queries]
      exact hdrop.queryOf List.mem_cons_self

end Sys2Proof.Machine
end

section
/-! SUPPORT. The presence the grants of a fill set, reader by reader (07 R131, R135). -/

namespace Sys2Proof.Machine

open Sys2Proof Sys2Proof.Claim

/-! ## What a grant's presence leaves alone -/

/-- The readers' unlock records and the presence of a token's entry are set, and no more of the gate and fuel units. -/
structure State.SetsPresence (t : Token) (s u : State) : Prop where
  queries : u.gate.queries = s.gate.queries
  fuel : u.fuel = s.fuel
  sides : ∀ j, u.sideOf j = s.sideOf j
  others : ∀ j, j ≠ tokenIndex t → u.gate.cache.get j = s.gate.cache.get j
  unheld : s.holder t = none → u.gate.cache = s.gate.cache

namespace State.SetsPresence

variable {t : Token} {s u v : State}

theorem refl (t : Token) (s : State) : s.SetsPresence t s :=
  ⟨rfl, rfl, fun _ => rfl, fun _ _ => rfl, fun _ => rfl⟩

theorem trans (h : s.SetsPresence t u) (k : u.SetsPresence t v) : s.SetsPresence t v where
  queries := k.queries.trans h.queries
  fuel := k.fuel.trans h.fuel
  sides j := (k.sides j).trans (h.sides j)
  others j hj := (k.others j hj).trans (h.others j hj)
  unheld hs := by
    have hu : u.holder t = none := by rw [State.holder, h.unheld hs]; exact hs
    rw [k.unheld hu, h.unheld hs]

theorem gatePresence (i : Nat) (t : Token) (s : State) : s.SetsPresence t (s.gatePresence i t) := by
  cases hr : s.gate.readers.get i with
  | none => rw [State.gatePresence_absent hr]; exact refl t s
  | some r =>
    cases he : s.holder t with
    | none =>
      rw [State.gatePresence_unheld hr he]
      exact ⟨rfl, rfl, Table.get_set_side hr rfl, fun _ _ => rfl, fun _ => rfl⟩
    | some e =>
      rw [State.gatePresence_held hr he]
      exact ⟨rfl, rfl, Table.get_set_side hr rfl, fun _ hj => Table.get_set_ne _ _ hj, fun hn => by simp [he] at hn⟩

theorem foldl (l : List Nat) (t : Token) (s : State) :
    s.SetsPresence t (l.foldl (fun u j => u.gatePresence j t) s) := by
  induction l generalizing s with
  | nil => exact refl t s
  | cons i l ih => exact (gatePresence i t s).trans (ih _)

end State.SetsPresence

/-! ## The readers' unlock records -/

section
variable {i j : Nat} {t : Token} {r : Reader} {s : State}

theorem State.gatePresence_self (hr : s.gate.readers.get i = some r) :
    ∃ p, (s.gatePresence i t).gate.readers.get i = some (r.unlocked t p) := by
  cases he : s.holder t with
  | none => exact ⟨_, by rw [State.gatePresence_unheld hr he]; exact Table.get_set_self _ _ _⟩
  | some e => exact ⟨_, by rw [State.gatePresence_held hr he]; exact Table.get_set_self _ _ _⟩

theorem State.gatePresence_ne (h : j ≠ i) : (s.gatePresence i t).gate.readers.get j = s.gate.readers.get j := by
  cases hr : s.gate.readers.get i with
  | none => rw [State.gatePresence_absent hr]
  | some r =>
    cases he : s.holder t with
    | none => rw [State.gatePresence_unheld hr he]; exact Table.get_set_ne _ _ h
    | some e => rw [State.gatePresence_held hr he]; exact Table.get_set_ne _ _ h

theorem State.foldl_gatePresence_ne {l : List Nat} (h : j ∉ l) :
    (l.foldl (fun u j => u.gatePresence j t) s).gate.readers.get j = s.gate.readers.get j := by
  induction l generalizing s with
  | nil => rfl
  | cons i l ih =>
    obtain ⟨hi, hl⟩ := List.ne_and_not_mem_of_not_mem_cons h
    exact (ih hl).trans (State.gatePresence_ne hi)

theorem State.foldl_gatePresence_mem {l : List Nat} (h : j ∈ l) (hr : s.gate.readers.get j = some r) :
    ∃ p, (l.foldl (fun u j => u.gatePresence j t) s).gate.readers.get j = some (r.unlocked t p) := by
  induction l generalizing s r with
  | nil => cases h
  | cons i l ih =>
    rw [List.foldl_cons]
    by_cases hi : j = i
    · subst hi
      obtain ⟨p, hp⟩ := State.gatePresence_self (t := t) hr
      by_cases hl : j ∈ l
      · obtain ⟨p', hp'⟩ := ih hl hp
        exact ⟨p', hp'⟩
      · exact ⟨p, (State.foldl_gatePresence_ne hl).trans hp⟩
    · exact ih (List.mem_of_ne_of_mem hi h) ((State.gatePresence_ne hi).trans hr)

end

/-! ## The presence of the entry -/

section
variable {t : Token} {c : CacheEntry} {s : State}

theorem State.gatePresence_entry (hc : s.gate.cache.get (tokenIndex t) = some c) (ht : c.tag = tokenTag t) (i : Nat) :
    ∃ p, (s.gatePresence i t).gate.cache.get (tokenIndex t) = some { c with presence := p } ∧
      ∀ x, s.sideOf i = some x → p = presenceOf x := by
  cases hr : s.gate.readers.get i with
  | none =>
    rw [State.gatePresence_absent hr]
    exact ⟨c.presence, hc, fun x hx => by simp [State.sideOf, hr] at hx⟩
  | some r =>
    rw [State.gatePresence_held hr (State.holder_eq_some_iff.2 ⟨hc, ht⟩)]
    exact ⟨_, Table.get_set_self _ _ _, fun x hx => by cases (congrArg (Option.map _) hr).symm.trans hx; rfl⟩

/-- The entry of a token takes the presence of the grants; where they are all at one side, that of the side. -/
theorem State.foldl_gatePresence_entry (hc : s.gate.cache.get (tokenIndex t) = some c) (ht : c.tag = tokenTag t)
    (l : List Nat) : ∃ p,
      (l.foldl (fun u j => u.gatePresence j t) s).gate.cache.get (tokenIndex t) = some { c with presence := p } ∧
      (l = [] → p = c.presence) ∧ ∀ x, l ≠ [] → (∀ j ∈ l, s.sideOf j = some x) → p = presenceOf x := by
  induction l generalizing s c with
  | nil => exact ⟨c.presence, hc, fun _ => rfl, fun _ h => absurd rfl h⟩
  | cons i l ih =>
    obtain ⟨p, hp, hside⟩ := State.gatePresence_entry hc ht i
    obtain ⟨p', hp', hnil, hall⟩ := ih hp ht
    refine ⟨p', hp', nofun, fun x _ hx => ?_⟩
    obtain ⟨hi, hl⟩ := List.forall_mem_cons.1 hx
    by_cases hn : l = []
    · exact (hnil hn).trans (hside x hi)
    · exact hall x hn fun j hj => ((State.SetsPresence.gatePresence i t s).sides j).trans (hl j hj)

end

end Sys2Proof.Machine
end

section
/-! SUPPORT. CREDENTIAL FILL: its refusal, the queries it decides, and the entry it stores (07 R128, R131, R135). -/

namespace Sys2Proof.Machine

open Sys2Proof Sys2Proof.Claim

/-! ## The checks of a fill (07 R128) -/

theorem fillKind_eq_some_iff {f : CredentialFill} {k : CredKind} : fillKind f = some k ↔ fillRange f k := by
  unfold fillKind fillRange
  cases hk : f.kind with
  | unlisted => simp
  | known k' =>
    simp only [← accountOk_iff, ← optOk_iff, Option.ite_none_right_eq_some, Bool.and_eq_true, Bool.or_eq_true,
      decide_eq_true_eq, Option.isSome_iff_ne_none, Option.some.injEq, Coded.known.injEq]
    constructor
    · rintro ⟨⟨ha, hs⟩, rfl⟩
      exact ⟨rfl, ha, hs⟩
    · rintro ⟨rfl, ha, hs⟩
      exact ⟨⟨ha, hs⟩, rfl⟩

theorem State.fillNotStored_iff {s : State} {t : Token} : s.fillNotStored t = true ↔ notStored s t := by
  simp only [State.fillNotStored, Bool.or_eq_true, Bool.not_eq_true', ← Bool.not_eq_true, State.cacheable_iff,
    getD_map_eq_true_iff, Bool.and_eq_true, decide_eq_true_eq]
  rfl

theorem State.fillDisplaces_iff {s : State} {t : Token} : s.fillDisplaces t = true ↔
    ∃ e, s.gate.cache.get (t.toNat % 256) = some e ∧ e.tag ≠ t.toNat / 256 := by
  simp only [State.fillDisplaces, getD_map_eq_true_iff, decide_eq_true_eq]
  rfl

theorem State.taken_fillNotStored (fr : IntakeFrame) (s : State) (t : Token) :
    (s.taken fr).fillNotStored t = s.fillNotStored t := by
  rw [State.fillNotStored, State.fillNotStored, State.cacheable, State.cacheable, State.taken_config]
  rfl

/-! ## The readers a fill grants (07 R131) -/

/-- A query is granted by an entry at a loaded reader of a side. -/
def State.GrantedAt (s : State) (c : CacheEntry) (q : Query) (j : Nat) (side : GateSide) : Prop :=
  q.requester = .gate j ∧ (∃ r, s.gate.readers.get j = some r ∧ r.side = side) ∧
    (s.judge (askerAt side) c).1 = .granted

theorem State.mem_grantedReaders_iff {s : State} {c : CacheEntry} {qs : List Query} {j : Nat} :
    j ∈ s.grantedReaders c qs ↔ ∃ q ∈ qs, ∃ side, s.GrantedAt c q j side := by
  rw [State.grantedReaders, List.mem_filterMap]
  refine exists_congr fun q => and_congr_right fun _ => ?_
  unfold State.GrantedAt
  cases hq : q.requester with
  | dispenser i => simp
  | gate i =>
    simp only [Option.bind_eq_some_iff, Option.ite_none_right_eq_some, Option.some.injEq, Requester.gate.injEq,
      askerAt_eq]
    constructor
    · rintro ⟨r, hr, hg, rfl⟩
      exact ⟨r.side, rfl, ⟨r, hr, rfl⟩, hg⟩
    · rintro ⟨-, rfl, ⟨r, hr, rfl⟩, hg⟩
      exact ⟨r, hr, hg, rfl⟩

theorem State.taken_grantedAt (fr : IntakeFrame) (s : State) (c : CacheEntry) (q : Query) (j : Nat) (side : GateSide) :
    (s.taken fr).GrantedAt c q j side ↔ s.GrantedAt c q j side := by
  rw [State.GrantedAt, (s.taken_sameFacts fr).judge]
  rfl

/-! ## The fill (07 R128, R135) -/

/-- The credential takes the place of its index, unless it is not to be stored. -/
def State.storedFill (i : Nat) (c : CacheEntry) (unstored : Bool) (s : State) : State :=
  if unstored then s else { s with gate := { s.gate with cache := s.gate.cache.set i c } }

/-- The queries of the token decided in their order, and the credential stored. -/
def State.decidedFill (f : CredentialFill) (k : CredKind) (s : State) : State :=
  ((s.queriesFor f.token).foldl (fun t q => t.answerQuery q (fillEntry f k) (s.fillNotStored f.token)) s).storedFill
    (tokenIndex f.token) (fillEntry f k) (s.fillNotStored f.token)

/-- The readers whose queries a fill grants. -/
def State.grantedFill (f : CredentialFill) (k : CredKind) (s : State) : List Nat :=
  s.grantedReaders (fillEntry f k) (s.queriesFor f.token)

/-- A fill, with the presence its grants set. -/
def State.filled (f : CredentialFill) (k : CredKind) (s : State) : State :=
  (s.grantedFill f k).foldl (fun t j => t.gatePresence j f.token) (s.decidedFill f k)

/-- The flags of a fill's reply. -/
def State.fillFlags (s : State) (t : Token) : List ReplyFlag :=
  flagIf (s.fillNotStored t) .notStored ++ flagIf (!s.fillNotStored t && s.fillDisplaces t) .displaced

section
variable {fr : IntakeFrame} {f : CredentialFill} {k : CredKind} {s : State}

theorem credentialFillAct_outOfRange (h : ∀ k, ¬fillRange f k) :
    credentialFillAct fr f s = s.refuse fr .outOfRange := by
  have hk : fillKind f = none :=
    Option.eq_none_iff_forall_ne_some.2 fun k hk => h k (fillKind_eq_some_iff.1 hk)
  simp only [credentialFillAct, hk]

theorem credentialFillAct_filled (h : fillRange f k) : credentialFillAct fr f s = (s.filled f k).answer fr
    (.accepted (s.fillFlags f.token) (.credential (tokenIndex f.token) (s.queriesFor f.token).length)) := by
  simp only [credentialFillAct, fillKind_eq_some_iff.2 h]
  rfl

theorem exec_credentialFill (h : takes (.credentialFill (.fields f)) fr s) (hk : fillRange f k) :
    exec (.credentialFill (.fields f)) s = done fr (.accepted ((s.taken fr).fillFlags f.token)
      (.credential (f.token.toNat % 256) (s.queriesFor f.token).length)) ((s.taken fr).filled f k) :=
  exec_of_takes rfl rfl h (credentialFillAct_filled hk)

theorem State.storedFill_gate (i : Nat) (c : CacheEntry) (b : Bool) (s : State) : s.storedFill i c b =
    { s with gate := { s.gate with cache := (s.storedFill i c b).gate.cache } } := by
  unfold State.storedFill
  split <;> rfl

/-- The decisions of a fill, before its credential is stored. -/
theorem State.decidedFill_resolves (f : CredentialFill) (k : CredKind) (s : State) : ∃ v,
    s.Resolves (s.queriesFor f.token) v ∧
      s.decidedFill f k = v.storedFill (tokenIndex f.token) (fillEntry f k) (s.fillNotStored f.token) :=
  ⟨_, State.foldl_resolves (fun u q => u.answerQuery_resolves q _ _) _ s, rfl⟩

theorem State.filled_queries (f : CredentialFill) (k : CredKind) (s : State) :
    (s.filled f k).gate.queries = undecided s f.token := by
  obtain ⟨v, hv, hd⟩ := s.decidedFill_resolves f k
  rw [State.filled, (State.SetsPresence.foldl _ _ _).queries, hd, State.storedFill_gate]
  exact hv.queries

/-- A fill that is not stored leaves the cache where no entry holds its token. -/
theorem State.filled_unstored (k : CredKind) (hn : s.fillNotStored f.token = true) (hh : s.holder f.token = none) :
    (s.filled f k).gate.cache = s.gate.cache := by
  obtain ⟨v, hv, hd⟩ := s.decidedFill_resolves f k
  rw [hn, State.storedFill, if_pos rfl] at hd
  have hheld : v.holder f.token = none := by rw [State.holder, hv.cache]; exact hh
  rw [State.filled, hd, (State.SetsPresence.foldl _ _ _).unheld hheld, hv.cache]

/-- A fill touches no other index of the cache. -/
theorem State.filled_others (k : CredKind) {j : Nat} (hj : j ≠ tokenIndex f.token) :
    (s.filled f k).gate.cache.get j = s.gate.cache.get j := by
  obtain ⟨v, hv, hd⟩ := s.decidedFill_resolves f k
  rw [State.filled, (State.SetsPresence.foldl _ _ _).others j hj, hd, State.storedFill, ← hv.cache]
  split
  · rfl
  · exact Table.get_set_ne _ _ hj

/-- The sides of the readers are those of the state before. -/
theorem State.decidedFill_sides (f : CredentialFill) (k : CredKind) (s : State) (j : Nat) :
    (s.decidedFill f k).sideOf j = s.sideOf j := by
  obtain ⟨v, hv, hd⟩ := s.decidedFill_resolves f k
  rw [← hv.sides, hd, State.storedFill_gate]
  rfl

/-- A fill that is stored stands at its index, with the presence its grants set. -/
theorem State.filled_stored (k : CredKind) (hn : s.fillNotStored f.token = false) : ∃ p,
    (s.filled f k).gate.cache.get (tokenIndex f.token) = some { fillEntry f k with presence := p } ∧
      (s.grantedFill f k = [] → p = .unknown) ∧
      ∀ x, s.grantedFill f k ≠ [] → (∀ j ∈ s.grantedFill f k, s.sideOf j = some x) → p = presenceOf x := by
  have hc : (s.decidedFill f k).gate.cache.get (tokenIndex f.token) = some (fillEntry f k) := by
    obtain ⟨v, -, hd⟩ := s.decidedFill_resolves f k
    rw [hd, hn]
    exact Table.get_set_self _ _ _
  obtain ⟨p, hp, hnil, hall⟩ := State.foldl_gatePresence_entry hc rfl (s.grantedFill f k)
  exact ⟨p, hp, hnil, fun x hne hx => hall x hne fun j hj => (s.decidedFill_sides f k j).trans (hx j hj)⟩

theorem State.grantedFill_eq_nil_iff : s.grantedFill f k = [] ↔
    ∀ q ∈ s.queriesFor f.token, ∀ j side, ¬s.GrantedAt (fillEntry f k) q j side := by
  rw [List.eq_nil_iff_forall_not_mem]
  simp only [State.grantedFill, State.mem_grantedReaders_iff, not_exists, not_and]
  exact ⟨fun h q hq j side => h j q hq side, fun h j q hq side => h q hq j side⟩

/-- Where every grant of a fill is at a reader of one side, those are the readers' sides. -/
theorem State.grantedFill_sides {x : GateSide}
    (h : ∀ q ∈ s.queriesFor f.token, ∀ j y, s.GrantedAt (fillEntry f k) q j y → y = x) :
    ∀ j ∈ s.grantedFill f k, s.sideOf j = some x := by
  intro j hj
  obtain ⟨q, hq, side, hg⟩ := State.mem_grantedReaders_iff.1 hj
  obtain rfl := h q hq j side hg
  obtain ⟨-, hr, -⟩ := hg
  exact State.sideOf_eq_some_iff.2 hr

/-! ## The requesters of a fill's queries -/

theorem State.queriesFor_token {t : Token} {q : Query} (hq : q ∈ s.queriesFor t) : q.token = t := by
  simpa using (List.mem_filter.1 hq).2

section
variable {q : Query} (hn : ((s.queriesFor f.token).map fun q => q.requester).Nodup) (hq : q ∈ s.queriesFor f.token)
include hn hq

/-- The query of a requester that has no other is decided by the fill from the requester's record as it stood. -/
theorem State.decidedFill_at (k : CredKind) : ∃ u, s.SameFacts u ∧
    (∀ i, q.requester = .gate i → u.gate.readers.get i = s.gate.readers.get i ∧
      (s.decidedFill f k).gate.readers.get i =
        (u.answerQuery q (fillEntry f k) (s.fillNotStored f.token)).gate.readers.get i) ∧
    (∀ i, q.requester = .dispenser i → u.fuel.dispensers.get i = s.fuel.dispensers.get i ∧
      (s.decidedFill f k).fuel.dispensers.get i =
        (u.answerQuery q (fillEntry f k) (s.fillNotStored f.token)).fuel.dispensers.get i) := by
  rw [State.decidedFill, State.storedFill_gate]
  exact State.foldl_resolves_at (fun u q => u.answerQuery_resolves q _ _) hn hq s

section
variable {j : Nat} {r : Reader} (hj : q.requester = .gate j) (hr : s.gate.readers.get j = some r)
include hj hr

theorem State.filled_granted (hg : (s.judge (askerOf r.side) (fillEntry f k)).1 = .granted) :
    ∃ p, (s.filled f k).gate.readers.get j = some ((r.released f.token s.releaseEnd).unlocked f.token p) := by
  obtain ⟨u, hfacts, hgate, -⟩ := State.decidedFill_at hn hq k
  obtain ⟨hu, hd⟩ := hgate j hj
  rw [← hfacts.judge] at hg
  obtain ⟨ha, -⟩ := State.answerQuery_granted (b := s.fillNotStored f.token) hj (hu.trans hr) hg
  rw [State.queriesFor_token hq, hfacts.releaseEnd] at ha
  have hmem : j ∈ s.grantedFill f k := by
    rw [hfacts.judge, ← askerAt_eq] at hg
    exact State.mem_grantedReaders_iff.2 ⟨q, hq, r.side, hj, ⟨r, hr, rfl⟩, hg⟩
  exact State.foldl_gatePresence_mem hmem (hd.trans ha)

theorem State.filled_refused (hg : (s.judge (askerOf r.side) (fillEntry f k)).1 ≠ .granted) :
    (s.filled f k).gate.readers.get j =
      some (r.decided f.token (s.judge (askerOf r.side) (fillEntry f k)).1) := by
  obtain ⟨u, hfacts, hgate, -⟩ := State.decidedFill_at hn hq k
  obtain ⟨hu, hd⟩ := hgate j hj
  have hnot : j ∉ s.grantedFill f k := by
    intro hmem
    obtain ⟨_, -, side, -, ⟨r', hr', rfl⟩, hg'⟩ := State.mem_grantedReaders_iff.1 hmem
    cases hr.symm.trans hr'
    rw [askerAt_eq] at hg'
    exact hg hg'
  rw [← hfacts.judge] at hg
  obtain ⟨ha, -⟩ := State.answerQuery_refused (b := s.fillNotStored f.token) hj (hu.trans hr) hg
  rw [State.queriesFor_token hq, hfacts.judge] at ha
  exact (State.foldl_gatePresence_ne hnot).trans (hd.trans ha)

end

theorem State.filled_idled {j : Nat} {x : Dispenser} (hj : q.requester = .dispenser j)
    (hx : s.fuel.dispensers.get j = some x) (hc : x.card ≠ none)
    (hg : (s.judge .dispenser (fillEntry f k)).1 ≠ .granted) :
    (s.filled f k).fuel.dispensers.get j = some x.idled := by
  obtain ⟨u, hfacts, -, hdisp⟩ := State.decidedFill_at hn hq k
  obtain ⟨hu, hd⟩ := hdisp j hj
  rw [← hfacts.judge] at hg
  rw [State.filled, (State.SetsPresence.foldl _ _ _).fuel, hd]
  exact State.answerQuery_idled hj (hu.trans hx) hc hg

end
end

/-- A fill out of range is refused; else it is answered with its flags and what stands at its index. -/
theorem credentialFillIsStored_effects : Claim.CredentialFillIsStored := by
  intro f fr s h u i displaces
  refine ⟨fun hr => exec_of_takes rfl rfl h (credentialFillAct_outOfRange hr), fun k hk => ?_⟩
  have hexec := exec_credentialFill h hk
  have hqueries : ((s.taken fr).filled f k).gate.queries = undecided s f.token := State.filled_queries f k _
  refine ⟨fun hn => ?_, fun hn => ?_⟩
  · have hb : (s.taken fr).fillNotStored f.token = true := by
      rw [State.taken_fillNotStored, State.fillNotStored_iff]
      exact hn
    rw [State.fillFlags, hb] at hexec
    exact ⟨_, hexec, hqueries, State.filled_unstored k hb⟩
  · have hb : (s.taken fr).fillNotStored f.token = false := by
      rw [State.taken_fillNotStored, ← Bool.not_eq_true, State.fillNotStored_iff]
      exact hn
    obtain ⟨p, hp, hnone, -⟩ := State.filled_stored k hb
    rw [State.fillFlags, hb] at hexec
    refine ⟨_, _, _, hexec, fun hd => ?_, fun hd => ?_, hqueries, hp, fun j hj => State.filled_others k hj, rfl,
      fun hq => hnone ?_⟩
    · rw [(State.fillDisplaces_iff (s := s.taken fr)).2 hd]
      rfl
    · rw [eq_false_of_ne_true (mt (State.fillDisplaces_iff (s := s.taken fr)).1 hd)]
      rfl
    · refine State.grantedFill_eq_nil_iff.2 fun q hm => ?_
      have hm' : q ∈ s.queriesFor f.token := hm
      rw [hq] at hm'
      cases hm'

/-- The queries of a fill are decided in their order, the credential is stored, then the grants set its presence. -/
theorem fillDecidesItsQueries : Claim.FillDecidesItsQueries := by
  intro f k b fr s h hk hb u i c qs grantedAt
  obtain rfl : b = u.fillNotStored f.token := by
    rw [Bool.eq_iff_iff, hb, State.taken_fillNotStored, State.fillNotStored_iff]
  have hgranted (q : Query) (j : Nat) (side : GateSide) : u.GrantedAt c q j side ↔ grantedAt q j side :=
    State.taken_grantedAt fr s c q j side
  refine ⟨u.filled f k, u.fillFlags f.token, exec_credentialFill h hk, ⟨u.grantedFill f k, fun j => ?_, rfl⟩,
    fun x hstored hx => ?_, fun ⟨hn, hl⟩ q hq => ?_⟩
  · simp only [← hgranted]
    exact State.mem_grantedReaders_iff
  · obtain ⟨p, hp, hnone, hone⟩ := State.filled_stored k hstored
    cases hp.symm.trans hx
    simp only [← hgranted]
    refine ⟨fun hno => ?_, fun side ⟨q, hq, j, hg⟩ hall => ?_⟩
    · rw [hnone (State.grantedFill_eq_nil_iff.2 hno)]
      rfl
    · have hmem : j ∈ u.grantedFill f k := State.mem_grantedReaders_iff.2 ⟨q, hq, side, hg⟩
      rw [hone side (List.ne_nil_of_mem hmem) (State.grantedFill_sides hall), presenceAt_eq]
  · have hfacts := s.taken_sameFacts fr
    refine ⟨fun j r hj hr => ?_, fun j x hj hx hc hg => ?_⟩
    · rw [askerAt_eq, presenceAt_eq, ← hfacts.judge]
      refine ⟨fun hg => ?_, fun hg => State.filled_refused (s := u) hn hq hj hr hg⟩
      obtain ⟨p, hp⟩ := State.filled_granted (s := u) hn hq hj hr hg
      rw [hfacts.releaseEnd] at hp
      exact ⟨p, hp⟩
    · rw [← hfacts.judge] at hg
      exact State.filled_idled (s := u) hn hq hj hx hc hg

/-- Settles O44, from the fill's answer, the decision of one query, and the order of decisions, storing and presence. -/
theorem credentialFillIsStored : Obligations.CredentialFillIsStored :=
  ⟨credentialFillIsStored_effects, queryIsAnsweredByAFill, fillDecidesItsQueries⟩

end Sys2Proof.Machine
end

section
/-! SUPPORT. What the poll cycle sends next, stage by stage (08 R149, R150). -/

namespace Sys2Proof.Machine

open Sys2Proof Sys2Proof.Claim

/-! ## The first entry with a property -/

/-- Only one number is the least with a property. -/
theorem least_unique {p : Nat → Prop} {a b : Nat} (ha : least p a) (hb : least p b) : a = b :=
  le_antisymm (ha.2 b hb.1) (hb.2 a ha.1)

/-- In a table whose keys rise, the first entry with a property has the lowest key of those with it. -/
theorem Table.find?_lowest {α : Type} {t : Table α} (hs : sorted t = true) {q : Nat × α → Bool} {p : Nat × α}
    (h : t.find? q = some p) : ∀ r ∈ t, q r = true → p.1 ≤ r.1 := by
  induction t with
  | nil => cases h
  | cons x t ih =>
    intro r hr hq
    rcases List.mem_cons.1 hr with rfl | hr
    · rw [List.find?_cons_of_pos hq] at h
      obtain rfl := Option.some.inj h
      exact le_rfl
    · cases hx : q x with
      | true =>
        rw [List.find?_cons_of_pos hx] at h
        obtain rfl := Option.some.inj h
        exact (lt_of_sorted hs r hr).le
      | false =>
        rw [List.find?_cons_of_neg (by simp [hx])] at h
        exact ih (sorted_tail hs) h r hr hq

section
variable {s : State} {after : Nat} {test : Nat → Device → Bool} {P : Nat → Prop}

/-- No device after a position meets a test. -/
theorem State.nextDevice_eq_none_iff (hs : s.Ordered)
    (hP : ∀ x, P x ↔ after < x ∧ ∃ d, s.bus.devices.get x = some d ∧ test x d = true) :
    s.nextDevice after test = none ↔ ∀ x, ¬P x := by
  rw [State.nextDevice, Option.map_eq_none_iff, List.find?_eq_none]
  constructor
  · intro h x hx
    obtain ⟨hlt, d, hd, ht⟩ := (hP x).1 hx
    exact h (x, d) (Table.mem_of_get hd) (by simp [hlt, ht])
  · rintro h ⟨x, d⟩ hm ht
    obtain ⟨hlt, ht⟩ : after < x ∧ test x d = true := by simpa using ht
    exact h x ((hP x).2 ⟨hlt, d, Table.get_of_mem hs.devices hm, ht⟩)

/-- The next device after a position is the one of the lowest address that meets the test. -/
theorem State.nextDevice_eq_some_iff (hs : s.Ordered)
    (hP : ∀ x, P x ↔ after < x ∧ ∃ d, s.bus.devices.get x = some d ∧ test x d = true) {a : Nat} :
    s.nextDevice after test = some a ↔ least P a := by
  have lowest {a : Nat} (h : s.nextDevice after test = some a) : least P a := by
    obtain ⟨⟨x, d⟩, hf, rfl⟩ := Option.map_eq_some_iff.1 h
    have hx := List.find?_some hf
    obtain ⟨hlt, ht⟩ : after < x ∧ test x d = true := by simpa using hx
    refine ⟨(hP x).2 ⟨hlt, d, Table.get_of_mem hs.devices (List.mem_of_find?_eq_some hf), ht⟩, fun y hy => ?_⟩
    obtain ⟨hly, e, he, hte⟩ := (hP y).1 hy
    exact Table.find?_lowest hs.devices hf (y, e) (Table.mem_of_get he) (by simp [hly, hte])
  refine ⟨lowest, fun h => ?_⟩
  cases hn : s.nextDevice after test with
  | none => exact absurd h.1 ((State.nextDevice_eq_none_iff hs hP).1 hn a)
  | some b => rw [least_unique (lowest hn) h]

end

/-! ## The stages of a cycle -/

/-- A stage the cycle has come to no further than is entered at the place the cycle has come to in it. -/
theorem Cycle.enter_eq {c : Cycle} {st : Stage} (h : c.stage.rank ≤ st.rank) :
    c.enter st = { c with stage := st, position := placeIn c st } := by
  unfold Cycle.enter placeIn
  split
  · next hlt =>
    have hne : c.stage ≠ st := by rintro rfl; exact lt_irrefl _ hlt
    rw [if_neg hne]
  · next hge =>
    have heq : c.stage = st := by
      have hrank : c.stage.rank = st.rank := by omega
      revert hrank
      cases c.stage <;> cases st <;> simp [Stage.rank]
    subst heq
    rw [if_pos rfl]

theorem Cycle.enter_past {c : Cycle} {st : Stage} (h : ¬c.stage.rank ≤ st.rank) : c.enter st = c ∧ c.stage ≠ st :=
  ⟨if_neg (by omega), by rintro rfl; exact h le_rfl⟩

theorem Cycle.within_oneShots {c : Cycle} : within c [.outputs, .oneShots] ↔ c.stage.rank ≤ Stage.oneShots.rank := by
  unfold within
  cases c.stage <;> decide

theorem Cycle.within_fast {c : Cycle} :
    within c [.outputs, .oneShots, .fast] ↔ c.stage.rank ≤ Stage.fast.rank := by
  unfold within
  cases c.stage <;> decide

theorem Cycle.not_done {c : Cycle} : c.stage ≠ .done ↔ c.stage.rank ≤ Stage.slow.rank := by
  cases c.stage <;> decide

theorem Cycle.roll_eq (c : Cycle) : c.roll = cycleAfter c := rfl

/-- A step that a stage finds, with the cycle after it. -/
theorem map_step_eq_some_iff {o : Option Nat} {step : Nat → BusStep} {after : Nat → Cycle} {b : BusStep} {c : Cycle} :
    (o.map fun a => (step a, after a)) = some (b, c) ↔ ∃ a, o = some a ∧ b = step a ∧ c = after a := by
  simp only [Option.map_eq_some_iff, Prod.mk.injEq, eq_comm (a := b), eq_comm (a := c)]

/-! ### SET OUTPUTS -/

theorem sooner_iff {p q : Nat × Nat} : sooner p q = true ↔ p.2 < q.2 ∨ p.2 = q.2 ∧ p.1 < q.1 := by
  unfold sooner
  split <;> simp <;> omega

theorem soonest_eq_none_iff {l : List (Nat × Nat)} : soonest l = none ↔ l = [] := by
  cases l with
  | nil => simp [soonest]
  | cons p l =>
    simp only [soonest, reduceCtorEq, iff_false]
    split
    · simp
    · split <;> simp

/-- The soonest of a list is in it, and none is before it by moment and address. -/
theorem soonest_spec {l : List (Nat × Nat)} {p : Nat × Nat} (h : soonest l = some p) :
    p ∈ l ∧ ∀ q ∈ l, p.2 < q.2 ∨ p.2 = q.2 ∧ p.1 ≤ q.1 := by
  induction l generalizing p with
  | nil => cases h
  | cons x l ih =>
    unfold soonest at h
    split at h
    · next hn =>
      obtain rfl := Option.some.inj h
      simp [soonest_eq_none_iff.1 hn]
    · next r hr =>
      obtain ⟨hm, hle⟩ := ih hr
      split at h
      · next hrx =>
        obtain rfl := Option.some.inj h
        refine ⟨List.mem_cons_of_mem _ hm, fun q hq => ?_⟩
        rcases List.mem_cons.1 hq with rfl | hq
        · have := sooner_iff.1 hrx
          omega
        · exact hle q hq
      · next hrx =>
        obtain rfl := Option.some.inj h
        refine ⟨List.mem_cons_self, fun q hq => ?_⟩
        rcases List.mem_cons.1 hq with rfl | hq
        · exact .inr ⟨rfl, le_rfl⟩
        · have h1 := mt sooner_iff.2 hrx
          have h2 := hle q hq
          omega

section
variable {s : State} {c c' : Cycle} {b : BusStep}

theorem State.mem_differing (hs : s.Ordered) {a m : Nat} : (a, m) ∈ s.differing c.imaged ↔ awaits s c a m := by
  unfold State.differing awaits
  rw [List.mem_filterMap]
  constructor
  · rintro ⟨⟨x, d⟩, hm, hx⟩
    dsimp only at hx
    split at hx
    · next hc =>
      obtain ⟨⟨hk, hr⟩, hi⟩ : (d.kind = .pedestal ∧ d.state.reachable = true) ∧ x ∉ c.imaged := by simpa using hc
      obtain ⟨n, hn, he⟩ := Option.map_eq_some_iff.1 hx
      obtain ⟨rfl, rfl⟩ := Prod.mk.inj he
      exact ⟨d, Table.get_of_mem hs.devices hm, hk, DeviceState.reachable_iff.1 hr, hn, hi⟩
    · cases hx
  · rintro ⟨d, hd, hk, hr, hn, hi⟩
    exact ⟨(a, d), Table.mem_of_get hd, by simp [hk, DeviceState.reachable_iff.2 hr, hi, hn]⟩

/-- No image is sent where the cycle has none left. -/
theorem State.tryOutputs_eq_none_iff (hs : s.Ordered) : s.tryOutputs c = none ↔ imagesOver s c := by
  unfold State.tryOutputs imagesOver
  split
  · next h =>
    rw [Option.map_eq_none_iff, soonest_eq_none_iff, List.eq_nil_iff_forall_not_mem]
    simp [h, State.mem_differing hs]
  · next h => simpa using fun h1 h2 => absurd ⟨h1, h2⟩ h

/-- The image sent is that of the pedestal that differs first. -/
theorem State.tryOutputs_eq_some_iff (hs : s.Ordered) : s.tryOutputs c = some (b, c') ↔
    ∃ a, c.stage = .outputs ∧ c.imaged.length < 4 ∧ b = .outputs a ∧ c' = { c with imaged := c.imaged ++ [a] } ∧
      ∃ m, awaits s c a m ∧ ∀ x n, awaits s c x n → m < n ∨ m = n ∧ a ≤ x := by
  unfold State.tryOutputs
  split
  · next h =>
    rw [Option.map_eq_some_iff]
    constructor
    · rintro ⟨⟨a, m⟩, hp, he⟩
      obtain ⟨hm, hle⟩ := soonest_spec hp
      obtain ⟨rfl, rfl⟩ := Prod.mk.inj he
      exact ⟨a, h.1, h.2, rfl, rfl, m, (State.mem_differing hs).1 hm,
        fun x n hx => hle (x, n) ((State.mem_differing hs).2 hx)⟩
    · rintro ⟨a, -, -, rfl, rfl, m, hm, hle⟩
      have hm' := (State.mem_differing hs).2 hm
      cases hp : soonest (s.differing c.imaged) with
      | none => simp [soonest_eq_none_iff.1 hp] at hm'
      | some p =>
        obtain ⟨hpm, hple⟩ := soonest_spec hp
        have h1 := hple _ hm'
        have h2 := hle p.1 p.2 ((State.mem_differing hs).1 hpm)
        have hpa : p = (a, m) := Prod.ext (by dsimp only at h1; omega) (by dsimp only at h1; omega)
        exact ⟨p, rfl, by rw [hpa]⟩
  · next h => simpa using fun h1 h2 => absurd ⟨h1, h2⟩ h

/-! ### One-shots -/

theorem shotWaits_iff (x : Nat) : shotWaits s c x ↔ placeIn c .oneShots < x ∧ ∃ d, s.bus.devices.get x = some d ∧
    (decide (d.state = .online) && d.slot.isSome) = true := by
  simp [shotWaits, Option.isSome_iff_ne_none]

theorem State.tryOneShots_eq_none_iff (hs : s.Ordered) : s.tryOneShots (c.enter .oneShots) = none ↔
    (within c [.outputs, .oneShots] → ∀ x, ¬shotWaits s c x) := by
  rw [Cycle.within_oneShots]
  by_cases h : c.stage.rank ≤ Stage.oneShots.rank
  · rw [Cycle.enter_eq h]
    simp only [State.tryOneShots, if_true, Option.map_eq_none_iff, h, forall_const]
    exact State.nextDevice_eq_none_iff hs shotWaits_iff
  · obtain ⟨he, hne⟩ := Cycle.enter_past h
    simp [State.tryOneShots, he, hne, h]

theorem State.tryOneShots_eq_some_iff (hs : s.Ordered) : s.tryOneShots (c.enter .oneShots) = some (b, c') ↔
    ∃ a, within c [.outputs, .oneShots] ∧ least (shotWaits s c) a ∧ b = .oneShot a ∧
      c' = { c with stage := .oneShots, position := a } := by
  rw [Cycle.within_oneShots]
  by_cases h : c.stage.rank ≤ Stage.oneShots.rank
  · rw [Cycle.enter_eq h]
    simp only [State.tryOneShots, if_true, map_step_eq_some_iff, h, true_and,
      State.nextDevice_eq_some_iff hs shotWaits_iff]
  · obtain ⟨he, hne⟩ := Cycle.enter_past h
    simp [State.tryOneShots, he, hne, h]

/-! ### The fast stage -/

theorem State.fastPoll_iff {a : Nat} {d : Device} : s.fastPoll c a d = true ↔ d.state = .lost ∧ c.counter = 0 ∨
    d.state ≠ .lost ∧ (classIn c a d = .fast ∨
      d.kind = .pedestal ∧ ∃ t, d.lastAddressed = some t ∧ t + 1000 < s.now) := by
  have hclass : c.classOf a d = classIn c a d := rfl
  have hold : ((d.lastAddressed.map fun t => decide (t + 1000 < s.now)).getD false) = true ↔
      ∃ t, d.lastAddressed = some t ∧ t + 1000 < s.now := by cases d.lastAddressed <;> simp
  unfold State.fastPoll
  split <;> simp_all

theorem fastWaits_iff (x : Nat) : fastWaits s c x ↔ placeIn c .fast < x ∧ ∃ d, s.bus.devices.get x = some d ∧
    s.fastPoll c x d = true := by
  simp only [State.fastPoll_iff]
  rfl

theorem State.tryFast_eq_none_iff (hs : s.Ordered) : s.tryFast (c.enter .fast) = none ↔
    (within c [.outputs, .oneShots, .fast] → ∀ x, ¬fastWaits s c x) := by
  rw [Cycle.within_fast]
  by_cases h : c.stage.rank ≤ Stage.fast.rank
  · rw [Cycle.enter_eq h]
    simp only [State.tryFast, if_true, Option.map_eq_none_iff, h, forall_const]
    exact State.nextDevice_eq_none_iff hs fastWaits_iff
  · obtain ⟨he, hne⟩ := Cycle.enter_past h
    simp [State.tryFast, he, hne, h]

theorem State.tryFast_eq_some_iff (hs : s.Ordered) : s.tryFast (c.enter .fast) = some (b, c') ↔
    ∃ a, within c [.outputs, .oneShots, .fast] ∧ least (fastWaits s c) a ∧ b = .poll a ∧
      c' = { c with stage := .fast, position := a, fastPolled := c.fastPolled ++ [a] } := by
  rw [Cycle.within_fast]
  by_cases h : c.stage.rank ≤ Stage.fast.rank
  · have hnext {a : Nat} : s.nextDevice (placeIn c .fast)
        (s.fastPoll { c with stage := .fast, position := placeIn c .fast }) = some a ↔ least (fastWaits s c) a :=
      State.nextDevice_eq_some_iff hs fastWaits_iff
    rw [Cycle.enter_eq h]
    simp only [State.tryFast, if_true, map_step_eq_some_iff, h, true_and, hnext]
  · obtain ⟨he, hne⟩ := Cycle.enter_past h
    simp [State.tryFast, he, hne, h]

/-! ### The slow stage -/

theorem slowPoll_iff {a : Nat} {d : Device} : slowPoll c a d = true ↔
    a ∉ c.fastPolled ∧ classIn c a d = .slow ∧ d.state ≠ .lost := by
  have hclass : c.classOf a d = classIn c a d := rfl
  simp [slowPoll, hclass]
  tauto

theorem slowWaits_iff (x : Nat) : slowWaits s c x ↔ 0 < x ∧ ∃ d, s.bus.devices.get x = some d ∧
    slowPoll c x d = true := by
  simp only [slowPoll_iff, slowWaits]
  tauto

theorem slowWaits_above_iff (x : Nat) : slowWaits s c x ∧ c.slowPosition < x ↔
    c.slowPosition < x ∧ ∃ d, s.bus.devices.get x = some d ∧ slowPoll c x d = true := by
  rw [slowWaits_iff]
  constructor
  · rintro ⟨⟨-, hd⟩, hx⟩
    exact ⟨hx, hd⟩
  · rintro ⟨hx, hd⟩
    exact ⟨⟨by omega, hd⟩, hx⟩

/-- The next SLOW device after the last one, or, past the last of them, the first. -/
def State.nextSlow (s : State) (c : Cycle) : Option Nat :=
  (s.nextDevice c.slowPosition (slowPoll c)).or (s.nextDevice 0 (slowPoll c))

theorem State.nextSlow_eq_none_iff (hs : s.Ordered) : s.nextSlow c = none ↔ ∀ x, ¬slowWaits s c x := by
  rw [State.nextSlow, Option.or_eq_none_iff, State.nextDevice_eq_none_iff hs slowWaits_above_iff,
    State.nextDevice_eq_none_iff hs slowWaits_iff]
  exact ⟨fun h => h.2, fun h => ⟨fun x hx => h x hx.1, h⟩⟩

theorem State.nextSlow_eq_some_iff (hs : s.Ordered) {a : Nat} : s.nextSlow c = some a ↔
    least (fun x => slowWaits s c x ∧ c.slowPosition < x) a ∨
      least (slowWaits s c) a ∧ ∀ x, slowWaits s c x → x ≤ c.slowPosition := by
  rw [State.nextSlow, Option.or_eq_some_iff, State.nextDevice_eq_some_iff hs slowWaits_above_iff,
    State.nextDevice_eq_none_iff hs slowWaits_above_iff, State.nextDevice_eq_some_iff hs slowWaits_iff,
    and_comm (a := ∀ _, _)]
  simp only [not_and, not_lt]

theorem State.trySlow_enter (h : c.stage.rank ≤ Stage.slow.rank) : s.trySlow (c.enter .slow) =
    (s.nextSlow c).map fun a =>
      (.poll a, { c with stage := .done, slowPosition := a, position := placeIn c .slow }) := by
  rw [Cycle.enter_eq h, State.trySlow, if_pos rfl]
  rfl

theorem State.trySlow_eq_none_iff (hs : s.Ordered) : s.trySlow (c.enter .slow) = none ↔
    (c.stage ≠ .done → ∀ x, ¬slowWaits s c x) := by
  rw [Cycle.not_done]
  by_cases h : c.stage.rank ≤ Stage.slow.rank
  · simp only [State.trySlow_enter h, Option.map_eq_none_iff, State.nextSlow_eq_none_iff hs, h, forall_const]
  · obtain ⟨he, hne⟩ := Cycle.enter_past h
    simp [State.trySlow, he, hne, h]

theorem State.trySlow_eq_some_iff (hs : s.Ordered) : s.trySlow (c.enter .slow) = some (b, c') ↔
    ∃ a, c.stage ≠ .done ∧ b = .poll a ∧
      c' = { c with stage := .done, slowPosition := a, position := placeIn c .slow } ∧
      (least (fun x => slowWaits s c x ∧ c.slowPosition < x) a ∨
        least (slowWaits s c) a ∧ ∀ x, slowWaits s c x → x ≤ c.slowPosition) := by
  rw [Cycle.not_done]
  by_cases h : c.stage.rank ≤ Stage.slow.rank
  · simp only [State.trySlow_enter h, Option.map_eq_some_iff, State.nextSlow_eq_some_iff hs, h, true_and,
      Prod.mk.injEq]
    exact exists_congr fun a => by rw [eq_comm, eq_comm (a := Cycle.mk ..)]; tauto
  · obtain ⟨he, hne⟩ := Cycle.enter_past h
    simp [State.trySlow, he, hne, h]

/-! ## What is next (08 R150) -/

/-- A cycle sends nothing where it has nothing left. -/
theorem State.scan_eq_none_iff (hs : s.Ordered) : s.scan c = none ↔ cycleOver s c := by
  simp only [State.scan, Option.or_eq_none_iff, State.tryOutputs_eq_none_iff hs, State.tryOneShots_eq_none_iff hs,
    State.tryFast_eq_none_iff hs, State.trySlow_eq_none_iff hs, cycleOver, fastOver, shotsOver, and_assoc]

/-- What a cycle sends is what is next in it. -/
theorem State.scan_eq_some_iff (hs : s.Ordered) : s.scan c = some (b, c') ↔ cycleTurn s c b c' := by
  simp only [State.scan, Option.or_eq_some_iff, State.tryOutputs_eq_none_iff hs, State.tryOneShots_eq_none_iff hs,
    State.tryFast_eq_none_iff hs, State.tryOutputs_eq_some_iff hs, State.tryOneShots_eq_some_iff hs,
    State.tryFast_eq_some_iff hs, State.trySlow_eq_some_iff hs]
  constructor
  · rintro (⟨a, h⟩ | ⟨h1, ⟨a, h⟩ | ⟨h2, ⟨a, h⟩ | ⟨h3, a, h⟩⟩⟩)
    · exact ⟨a, .inl h⟩
    · exact ⟨a, .inr (.inl ⟨h1, h⟩)⟩
    · exact ⟨a, .inr (.inr (.inl ⟨⟨h1, h2⟩, h⟩))⟩
    · exact ⟨a, .inr (.inr (.inr ⟨⟨⟨h1, h2⟩, h3⟩, h⟩))⟩
  · rintro ⟨a, h | ⟨h1, h⟩ | ⟨⟨h1, h2⟩, h⟩ | ⟨⟨⟨h1, h2⟩, h3⟩, h⟩⟩
    · exact .inl ⟨a, h⟩
    · exact .inr ⟨h1, .inl ⟨a, h⟩⟩
    · exact .inr ⟨h1, .inr ⟨h2, .inl ⟨a, h⟩⟩⟩
    · exact .inr ⟨h1, .inr ⟨h2, .inr ⟨h3, a, h⟩⟩⟩

end

end Sys2Proof.Machine
end

section
/-! SUPPORT. What a bus step sends in its turn, and what it changes (08 R149 to R154). -/

namespace Sys2Proof.Machine

open Sys2Proof Sys2Proof.Claim

section
variable {s : State} {b : BusStep} {c : Cycle}

/-! ## The turn (08 R149, R150) -/

theorem State.nextBus_busy (h : s.bus.exchange ≠ none) : s.nextBus = none := by
  simp [State.nextBus, Option.isSome_iff_ne_none, h]

theorem State.nextBus_idle (h : s.bus.exchange = none) :
    s.nextBus = (s.scan s.bus.cycle).or (if s.bus.cycle.sent then s.scan (cycleAfter s.bus.cycle) else none) := by
  simp only [State.nextBus, h, Option.isSome_none, Bool.false_eq_true, if_false, Cycle.roll_eq]
  cases s.scan s.bus.cycle <;> rfl

/-- What the controller sends next is what has its turn. -/
theorem State.nextBus_eq_some_iff (hs : s.Ordered) : s.nextBus = some (b, c) ↔ busTurn s b c := by
  by_cases hx : s.bus.exchange = none
  · have hnext : (if s.bus.cycle.sent then s.scan (cycleAfter s.bus.cycle) else none) = some (b, c) ↔
        s.bus.cycle.sent = true ∧ cycleTurn s (cycleAfter s.bus.cycle) b c := by
      rw [← State.scan_eq_some_iff hs]
      split <;> simp [*]
    simp only [State.nextBus_idle hx, Option.or_eq_some_iff, State.scan_eq_some_iff hs, State.scan_eq_none_iff hs, hnext,
      busTurn, hx, true_and]
  · simp [State.nextBus_busy hx, busTurn, hx]

/-- Nothing is next where the present cycle, and the one that follows a cycle that had sent, have nothing to send. -/
theorem State.nextBus_eq_none (hs : s.Ordered) (hc : cycleOver s s.bus.cycle)
    (hn : s.bus.cycle.sent = true → cycleOver s (cycleAfter s.bus.cycle)) : s.nextBus = none := by
  by_cases hx : s.bus.exchange = none
  · rw [State.nextBus_idle hx, (State.scan_eq_none_iff hs).2 hc, Option.none_or]
    split
    · next h => exact (State.scan_eq_none_iff hs).2 (hn h)
    · rfl
  · exact State.nextBus_busy hx

theorem State.sendNext_turn {act : Cycle → State → State} (hs : s.Ordered) (h : busTurn s b c) :
    s.sendNext b act = act c s := by
  simp only [State.sendNext, (State.nextBus_eq_some_iff hs).2 h, if_true]

theorem State.sendNext_outOfTurn {act : Cycle → State → State} (hs : s.Ordered) (h : ∀ c, ¬busTurn s b c) :
    s.sendNext b act = s := by
  unfold State.sendNext
  split
  · next x c hx =>
    refine if_neg ?_
    rintro rfl
    exact h c ((State.nextBus_eq_some_iff hs).1 hx)
  · rfl

/-! ## What is sent (08 R149, R152 to R154) -/

/-- A request is sent to a device: its last addressed moment, the exchange and the cycle are stored. -/
def State.requested (a : Nat) (d : Device) (r : Request) (bit : Bool) (c : Cycle) (s : State) : State :=
  { s with bus := { s.bus with
    devices := s.bus.devices.set a { d with lastAddressed := some s.now }
    exchange := some ⟨a, r, bit, s.now⟩, cycle := { c with sent := true, empty := 0 } } }

section
variable {a : Nat} {d : Device}

theorem State.send_listed (hd : s.bus.devices.get a = some d) (r : Request) (bit : Bool) (c : Cycle) :
    s.send a r bit c = s.requested a d r bit c := by
  simp only [State.send, State.modDevice, Table.modify_of_some _ hd]
  rfl

theorem State.send_stored (a : Nat) (d : Device) (r : Request) (bit : Bool) (c : Cycle) (s : State) :
    (s.setDevice a d).send a r bit c = s.requested a d r bit c := by
  rw [State.send_listed (d := d) (by simp)]
  simp [State.requested]

variable (hd : s.bus.devices.get a = some d)
include hd

/-- A poll to a gate reader or dispenser in UNPOLLED or LOST carries the resync flag. -/
theorem State.sendPoll_listed : s.sendPoll a c = s.requested a d
    (.poll (decide (d.kind ≠ .pedestal ∧ (d.state = .unpolled ∨ d.state = .lost)))) d.sequence c := by
  have hresync : (decide (d.kind ≠ .pedestal) && !d.state.reachable) =
      decide (d.kind ≠ .pedestal ∧ (d.state = .unpolled ∨ d.state = .lost)) := by
    cases d.state <;> simp [DeviceState.reachable]
  simp only [State.sendPoll, hd, State.send_listed hd, hresync]

theorem State.sendOutputs_listed :
    let bit := if d.lastTransmitted = some d.desired then d.sequence else !d.sequence
    s.sendOutputs a c = s.requested a { d with sequence := bit, lastTransmitted := some d.desired }
      (.setOutputs d.desired) bit c := by
  simp only [State.sendOutputs, hd, State.send_stored]

theorem State.sendOneShot_listed {x : Slot} (hx : d.slot = some x) : s.sendOneShot a c =
    s.requested a { d with sequence := x.bit, slot := some { x with count := x.count + 1 } } (.oneShot x.command) x.bit
      c := by
  simp only [State.sendOneShot, hd, hx, State.send_stored]

end

/-! ## The parts of the statement -/

/-- The cycle's order, from the stages. -/
theorem turnOfTheCycle : Claim.TurnOfTheCycle := fun _ hs =>
  ⟨fun _ _ => State.nextBus_eq_some_iff hs, fun _ hc hn => State.nextBus_eq_none hs hc fun hsent =>
    hn.resolve_left (by simp [hsent])⟩

theorem busRequestsAreSent : Claim.BusRequestsAreSent := by
  intro a c d s ha hs hd
  refine ⟨fun h => ?_, fun h => ?_, fun x h hx => ?_⟩
  · rw [exec_of_active (act := State.sendNext (.poll a) (State.sendPoll a)) rfl ha, State.sendNext_turn hs h,
      State.sendPoll_listed hd]
    rfl
  · rw [exec_of_active (act := State.sendNext (.outputs a) (State.sendOutputs a)) rfl ha, State.sendNext_turn hs h,
      State.sendOutputs_listed hd]
    rfl
  · rw [exec_of_active (act := State.sendNext (.oneShot a) (State.sendOneShot a)) rfl ha, State.sendNext_turn hs h,
      State.sendOneShot_listed hd hx]
    rfl

theorem commandsOutOfTurn : Claim.CommandsOutOfTurn := by
  intro a s ha hs
  refine ⟨fun h => ?_, fun h => ?_, fun h => ?_⟩
  · rw [exec_of_active (act := State.sendNext (.poll a) (State.sendPoll a)) rfl ha, State.sendNext_outOfTurn hs h]
  · rw [exec_of_active (act := State.sendNext (.outputs a) (State.sendOutputs a)) rfl ha,
      State.sendNext_outOfTurn hs h]
  · rw [exec_of_active (act := State.sendNext (.oneShot a) (State.sendOneShot a)) rfl ha,
      State.sendNext_outOfTurn hs h]

end

/-! ## Only what is due -/

/-- A step is due: its pedestal's image differs, its device's slot holds a one-shot, or its device may be polled; a LOST
device only at counter 0. -/
def State.Due (s : State) (b : BusStep) (c : Cycle) : Prop :=
  match b with
  | .outputs a => ∃ d, (a, d) ∈ s.bus.devices ∧ d.kind = .pedestal ∧ d.differSince ≠ none ∧
      (d.state = .online ∨ d.state = .missing)
  | .oneShot a => ∃ d, (a, d) ∈ s.bus.devices ∧ d.state = .online ∧ d.slot ≠ none
  | .poll a => ∃ d, (a, d) ∈ s.bus.devices ∧ (d.state = .lost → c.counter = 0)

section
variable {s : State} {b : BusStep} {c c' : Cycle}

/-- The device found after a position is on the poll list and meets the test. -/
theorem State.mem_of_nextDevice {after a : Nat} {test : Nat → Device → Bool} (h : s.nextDevice after test = some a) :
    ∃ d, (a, d) ∈ s.bus.devices ∧ test a d = true := by
  obtain ⟨⟨x, d⟩, hf, rfl⟩ := Option.map_eq_some_iff.1 h
  have hx := List.find?_some hf
  exact ⟨d, List.mem_of_find?_eq_some hf, by simp_all⟩

theorem State.tryOutputs_due (h : s.tryOutputs c = some (b, c')) : s.Due b c' := by
  unfold State.tryOutputs at h
  split at h
  · obtain ⟨⟨a, m⟩, hp, he⟩ := Option.map_eq_some_iff.1 h
    obtain ⟨rfl, -⟩ := Prod.mk.inj he
    obtain ⟨⟨x, d⟩, hm, hx⟩ := List.mem_filterMap.1 (soonest_spec hp).1
    dsimp only at hx
    split at hx
    · next hc =>
      obtain ⟨⟨hk, hr⟩, -⟩ : (d.kind = .pedestal ∧ d.state.reachable = true) ∧ x ∉ c.imaged := by simpa using hc
      obtain ⟨n, hn, hxa⟩ := Option.map_eq_some_iff.1 hx
      obtain ⟨rfl, -⟩ := Prod.mk.inj hxa
      exact ⟨d, hm, hk, by simp [hn], DeviceState.reachable_iff.1 hr⟩
    · cases hx
  · cases h

theorem State.tryOneShots_due (h : s.tryOneShots c = some (b, c')) : s.Due b c' := by
  unfold State.tryOneShots at h
  split at h
  · obtain ⟨a, ha, rfl, -⟩ := map_step_eq_some_iff.1 h
    obtain ⟨d, hm, ht⟩ := State.mem_of_nextDevice ha
    exact ⟨d, hm, by simpa [Option.isSome_iff_ne_none] using ht⟩
  · cases h

theorem State.tryFast_due (h : s.tryFast c = some (b, c')) : s.Due b c' := by
  unfold State.tryFast at h
  split at h
  · obtain ⟨a, ha, rfl, rfl⟩ := map_step_eq_some_iff.1 h
    obtain ⟨d, hm, ht⟩ := State.mem_of_nextDevice ha
    refine ⟨d, hm, fun hl => ?_⟩
    obtain ⟨-, h0⟩ | ⟨hn, -⟩ := State.fastPoll_iff.1 ht
    · exact h0
    · exact absurd hl hn
  · cases h

theorem State.trySlow_due (h : s.trySlow c = some (b, c')) : s.Due b c' := by
  unfold State.trySlow at h
  split at h
  · obtain ⟨a, ha, rfl, rfl⟩ := map_step_eq_some_iff.1 h
    have hfound : ∃ d, (a, d) ∈ s.bus.devices ∧ slowPoll c a d = true := by
      rcases Option.or_eq_some_iff.1 ha with h | ⟨-, h⟩
      · exact State.mem_of_nextDevice h
      · exact State.mem_of_nextDevice h
    obtain ⟨d, hm, ht⟩ := hfound
    exact ⟨d, hm, fun hl => absurd hl (slowPoll_iff.1 ht).2.2⟩
  · cases h

theorem State.scan_due (h : s.scan c = some (b, c')) : s.Due b c' := by
  simp only [State.scan, Option.or_eq_some_iff] at h
  rcases h with h | ⟨-, h | ⟨-, h | ⟨-, h⟩⟩⟩
  · exact State.tryOutputs_due h
  · exact State.tryOneShots_due h
  · exact State.tryFast_due h
  · exact State.trySlow_due h

end

theorem busSendsOnlyWhatIsDue : Claim.BusSendsOnlyWhatIsDue := by
  intro s b c h
  have hx : s.bus.exchange = none := by
    by_contra hx
    rw [State.nextBus_busy hx] at h
    cases h
  have hdue : s.Due b c := by
    rw [State.nextBus_idle hx, Option.or_eq_some_iff] at h
    rcases h with h | ⟨-, h⟩
    · exact State.scan_due h
    · split at h
      · exact State.scan_due h
      · cases h
  refine ⟨hx, ?_, ?_, ?_⟩
  · rintro a rfl; exact hdue
  · rintro a rfl; exact hdue
  · rintro a rfl; exact hdue

/-! ## Empty cycles (08 R150, log 39) -/

section
variable {s : State}

/-- The cycle that an empty one begins from: the one after a cycle that had sent. -/
def State.cycleSpent (s : State) : Cycle := if s.bus.cycle.sent then s.bus.cycle.roll else s.bus.cycle

theorem State.cycleSpent_empty (s : State) : s.cycleSpent.empty = s.bus.cycle.empty := by
  unfold State.cycleSpent
  split <;> rfl

theorem State.emptyCycle_waits (h : s.bus.exchange ≠ none ∨ s.nextBus ≠ none ∨ 8 ≤ s.bus.cycle.empty) :
    s.emptyCycle = s := by
  refine if_pos ?_
  have he := s.cycleSpent_empty
  unfold State.cycleSpent at he
  rw [← he] at h
  simpa [Option.isSome_iff_ne_none, or_assoc] using h

theorem State.emptyCycle_advances (hx : s.bus.exchange = none) (hn : s.nextBus = none) (he : s.bus.cycle.empty < 8) :
    s.emptyCycle = { s with bus := { s.bus with
      cycle := { s.cycleSpent.roll with empty := s.bus.cycle.empty + 1 } } } := by
  have hs := s.cycleSpent_empty
  have h8 : ¬8 ≤ s.cycleSpent.empty := by omega
  rw [← hs]
  unfold State.cycleSpent at *
  refine if_neg ?_
  simpa [hx, hn] using h8

end

theorem emptyCycleAdvancesTheCounter : Claim.EmptyCycleAdvancesTheCounter := by
  intro s ha hs c spent
  have hexec : exec .cycleWithNothingToSend s = acted s.emptyCycle := exec_of_active rfl ha
  rw [hexec]
  refine ⟨fun hx hsp he => ?_, fun h => ?_⟩
  · have hcounter : s.cycleSpent.counter = (c.counter + if c.sent then 1 else 0) % 8 ∨
        s.cycleSpent.counter = c.counter ∧ c.sent = false := by
      unfold State.cycleSpent
      split
      · next h => exact .inl (by simp [c, Cycle.roll])
      · next h => exact .inr ⟨rfl, by simpa using h⟩
    have hslow : s.cycleSpent.slowPosition = c.slowPosition := by
      unfold State.cycleSpent
      split <;> rfl
    rw [State.emptyCycle_advances hx (State.nextBus_eq_none hs hsp.1 hsp.2) he]
    refine ⟨_, rfl, ?_⟩
    rw [State.refreshAlarm_eq]
    refine ⟨?_, rfl, rfl, rfl, rfl, rfl, rfl, hslow, rfl, hx⟩
    show (s.cycleSpent.counter + 1) % 8 = _
    rcases hcounter with h | ⟨h, hf⟩
    · rw [h]
      split <;> omega
    · rw [h, hf]
      simp
  · rw [State.emptyCycle_waits]
    rcases h with h | ⟨b, x, h⟩ | h
    · exact .inl h
    · exact .inr (.inl (by simp [(State.nextBus_eq_some_iff hs).2 h]))
    · exact .inr (.inr h)

/-- Settles O49, from the stages of the cycle and what each step sends. -/
theorem busSendsWhatIsDueInItsTurn : Obligations.BusSendsWhatIsDueInItsTurn :=
  ⟨turnOfTheCycle, busRequestsAreSent, commandsOutOfTurn, busSendsOnlyWhatIsDue, emptyCycleAdvancesTheCounter⟩

end Sys2Proof.Machine
end

section
/-! SUPPORT. A pedestal that is no longer served: its outlets and taps leave service, and their disagreement and recovery
timers stop (08 R146, R148; 04 R73, R76, R84). -/

namespace Sys2Proof.Machine

open Sys2Proof Sys2Proof.Claim

/-! ## Eligibility at a pedestal that does not serve (03 R52, 05 R94) -/

section
variable {a : Nat} {s u v : State}

theorem State.outletEligible_silent {o : Outlet} (h : s.pedestalServes o.address = false) :
    s.outletEligible o = false := by simp [State.outletEligible, State.outletMayServe, h]

theorem State.tapEligible_silent {q : Tap} (h : s.pedestalServes q.address = false) : s.tapEligible q = false := by
  simp [State.tapEligible, h]

theorem State.pedestalServes_unreachable (h : ∀ d, s.bus.devices.get a = some d → d.state.reachable = false) :
    s.pedestalServes a = false := by
  unfold State.pedestalServes
  split
  · next d hd => simp [h d hd]
  · rfl

/-! ## The timers of faults (04 R76, R84) -/

/-- The disagreement and recovery timers of an outlet. -/
def Outlet.timers (o : Outlet) : Option Nat × KindMap (Option Nat) := (o.fault.disagreeEnd, o.fault.recovery)

/-- The recovery timers of a tap. -/
def Tap.timers (q : Tap) : KindMap (Option Nat) := q.fault.recovery

/-- The timers of every outlet and tap run as they did. -/
structure State.SameTimers (s t : State) : Prop where
  outlets : ∀ i, (t.outlet.outlets.get i).map Outlet.timers = (s.outlet.outlets.get i).map Outlet.timers
  taps : ∀ i, (t.tap.taps.get i).map Tap.timers = (s.tap.taps.get i).map Tap.timers

theorem State.SameTimers.refl (s : State) : s.SameTimers s := ⟨fun _ => rfl, fun _ => rfl⟩

theorem State.SameTimers.trans (h : s.SameTimers u) (k : u.SameTimers v) : s.SameTimers v :=
  ⟨fun i => (k.outlets i).trans (h.outlets i), fun i => (k.taps i).trans (h.taps i)⟩

theorem State.OnlyOutlet.sameTimers {i : Nat} (h : u.OnlyOutlet i v)
    (hi : (v.outlet.outlets.get i).map Outlet.timers = (u.outlet.outlets.get i).map Outlet.timers) :
    u.SameTimers v where
  outlets j := by
    by_cases hj : j = i
    · subst hj; exact hi
    · rw [h.others j hj]
  taps _ := by rw [h.tap]

theorem State.OnlyTap.sameTimers {i : Nat} (h : u.OnlyTap i v)
    (hi : (v.tap.taps.get i).map Tap.timers = (u.tap.taps.get i).map Tap.timers) : u.SameTimers v where
  outlets _ := by rw [h.outlet]
  taps j := by
    by_cases hj : j = i
    · subst hj; exact hi
    · rw [h.others j hj]

theorem State.grantOutlet_sameTimers {i : Nat} {o : Outlet} (ho : u.outlet.outlets.get i = some o)
    (figure acct : Nat) : u.SameTimers (u.grantOutlet i o figure acct) :=
  (State.grantOutlet_only (.refl i u) ho figure acct).sameTimers (by rw [State.grantOutlet_get, ho]; rfl)

theorem State.flushAttempts_sameTimers (u : State) : u.SameTimers u.flushAttempts :=
  State.flushAttempts_induction (P := u.SameTimers) (fun _ _ h => ⟨h.outlets, h.taps⟩)
    (fun _ _ _ _ _ _ hh h => by
      obtain ⟨⟨-, -, -, ho, -⟩, -⟩ := hh
      exact h.trans (State.grantOutlet_sameTimers ho _ _)) (.refl u)

theorem State.vacate_sameTimers {i : Nat} {o : Outlet} (ho : u.outlet.outlets.get i = some o) (target : OutletState)
    (reason : Reason) : u.SameTimers (u.vacate i target reason) := by
  obtain ⟨w, he⟩ := State.endOutletSession_get ho reason
  obtain ⟨hp, -⟩ := State.vacate_onlyOutlet target he
  exact (State.vacate_only (.refl i u) target reason).sameTimers (by rw [hp, ho]; rfl)

theorem State.shutTap_sameTimers {i : Nat} {q : Tap} (hq : u.tap.taps.get i = some q) (target : TapState)
    (reason : Reason) : u.SameTimers (u.shutTap i target reason) := by
  obtain ⟨p, hp, -, -, -, hf, -⟩ := State.shutTap_record hq target reason
  exact (State.shutTap_only i target reason u).sameTimers (by
    rw [hp, hq, Option.map_some, Option.map_some, Tap.timers, Tap.timers, hf])

/-- A cut of a side whose pedestal does not serve leaves the timers. -/
theorem State.cutSide_sameTimers {r : SideRef} {reason : Reason} (hs : u.Ordered)
    (h : u.pedestalServes r.address = false) : u.SameTimers (u.cutSide r reason) := by
  have houtlet : u.SameTimers (u.evalOutletSide r reason) := by
    unfold State.evalOutletSide
    split
    · next i o hi =>
      obtain ⟨ho, rfl⟩ := State.outletOfSide_spec hs hi
      rcases State.evalOutlet_ineligible (reason := reason) ho (State.outletEligible_silent h) with e | e <;> rw [e]
      · exact .refl u
      · exact State.vacate_sameTimers ho _ _
    · exact .refl u
  have hs' := ((State.Follows.refl hs).evalOutletSide r reason).ordered
  rw [State.cutSide_eq]
  refine houtlet.trans ?_
  unfold State.evalTapSide
  split
  · next i q hi =>
    split
    · exact State.shutTap_sameTimers (State.tapOfSide_spec hs' hi).1 _ _
    · exact .refl _
  · exact .refl _

/-! ## The timers stopped -/

/-- An outlet with its disagreement and recovery timers stopped. -/
def Outlet.stopped (o : Outlet) : Outlet := { o with fault := o.fault.timersStopped }

/-- A tap with its recovery timers stopped. -/
def Tap.stopped (q : Tap) : Tap := { q with fault := q.fault.timersStopped }

/-- The timers of the outlets and taps of a pedestal stop. -/
def State.stopTimers (a : Nat) (s : State) : State :=
  { s with
    outlet := { s.outlet with
      outlets := s.outlet.outlets.map fun p => (p.1, if p.2.address = a then p.2.stopped else p.2) }
    tap := { s.tap with taps := s.tap.taps.map fun p => (p.1, if p.2.address = a then p.2.stopped else p.2) } }

theorem State.pedestalGone_eq (a : Nat) (s : State) : s.pedestalGone a =
    (([(⟨a, .a⟩ : SideRef), ⟨a, .b⟩]).foldl (fun t r => t.cutSide r .linkLost) (s.stopTimers a)).flushAttempts := rfl

theorem State.stopTimers_outlet (a i : Nat) (s : State) : (s.stopTimers a).outlet.outlets.get i =
    (s.outlet.outlets.get i).map fun o => if o.address = a then o.stopped else o :=
  Table.get_map s.outlet.outlets (fun _ o => if o.address = a then o.stopped else o) i

theorem State.stopTimers_tap (a i : Nat) (s : State) : (s.stopTimers a).tap.taps.get i =
    (s.tap.taps.get i).map fun q => if q.address = a then q.stopped else q :=
  Table.get_map s.tap.taps (fun _ q => if q.address = a then q.stopped else q) i

/-- The stopped timers change no side, and nothing that the outlet and tap units leave alone. -/
theorem State.stopTimers_follows (a : Nat) (hs : s.Ordered) : s.Follows (s.stopTimers a) where
  leaves := State.leaves_mk (.refl s)
  ordered := (State.keeps_mk (.refl s) : s.Keeps (s.stopTimers a)).ordered hs
  outletRef i := by
    rw [State.stopTimers_outlet]
    cases s.outlet.outlets.get i with
    | none => rfl
    | some o => simp only [Option.map_some]; split <;> rfl
  tapRef i := by
    rw [State.stopTimers_tap]
    cases s.tap.taps.get i with
    | none => rfl
    | some q => simp only [Option.map_some]; split <;> rfl

/-- No disagreement or recovery timer runs at the outlets and taps of a pedestal. -/
structure State.Stopped (a : Nat) (u : State) : Prop where
  outlets : ∀ i p, u.outlet.outlets.get i = some p → p.address = a → p.timers = (none, KindMap.all none)
  taps : ∀ i p, u.tap.taps.get i = some p → p.address = a → p.timers = KindMap.all none

theorem State.stopTimers_stopped (a : Nat) (s : State) : (s.stopTimers a).Stopped a where
  outlets i p hp ha := by
    rw [State.stopTimers_outlet] at hp
    obtain ⟨o, -, rfl⟩ := Option.map_eq_some_iff.1 hp
    by_cases h : o.address = a
    · rw [if_pos h]; rfl
    · rw [if_neg h] at ha; exact absurd ha h
  taps i p hp ha := by
    rw [State.stopTimers_tap] at hp
    obtain ⟨q, -, rfl⟩ := Option.map_eq_some_iff.1 hp
    by_cases h : q.address = a
    · rw [if_pos h]; rfl
    · rw [if_neg h] at ha; exact absurd ha h

/-- Stopped timers stay so where the timers run as they did at the same sides. -/
theorem State.Stopped.move (h : u.Stopped a) (ht : u.SameTimers v) (hf : u.Follows v) : v.Stopped a where
  outlets i p hp ha := by
    have htimers := ht.outlets i
    have href := hf.outletRef i
    rw [hp] at htimers href
    obtain ⟨o, ho, hpo⟩ := Option.map_eq_some_iff.1 htimers.symm
    obtain ⟨o', ho', hro⟩ := Option.map_eq_some_iff.1 href.symm
    obtain rfl : o = o' := Option.some.inj (ho.symm.trans ho')
    rw [← hpo]
    exact h.outlets i o ho ((congrArg SideRef.address hro).trans ha)
  taps i p hp ha := by
    have htimers := ht.taps i
    have href := hf.tapRef i
    rw [hp] at htimers href
    obtain ⟨o, ho, hpo⟩ := Option.map_eq_some_iff.1 htimers.symm
    obtain ⟨o', ho', hro⟩ := Option.map_eq_some_iff.1 href.symm
    obtain rfl : o = o' := Option.some.inj (ho.symm.trans ho')
    rw [← hpo]
    exact h.taps i o ho ((congrArg SideRef.address hro).trans ha)

/-- The sides of a pedestal that does not serve, cut one by one. -/
theorem State.cutSides_stopped {l : List SideRef} (hl : ∀ r ∈ l, r.address = a) (hs : u.Ordered)
    (hp : u.pedestalServes a = false) (h : u.Stopped a) :
    (l.foldl (fun t r => t.cutSide r .linkLost) u).Ordered ∧ (l.foldl (fun t r => t.cutSide r .linkLost) u).Stopped a := by
  induction l generalizing u with
  | nil => exact ⟨hs, h⟩
  | cons r l ih =>
    have hr : r.address = a := hl r List.mem_cons_self
    have hf := (State.Follows.refl hs).cutSide r .linkLost
    exact ih (fun x hx => hl x (List.mem_cons_of_mem _ hx)) hf.ordered ((hf.leaves.pedestalServes a).trans hp)
      (h.move (State.cutSide_sameTimers hs (hr ▸ hp)) hf)

/-- No timer runs at the outlets and taps of a pedestal that is gone. -/
theorem State.pedestalGone_stopped (hs : s.Ordered) (hp : s.pedestalServes a = false) : (s.pedestalGone a).Stopped a := by
  have hf := State.stopTimers_follows a hs
  obtain ⟨ho, hstop⟩ := State.cutSides_stopped (l := [⟨a, .a⟩, ⟨a, .b⟩]) (by simp) hf.ordered
    ((hf.leaves.pedestalServes a).trans hp) (State.stopTimers_stopped a s)
  rw [State.pedestalGone_eq]
  exact hstop.move (State.flushAttempts_sameTimers _) (State.Follows.refl ho).flushAttempts

end

/-! ## The outlets and taps cut (03 R53, 05 R94) -/

section
variable {s u : State} {i : Nat} {r : SideRef} {reason : Reason} {o : Outlet} {q : Tap}

/-- An outlet on a pedestal that does not serve is not eligible in any state that follows. -/
theorem State.Follows.ineligible_silent (hf : s.Follows u) (ho : s.outlet.outlets.get i = some o)
    (hp : s.pedestalServes o.address = false) {p : Outlet} (hi : u.outlet.outlets.get i = some p) :
    u.outletEligible p = false := by
  have href : p.ref = o.ref := by simpa [hi, ho] using hf.outletRef i
  have ha : p.address = o.address := congrArg SideRef.address href
  exact State.outletEligible_silent (by rw [hf.leaves.pedestalServes, ha, hp])

section
variable (ho : s.outlet.outlets.get i = some o) (hp : s.pedestalServes o.address = false)
include ho hp

/-- An outlet that has left service, on a pedestal that does not serve, stays so through a cut of any side. -/
theorem State.Vacated.cutSide_silent (h : u.Vacated i .off reason) (hf : s.Follows u) (x : SideRef) :
    (u.cutSide x reason).Vacated i .off reason := by
  rw [State.cutSide_eq]
  refine State.Vacated.of_outlet ?_ (State.evalTapSide_outlet _ _ _)
  unfold State.evalOutletSide
  split
  · next j _ _ =>
    by_cases hj : i = j
    · subst hj
      obtain ⟨⟨p, hi, hx, -⟩, -⟩ := id h
      rwa [State.evalOutlet_off hi (hf.ineligible_silent ho hp hi) hx]
    · exact h.other (State.evalOutlet_only (.refl j u) reason) hj
  · exact h

variable (hx : serving o.state) (hl : ∀ k, o.fault.latches.get k = false)
include hx hl

theorem State.OutletCut.here_silent (h : s.OutletCut i o reason u) :
    (u.evalOutlet i reason).Vacated i .off reason := by
  obtain ⟨hf, hi | hv⟩ := h
  · rw [State.evalOutlet_cuts hi (hf.ineligible_silent ho hp hi) hx hl]
    exact State.vacate_vacated hi _ _
  · obtain ⟨⟨p, hi, hoff, -⟩, -⟩ := id hv
    rwa [State.evalOutlet_off hi (hf.ineligible_silent ho hp hi) hoff]

theorem State.OutletCut.cutSide_silent (h : s.OutletCut i o reason u) (x : SideRef) :
    s.OutletCut i o reason (u.cutSide x reason) := by
  obtain ⟨hf, hi | hv⟩ := id h
  · refine ⟨hf.cutSide x reason, ?_⟩
    rw [State.cutSide_eq]
    unfold State.evalOutletSide
    split
    · next j _ _ =>
      by_cases hj : i = j
      · subst hj
        exact .inr ((h.here_silent ho hp hx hl).of_outlet (State.evalTapSide_outlet _ _ _))
      · refine .inl ?_
        rwa [State.evalTapSide_outlet, (State.evalOutlet_only (.refl j u) reason).others i hj]
    · exact .inl (by rwa [State.evalTapSide_outlet])
  · exact ⟨hf.cutSide x reason, .inr (hv.cutSide_silent ho hp hf x)⟩

/-- A run of cuts that includes its side takes the outlet out of service. -/
theorem State.cutSides_outlet_silent (hs : s.Ordered) {l : List SideRef} (hr : r ∈ l)
    (hi : s.outletOfSide r = some (i, o)) :
    (l.foldl (fun t r => t.cutSide r reason) s).Vacated i .off reason := by
  refine foldl_of_mem (Inv := s.OutletCut i o reason) (fun u x h => h.cutSide_silent ho hp hx hl x)
    (fun u x h hv => hv.cutSide_silent ho hp h.1 x) (fun u h => ?_) hr ⟨.refl hs, .inl ho⟩
  obtain ⟨p, -, hpi⟩ := h.1.outletOfSide hs hi
  rw [State.cutSide_eq]
  refine State.Vacated.of_outlet ?_ (State.evalTapSide_outlet _ _ _)
  simpa only [State.evalOutletSide, hpi] using h.here_silent ho hp hx hl

end

/-- A run of cuts that includes its side closes an OPEN tap of a pedestal that does not serve. -/
theorem State.cutSides_tap_silent (hp : s.pedestalServes q.address = false) (hx : q.state = .opened) (hs : s.Ordered)
    {l : List SideRef} (hr : r ∈ l) (hi : s.tapOfSide r = some (i, q)) :
    (l.foldl (fun t r => t.cutSide r reason) s).Shut i reason := by
  have here (u : State) (h : s.TapCut i q reason u) : (u.evalTapSide r reason).Shut i reason := by
    obtain ⟨hf, hu | hv⟩ := h
    · obtain ⟨p, hpi, hside⟩ := hf.tapOfSide hs hi
      obtain rfl : p = q := by simpa [hpi] using hu
      have he : u.tapEligible p = false := State.tapEligible_silent (by rwa [hf.leaves.pedestalServes])
      simp only [State.evalTapSide, hside, hx, he]
      exact State.shutTap_get hpi .closed reason
    · exact hv.evalTapSide hf.ordered r
  exact foldl_of_mem (Inv := s.TapCut i q reason)
    (fun _ x h => (h.evalOutletSide x).evalTapSide x)
    (fun u x h hv => State.Shut.evalTapSide (by unfold State.Shut; rwa [State.evalOutletSide_tap])
      (h.1.evalOutletSide x reason).ordered x)
    (fun _ h => here _ (h.evalOutletSide r)) hr ⟨.refl hs, .inl (State.tapOfSide_spec hs hi).1⟩

variable {a : Nat}

theorem SideRef.mem_sides {r : SideRef} (h : r.address = a) : r ∈ [(⟨a, .a⟩ : SideRef), ⟨a, .b⟩] := by
  obtain ⟨b, side⟩ := r
  obtain rfl : b = a := h
  cases side <;> simp

/-- An outlet in service, with no latch set, goes to OFF with LINK_LOST, and off the queue. -/
theorem State.pedestalGone_outlet (hs : s.Ordered) (hp : s.pedestalServes a = false)
    (hi : s.outletOfSide o.ref = some (i, o)) (ha : o.address = a) (hx : serving o.state)
    (hl : ∀ k, o.fault.latches.get k = false) : (s.pedestalGone a).Vacated i .off .linkLost := by
  have hf := State.stopTimers_follows a hs
  obtain ⟨p, hpi, hside⟩ := hf.outletOfSide hs hi
  have hstop : p = o.stopped := by
    rw [State.stopTimers_outlet, (State.outletOfSide_spec hs hi).1, Option.map_some, if_pos ha] at hpi
    exact (Option.some.inj hpi).symm
  subst hstop
  rw [State.pedestalGone_eq]
  exact (State.cutSides_outlet_silent hpi (by rw [hf.leaves.pedestalServes]; exact ha ▸ hp) hx hl hf.ordered
    (SideRef.mem_sides ha) hside).flushAttempts

/-- An OPEN tap goes to CLOSED with LINK_LOST. -/
theorem State.pedestalGone_tap (hs : s.Ordered) (hp : s.pedestalServes a = false)
    (hi : s.tapOfSide q.ref = some (i, q)) (ha : q.address = a) (hx : q.state = .opened) :
    (s.pedestalGone a).Shut i .linkLost := by
  have hf := State.stopTimers_follows a hs
  obtain ⟨p, hpi, hside⟩ := hf.tapOfSide hs hi
  have hstop : p = q.stopped := by
    rw [State.stopTimers_tap, (State.tapOfSide_spec hs hi).1, Option.map_some, if_pos ha] at hpi
    exact (Option.some.inj hpi).symm
  subst hstop
  rw [State.pedestalGone_eq]
  unfold State.Shut
  rw [(State.flushAttempts_admits _).tap]
  exact State.cutSides_tap_silent (q := q.stopped) (by rw [hf.leaves.pedestalServes]; exact ha ▸ hp) hx hf.ordered
    (SideRef.mem_sides ha) hside

end

end Sys2Proof.Machine
end

section
/-! SUPPORT. DEVICE LOAD: its fields, its refusals, and what it stores (08 R145, 07 R126). -/

namespace Sys2Proof.Machine

open Sys2Proof Sys2Proof.Claim

/-! ## The fields (08 R145) -/

/-- The poll class a DEVICE LOAD asks for: none for one that is not listed. -/
def classAsked (k : DeviceKind) (c : Option (Coded PollClass)) : Option PollClass :=
  match c with
  | none => some (defaultClass k)
  | some (.known x) => some x
  | some .unlisted => none

/-- The fields the record of a device of a kind takes from a DEVICE LOAD. -/
def recordFields (f : DeviceLoad) (k : DeviceKind) (c : PollClass) (w : List WatchField) : Option DeviceFields :=
  match k, f.index, f.gateSide with
  | .pedestal, _, _ => some ⟨k, c, w, 0, .entry, false, false⟩
  | .gate, some i, some (.known x) => if smallIndexOk i then some ⟨k, c, w, i, x, false, false⟩ else none
  | .dispenser, some i, _ =>
    if smallIndexOk i && (f.hose0 || f.hose1) then some ⟨k, c, w, i, .entry, f.hose0, f.hose1⟩ else none
  | _, _, _ => none

section
variable {f : DeviceLoad} {g : DeviceFields} {k : DeviceKind} {c : PollClass} {w : List WatchField}

theorem classAsked_eq_some_iff {x : Option (Coded PollClass)} : classAsked k x = some c ↔
    x = some (.known c) ∨ x = none ∧ c = if k = .pedestal then .slow else .fast := by
  have hdefault : defaultClass k = if k = .pedestal then .slow else .fast := by cases k <;> rfl
  unfold classAsked
  split
  · simp [hdefault, eq_comm]
  · simp
  · simp

theorem recordFields_eq_some_iff : recordFields f k c w = some g ↔
    g.kind = k ∧ g.pollClass = c ∧ g.watch = w ∧
    (g.kind = .pedestal → g.index = 0 ∧ g.side = .entry ∧ g.hose0 = false ∧ g.hose1 = false) ∧
    (g.kind = .gate → f.index = some g.index ∧ g.index ≤ 3 ∧ f.gateSide = some (.known g.side) ∧ g.hose0 = false ∧
      g.hose1 = false) ∧
    (g.kind = .dispenser → f.index = some g.index ∧ g.index ≤ 3 ∧ g.hose0 = f.hose0 ∧ g.hose1 = f.hose1 ∧
      (f.hose0 = true ∨ f.hose1 = true) ∧ g.side = .entry) := by
  obtain ⟨gk, gc, gw, gi, gs, g0, g1⟩ := g
  unfold recordFields
  split
  · simp only [Option.some.injEq, DeviceFields.mk.injEq]
    constructor
    · rintro ⟨rfl, rfl, rfl, rfl, rfl, rfl, rfl⟩
      simp
    · rintro ⟨rfl, rfl, rfl, h, -, -⟩
      simpa [eq_comm] using h
  · next i x hi hx =>
    rw [Option.ite_none_right_eq_some, smallIndexOk_iff]
    simp only [Option.some.injEq, DeviceFields.mk.injEq]
    constructor
    · rintro ⟨hle, rfl, rfl, rfl, rfl, rfl, rfl, rfl⟩
      simp [hi, hx, hle]
    · rintro ⟨rfl, rfl, rfl, -, h, -⟩
      simp only [hi, hx, Option.some.injEq, Coded.known.injEq, forall_const] at h
      obtain ⟨rfl, hle, rfl, rfl, rfl⟩ := h
      simp [hle]
  · next i hi =>
    rw [Option.ite_none_right_eq_some, Bool.and_eq_true, smallIndexOk_iff, Bool.or_eq_true]
    simp only [Option.some.injEq, DeviceFields.mk.injEq]
    constructor
    · rintro ⟨⟨hle, hh⟩, rfl, rfl, rfl, rfl, rfl, rfl, rfl⟩
      simp [hi, hle, hh]
    · rintro ⟨rfl, rfl, rfl, -, -, h⟩
      simp only [hi, Option.some.injEq, forall_const] at h
      obtain ⟨rfl, hle, rfl, rfl, hh, rfl⟩ := h
      simp [hle, hh]
  · next hped hdis hgat =>
    simp only [reduceCtorEq, false_iff]
    rintro ⟨rfl, rfl, rfl, -, hgate, hdisp⟩
    cases gk with
    | pedestal => exact hped rfl
    | gate =>
      obtain ⟨hi, -, hx, -⟩ := hgate rfl
      exact hgat _ _ rfl hi hx
    | dispenser =>
      obtain ⟨hi, -⟩ := hdisp rfl
      exact hdis _ rfl hi

theorem deviceFields_unlisted (hk : f.kind = .unlisted) : deviceFields f = none := by
  simp only [deviceFields, hk]

theorem deviceFields_known (hk : f.kind = .known k) : deviceFields f = (classAsked k f.pollClass).bind fun c =>
    if busAddressOk f.address && (f.watch.getD (watchable k)).all (watchable k).contains then
      recordFields f k c (f.watch.getD (watchable k)) else none := by
  unfold deviceFields
  rw [hk]
  cases hc : f.pollClass with
  | none =>
    cases h : busAddressOk f.address && _ with
    | false => simp [classAsked, h]
    | true =>
      simp [classAsked, recordFields, h] <;> rfl
  | some x =>
    cases x with
    | unlisted => rfl
    | known c =>
      cases h : busAddressOk f.address && _ with
      | false => simp [classAsked, h]
      | true =>
        simp [classAsked, recordFields, h] <;> rfl

/-- The fields taken are those whose ranges and needs of the kind are met. -/
theorem deviceFields_eq_some_iff : deviceFields f = some g ↔ deviceForm f g := by
  cases hk : f.kind with
  | unlisted => simp [deviceFields_unlisted hk, deviceForm, hk]
  | known k =>
    rw [deviceFields_known hk, Option.bind_eq_some_iff]
    simp only [Option.ite_none_right_eq_some, recordFields_eq_some_iff, classAsked_eq_some_iff, Bool.and_eq_true,
      busAddressOk_iff, List.all_eq_true, List.contains_iff_mem, deviceForm, hk, Coded.known.injEq]
    constructor
    · rintro ⟨c, hc, ⟨⟨h1, h2⟩, hw⟩, rfl, rfl, hgw, hrec⟩
      rw [← hgw] at hw
      exact ⟨rfl, h1, h2, hc, hgw, hw, hrec⟩
    · rintro ⟨rfl, h1, h2, hc, hgw, hw, hrec⟩
      rw [hgw] at hw
      exact ⟨_, hc, ⟨⟨h1, h2⟩, hw⟩, rfl, rfl, hgw, hrec⟩

end

/-! ## The refusals (08 R145) -/

/-- The poll list, or the pedestals on it, are full for a new device (08 R145). -/
def State.listFull (s : State) (g : DeviceFields) : Prop := 32 ≤ s.bus.devices.length ∨
  g.kind = .pedestal ∧ 24 ≤ (s.bus.devices.filter fun p => decide (p.2.kind = .pedestal)).length

section
variable {f : DeviceLoad} {g : DeviceFields} {s : State}

theorem deviceExists_iff : ((((s.bus.devices.get f.address).map fun d => decide (d.kind ≠ g.kind)).getD false) ||
    (decide (g.kind ≠ .pedestal) && s.bus.devices.any fun p => decide (p.1 ≠ f.address ∧ p.2.kind = g.kind ∧
      p.2.index = g.index))) = true ↔ deviceExists f g s := by
  rw [Bool.or_eq_true, Bool.and_eq_true, List.any_eq_true]
  unfold deviceExists
  refine or_congr ?_ (by simp)
  cases s.bus.devices.get f.address <;> simp

theorem State.deviceRefusal_exists (h : deviceExists f g s) : s.deviceRefusal f.address g = some .exists := by
  rw [← deviceExists_iff] at h
  simp only [State.deviceRefusal, h, if_true]

section
variable (h : ¬deviceExists f g s)
include h

theorem State.deviceRefusal_new (hd : s.bus.devices.get f.address = none) [Decidable (s.listFull g)] :
    s.deviceRefusal f.address g = if s.listFull g then some .tableFull else none := by
  refine (if_neg (mt deviceExists_iff.1 h)).trans ?_
  simp only [hd]
  exact if_congr Iff.rfl rfl rfl

section
variable {d : Device} (hd : s.bus.devices.get f.address = some d)
include hd

theorem State.deviceRefusal_busy (hb : deviceBusy g d s) : s.deviceRefusal f.address g = some .inUse := by
  refine (if_neg (mt deviceExists_iff.1 h)).trans ?_
  simp only [hd]
  rcases hb with ⟨hk, hi, hq⟩ | ⟨hk, r, hr, hx, hc⟩
  · simp only [hk]
    exact if_pos ⟨hi, Option.isSome_iff_ne_none.2 hq⟩
  · simp only [hk, hr]
    exact if_pos ⟨hx, hc⟩

theorem State.deviceRefusal_none (hb : ¬deviceBusy g d s) : s.deviceRefusal f.address g = none := by
  refine (if_neg (mt deviceExists_iff.1 h)).trans ?_
  simp only [hd]
  cases hk : g.kind with
  | pedestal => rfl
  | gate => exact if_neg fun ⟨hi, hq⟩ => hb (.inl ⟨hk, hi, Option.isSome_iff_ne_none.1 hq⟩)
  | dispenser =>
    cases hr : s.fuel.dispensers.get d.index with
    | none => rfl
    | some r => exact if_neg fun ⟨hx, hc⟩ => hb (.inr ⟨hk, r, hr, hx, hc⟩)

end

end

/-! ## What is stored (08 R145, 07 R126) -/

/-- A device takes new fields and keeps the rest of its entry. -/
def Device.reloaded (g : DeviceFields) (d : Device) : Device :=
  { d with pollClass := g.pollClass, watch := g.watch, index := g.index }

/-- An entry is stored with the record of its unit; a device listed before keeps its poll class in the present cycle. -/
def State.deviceStored (a : Nat) (g : DeviceFields) (old : Option Device) (d : Device) (s : State) : State :=
  ((((s.setDevice a d).keepClass a old).loadRecord a (old.map (·.index)) g).restartRound).markStatus

section
variable {fr : IntakeFrame}

theorem deviceLoadAct_outOfRange (h : ∀ g, ¬deviceForm f g) : deviceLoadAct fr f s = s.refuse fr .outOfRange := by
  have hnone : deviceFields f = none :=
    Option.eq_none_iff_forall_ne_some.2 fun g hg => h g (deviceFields_eq_some_iff.1 hg)
  simp only [deviceLoadAct, hnone]

variable (h : deviceForm f g)
include h

theorem deviceLoadAct_refused {c : ReasonCode} (hc : s.deviceRefusal f.address g = some c) :
    deviceLoadAct fr f s = s.refuse fr c := by
  simp only [deviceLoadAct, deviceFields_eq_some_iff.2 h, hc]

theorem deviceLoadAct_new (hc : s.deviceRefusal f.address g = none) (hd : s.bus.devices.get f.address = none) :
    deviceLoadAct fr f s =
      (s.deviceStored f.address g none (Device.fresh g (s.imageOf f.address) s.now)).accept fr []
        (.device f.address .unpolled) := by
  simp only [deviceLoadAct, deviceFields_eq_some_iff.2 h, hc, hd]
  rfl

theorem deviceLoadAct_again {d : Device} (hc : s.deviceRefusal f.address g = none)
    (hd : s.bus.devices.get f.address = some d) : deviceLoadAct fr f s =
      (s.deviceStored f.address g (some d) (d.reloaded g)).accept fr [] (.device f.address d.state) := by
  simp only [deviceLoadAct, deviceFields_eq_some_iff.2 h, hc, hd]
  rfl

end

end

section
variable {a : Nat} {g : DeviceFields} {d : Device} {s : State}

theorem State.loadRecord_bus (a : Nat) (old : Option Nat) (g : DeviceFields) (s : State) :
    (s.loadRecord a old g).bus = s.bus := by
  unfold State.loadRecord
  cases g.kind <;> rfl

theorem State.keepClass_devices (a : Nat) (old : Option Device) (s : State) :
    (s.keepClass a old).bus.devices = s.bus.devices := by cases old <;> rfl

theorem State.deviceStored_devices (a : Nat) (g : DeviceFields) (old : Option Device) (d : Device) (s : State) :
    (s.deviceStored a g old d).bus.devices = s.bus.devices.set a d := by
  show (State.loadRecord a _ g _).bus.devices = _
  rw [State.loadRecord_bus, State.keepClass_devices]
  rfl

theorem State.deviceStored_roundPolled (a : Nat) (g : DeviceFields) (old : Option Device) (d : Device) (s : State) :
    (s.deviceStored a g old d).bus.roundPolled = [] := rfl

theorem State.deviceStored_cycle (old : Device) : (s.deviceStored a g (some old) d).bus.cycle =
    s.bus.cycle.keepClass a old.pollClass := by
  show (State.loadRecord a _ g _).bus.cycle = _
  rw [State.loadRecord_bus]
  rfl

/-- A cycle that has sent a frame keeps the class a device had (log 48). -/
theorem Cycle.keepClass_sent {c : Cycle} {d x : Device} (h : c.sent = true) :
    classIn (c.keepClass a d.pollClass) a x = (c.classes.get a).getD d.pollClass := by
  unfold Cycle.keepClass Table.has
  cases hg : c.classes.get a <;> simp [classIn, h, hg]

theorem Cycle.keepClass_unsent {c : Cycle} (x : PollClass) (h : c.sent = false) : c.keepClass a x = c := by
  simp [Cycle.keepClass, h]

theorem State.deviceStored_pedestal (hk : g.kind = .pedestal) (old : Option Device) :
    (s.deviceStored a g old d).gate = s.gate ∧ (s.deviceStored a g old d).fuel = s.fuel := by
  unfold State.deviceStored State.loadRecord
  rw [hk]
  cases old <;> exact ⟨rfl, rfl⟩

theorem State.deviceStored_gate (hk : g.kind = .gate) (old : Option Device) :
    (s.deviceStored a g old d).fuel = s.fuel ∧
      (s.deviceStored a g old d).gate = (s.loadReader a (old.map (·.index)) g).gate := by
  unfold State.deviceStored State.loadRecord
  rw [hk]
  cases old <;> exact ⟨rfl, rfl⟩

theorem State.deviceStored_dispenser (hk : g.kind = .dispenser) (old : Option Device) :
    (s.deviceStored a g old d).gate = s.gate ∧
      (s.deviceStored a g old d).fuel = (s.loadDispenser a (old.map (·.index)) g).fuel := by
  unfold State.deviceStored State.loadRecord
  rw [hk]
  cases old <;> exact ⟨rfl, rfl⟩

end

/-- A DEVICE LOAD, by its fields, what it meets, and whether its address is listed. -/
theorem deviceLoadIsCheckedAndStored : Claim.DeviceLoadIsCheckedAndStored := by
  classical
  intro f fr s h u refused full
  have answered {ans : Answer} {e : State} (hact : deviceLoadAct fr f u = e.answer fr ans) :
      exec (.deviceLoad (.fields f)) s = done fr ans e := exec_of_takes rfl rfl h hact
  refine ⟨fun hg => answered (deviceLoadAct_outOfRange hg), fun g hg => ⟨fun hx => ?_, fun hx hd => ⟨fun hf => ?_,
    fun hf => ?_⟩, fun d hx hd => ⟨fun hb => ?_, fun hb => ?_⟩⟩⟩
  · exact answered (deviceLoadAct_refused hg (State.deviceRefusal_exists (s := u) hx))
  · refine answered (deviceLoadAct_refused hg ?_)
    rw [State.deviceRefusal_new (s := u) hx hd]
    exact if_pos hf
  · have hc : u.deviceRefusal f.address g = none := by
      rw [State.deviceRefusal_new (s := u) hx hd]
      exact if_neg hf
    refine ⟨_, _, answered (deviceLoadAct_new hg hc hd), State.deviceStored_devices .., State.deviceStored_roundPolled ..,
      rfl, rfl, rfl, rfl, rfl, rfl, rfl, rfl, rfl, rfl, fun hk => ?_, fun hk => ?_⟩
    · rw [(State.deviceStored_gate hk none).2]
      rfl
    · rw [(State.deviceStored_dispenser hk none).2]
      rfl
  · refine answered (deviceLoadAct_refused hg ?_)
    exact State.deviceRefusal_busy hx hd hb
  · have hc : u.deviceRefusal f.address g = none := State.deviceRefusal_none hx hd hb
    refine ⟨_, answered (deviceLoadAct_again hg hc hd), State.deviceStored_devices .., State.deviceStored_roundPolled ..,
      fun hsent x _ => ?_, fun hsent => ?_, fun hk => State.deviceStored_pedestal hk _, fun r hk hr => ?_,
      fun r hk hr => ?_⟩
    · rw [State.deviceStored_cycle]
      exact Cycle.keepClass_sent hsent
    · rw [State.deviceStored_cycle]
      exact Cycle.keepClass_unsent _ hsent
    · obtain ⟨hfuel, hgate⟩ := State.deviceStored_gate (s := u) (a := f.address) (d := d.reloaded g) hk (some d)
      refine ⟨hfuel, hgate.trans ?_⟩
      have hold : (Option.map (·.index) (some d)).bind u.gate.readers.get = some r := hr
      simp only [State.loadReader, hold, Option.getD_some]
      rfl
    · obtain ⟨hgate, hfuel⟩ := State.deviceStored_dispenser (s := u) (a := f.address) (d := d.reloaded g) hk (some d)
      refine ⟨hgate, hfuel.trans ?_⟩
      have hold : (Option.map (·.index) (some d)).bind u.fuel.dispensers.get = some r := hr
      simp only [State.loadDispenser, hold, Option.getD_some]
      rfl

end Sys2Proof.Machine
end

section
/-! SUPPORT. DEVICE REMOVE: its refusals, and what the device's unit and the poll list are left with (08 R146). -/

namespace Sys2Proof.Machine

open Sys2Proof Sys2Proof.Claim

/-! ## The recovery timers after a change of conditions (04 R84) -/

section
variable {startEnd i : Nat} {byTime before present : FaultKind → Bool} {f : FaultRecord} {k : FaultKind} {was s : State}

theorem KindMap.get_all {α : Type} (x : α) (k : FaultKind) : (KindMap.all x).get k = x := by cases k <;> rfl

/-- No recovery timer starts where the condition is present or was absent before. -/
theorem FaultRecord.edges_recovery_none (hf : f.recovery.get k = none) (h : present k = true ∨ before k = false) :
    (f.edges startEnd byTime before present).recovery.get k = none := by
  refine (KindMap.get_of _ k).trans ?_
  rcases h with h | h <;> simp [h, hf]

theorem State.recoveryEdges_outlet (was s : State) (i : Nat) : (State.recoveryEdges was s).outlet.outlets.get i =
    (s.outlet.outlets.get i).map fun o => { o with fault := was.outletEdges s i o } :=
  Table.get_map (β := Outlet) s.outlet.outlets (fun k o => { o with fault := was.outletEdges s k o }) i

theorem State.recoveryEdges_tap (was s : State) (i : Nat) : (State.recoveryEdges was s).tap.taps.get i =
    (s.tap.taps.get i).map fun q => { q with fault := was.tapEdges s i q } :=
  Table.get_map (β := Tap) s.tap.taps (fun k q => { q with fault := was.tapEdges s k q }) i

/-- The kinds of fault that no condition of an outlet has. -/
theorem State.outletCondition_other (s : State) (o : Outlet) (h : k ∈ [FaultKind.meter, .leak, .valve]) :
    s.outletCondition o k = false := by
  simp only [List.mem_cons, List.not_mem_nil, or_false] at h
  rcases h with rfl | rfl | rfl <;> rfl

/-- At a pedestal that does not serve, every other kind's condition counts as present (04 R73). -/
theorem State.outletCondition_silent {o : Outlet} (h : s.pedestalServes o.address = false)
    (hk : k ∉ [FaultKind.meter, .leak, .valve]) : s.outletCondition o k = true := by
  cases k <;> simp_all [State.outletCondition, State.silent]

theorem State.tapCondition_other (s : State) (q : Tap) (h : k ≠ .leak) (h' : k ≠ .valve) :
    s.tapCondition q k = false := by
  cases k with
  | leak => exact absurd rfl h
  | valve => exact absurd rfl h'
  | _ => rfl

theorem State.tapCondition_silent {q : Tap} (h : s.pedestalServes q.address = false) :
    s.tapCondition q .leak = true ∧ s.tapCondition q .valve = true := by
  simp [State.tapCondition, State.silent, h]

variable {a : Nat}

/-- The recovery timers stay stopped at a pedestal that does not serve. -/
theorem State.Stopped.recoveryEdges (h : s.Stopped a) (hp : s.pedestalServes a = false) (was : State) :
    (was.recoveryEdges s).Stopped a where
  outlets i p hi ha := by
    rw [State.recoveryEdges_outlet] at hi
    obtain ⟨o, ho, rfl⟩ := Option.map_eq_some_iff.1 hi
    obtain ⟨hend, hrec⟩ := Prod.mk.inj (h.outlets i o ho ha)
    refine Prod.ext hend (KindMap.ext_get fun k => ?_)
    rw [KindMap.get_all]
    refine FaultRecord.edges_recovery_none (by rw [hrec, KindMap.get_all]) ?_
    by_cases hk : k ∈ [FaultKind.meter, .leak, .valve]
    · refine .inr ?_
      cases was.outlet.outlets.get i with
      | none => rfl
      | some x => exact State.outletCondition_other was x hk
    · exact .inl (State.outletCondition_silent ((congrArg s.pedestalServes ha).trans hp) hk)
  taps i p hi ha := by
    rw [State.recoveryEdges_tap] at hi
    obtain ⟨q, hq, rfl⟩ := Option.map_eq_some_iff.1 hi
    refine KindMap.ext_get fun k => ?_
    rw [KindMap.get_all]
    refine FaultRecord.edges_recovery_none (by rw [show q.fault.recovery = _ from h.taps i q hq ha, KindMap.get_all]) ?_
    have hs := State.tapCondition_silent (s := s) (q := q) ((congrArg s.pedestalServes ha).trans hp)
    by_cases hl : k = .leak
    · exact .inl (hl ▸ hs.1)
    · by_cases hv : k = .valve
      · exact .inl (hv ▸ hs.2)
      · refine .inr ?_
        cases was.tap.taps.get i with
        | none => rfl
        | some x => exact State.tapCondition_other was x hl hv

/-- A round restarted and its mark leave the outlets and taps. -/
theorem State.Stopped.restartRound (h : s.Stopped a) : s.restartRound.markStatus.Stopped a := ⟨h.outlets, h.taps⟩

theorem State.Vacated.restartRound {reason : Reason} {target : OutletState} (h : s.Vacated i target reason) :
    s.restartRound.markStatus.Vacated i target reason := h

theorem State.restartRound_pedestalServes (a : Nat) (s : State) :
    s.restartRound.markStatus.pedestalServes a = s.pedestalServes a := rfl

/-- Recovery timers that follow the conditions leave a vacated outlet vacated. -/
theorem State.Vacated.recoveryEdges {reason : Reason} {target : OutletState} (h : s.Vacated i target reason)
    (was : State) : (was.recoveryEdges s).Vacated i target reason := by
  obtain ⟨⟨p, hp, hrest⟩, hq⟩ := h
  exact ⟨⟨_, State.recoveryEdges_get was hp, hrest⟩, hq⟩

end

/-! ## The refusals and the removal (08 R146) -/

/-- A device leaves the poll list, the present cycle and the exchange. -/
def State.deviceErased (a : Nat) (s : State) : State :=
  { s with bus := { s.bus with
    devices := s.bus.devices.erase a
    cycle := { s.bus.cycle with classes := s.bus.cycle.classes.erase a }
    exchange := s.bus.exchange.filter fun x => decide (x.address ≠ a) } }

/-- A device leaves its unit too, and the recovery timers follow the conditions. -/
def State.deviceRemoved (a : Nat) (d : Device) (s : State) : State :=
  s.recoveryEdges (((s.deviceErased a).deviceGone a d).restartRound.markStatus)

section
variable {a : Nat} {d : Device} {s : State} {fr : IntakeFrame}

theorem State.deviceInUse_iff : s.deviceInUse a d = true ↔ deviceUsed a d s := by
  unfold State.deviceInUse deviceUsed
  cases d.kind with
  | pedestal => simp [Option.isSome_iff_ne_none]
  | gate => simp
  | dispenser => cases s.fuel.dispensers.get d.index <;> simp

theorem deviceRemoveAct_outOfRange (h : ¬(1 ≤ a ∧ a ≤ 126)) : deviceRemoveAct fr a s = s.refuse fr .outOfRange := by
  rw [← busAddressOk_iff, Bool.not_eq_true] at h
  simp [deviceRemoveAct, h]

section
variable (h : 1 ≤ a ∧ a ≤ 126)
include h

theorem deviceRemoveAct_notFound (hd : s.bus.devices.get a = none) :
    deviceRemoveAct fr a s = s.refuse fr .notFound := by
  simp [deviceRemoveAct, busAddressOk_iff.2 h, hd]

theorem deviceRemoveAct_inUse (hd : s.bus.devices.get a = some d) (hu : deviceUsed a d s) :
    deviceRemoveAct fr a s = s.refuse fr .inUse := by
  simp [deviceRemoveAct, busAddressOk_iff.2 h, hd, State.deviceInUse_iff.2 hu]

theorem deviceRemoveAct_done (hd : s.bus.devices.get a = some d) (hu : ¬deviceUsed a d s) :
    deviceRemoveAct fr a s = (s.deviceRemoved a d).accept fr [] .none := by
  rw [← State.deviceInUse_iff, Bool.not_eq_true] at hu
  simp only [deviceRemoveAct, busAddressOk_iff.2 h, hd, hu]
  rfl

end

/-! ## What the removal leaves (08 R146) -/

theorem State.deviceErased_ordered (hs : s.Ordered) (a : Nat) : (s.deviceErased a).Ordered :=
  { hs with devices := Table.sorted_erase _ a hs.devices }

theorem State.deviceErased_silent (hs : s.Ordered) (a : Nat) : (s.deviceErased a).pedestalServes a = false :=
  State.pedestalServes_unreachable fun d hd => by
    rw [show (s.deviceErased a).bus.devices.get a = none from Table.get_erase_self _ _ hs.devices] at hd
    cases hd

/-- The removal from its unit leaves the exchange, and what every device on the poll list is doing. -/
theorem State.deviceGone_bus (a : Nat) (d : Device) (s : State) :
    (s.deviceGone a d).bus.exchange = s.bus.exchange ∧
      SameService s.bus.devices (s.deviceGone a d).bus.devices := by
  unfold State.deviceGone
  split
  · have h := State.pedestalGone_leaves a (.refl s)
    exact ⟨congrArg (·.exchange) h.bus, h.served⟩
  · have h := State.dropQuery_bus (.gate d.index) s
    exact ⟨congrArg (·.exchange) h, by
      show SameService _ (s.dropQuery (.gate d.index)).bus.devices
      rw [h]
      exact .refl _⟩
  · exact ⟨rfl, .refl _⟩

theorem State.deviceRemoved_served (a : Nat) (d : Device) (s : State) :
    SameService (s.bus.devices.erase a) (s.deviceRemoved a d).bus.devices :=
  ((s.deviceErased a).deviceGone_bus a d).2

theorem State.deviceRemoved_absent (hs : s.Ordered) (d : Device) : (s.deviceRemoved a d).bus.devices.get a = none := by
  have h := s.deviceRemoved_served a d a
  rw [Table.get_erase_self _ _ hs.devices] at h
  exact Option.map_eq_none_iff.1 h

theorem State.deviceRemoved_exchange {x : Exchange} (h : (s.deviceRemoved a d).bus.exchange = some x) :
    x.address ≠ a := by
  have hx : (s.deviceErased a).bus.exchange = some x :=
    ((s.deviceErased a).deviceGone_bus a d).1.symm.trans h
  exact of_decide_eq_true (Option.filter_eq_some_iff.1 hx).2

theorem State.deviceRemoved_other {b : Nat} {v : Device} (hb : b ≠ a) (hv : s.bus.devices.get b = some v) :
    ∃ v', (s.deviceRemoved a d).bus.devices.get b = some v' ∧ v'.kind = v.kind ∧ v'.state = v.state ∧
      v'.misses = v.misses := by
  have h := s.deviceRemoved_served a d b
  rw [Table.get_erase_ne _ hb, hv] at h
  obtain ⟨v', hv', he⟩ := Option.map_eq_some_iff.1 h
  simp only [Device.standing, Prod.mk.injEq] at he
  obtain ⟨hkind, hstate, hmisses, -⟩ := he
  exact ⟨v', hv', hkind, hstate, hmisses⟩

theorem State.deviceRemoved_gate (hs : s.Ordered) (hk : d.kind = .gate) :
    (s.deviceRemoved a d).gate.readers.get d.index = none ∧ (s.deviceRemoved a d).queryOf (.gate d.index) = none := by
  unfold State.deviceRemoved State.deviceGone
  rw [hk]
  constructor
  · show ((State.dropQuery (.gate d.index) (s.deviceErased a)).gate.readers.erase d.index).get d.index = none
    rw [State.dropQuery_readers]
    exact Table.get_erase_self _ _ hs.readers
  · show (State.dropQuery (.gate d.index) (s.deviceErased a)).gate.queries.find? _ = none
    rw [State.dropQuery_eq]
    simp

theorem State.deviceRemoved_dispenser (hs : s.Ordered) (hk : d.kind = .dispenser) :
    (s.deviceRemoved a d).fuel.dispensers.get d.index = none := by
  unfold State.deviceRemoved State.deviceGone
  rw [hk]
  exact Table.get_erase_self _ _ hs.dispensers

theorem State.deviceRemoved_silent (hs : s.Ordered) (d : Device) : (s.deviceRemoved a d).pedestalServes a = false :=
  State.pedestalServes_unreachable fun x hx => by
    rw [State.deviceRemoved_absent hs] at hx
    cases hx

theorem State.deviceRemoved_pedestal (hk : d.kind = .pedestal) :
    s.deviceRemoved a d = s.recoveryEdges ((s.deviceErased a).pedestalGone a).restartRound.markStatus := by
  simp only [State.deviceRemoved, State.deviceGone, hk]

section
variable (hs : s.Ordered) (hk : d.kind = .pedestal)
include hs hk

theorem State.deviceRemoved_stopped : (s.deviceRemoved a d).Stopped a := by
  have hserves := State.deviceErased_silent hs a
  rw [State.deviceRemoved_pedestal hk]
  refine (State.pedestalGone_stopped (State.deviceErased_ordered hs a) hserves).restartRound.recoveryEdges ?_ s
  rw [State.restartRound_pedestalServes]
  exact ((State.pedestalGone_leaves a (.refl (s.deviceErased a))).pedestalServes a).trans hserves

theorem State.deviceRemoved_outlet {i : Nat} {o : Outlet} (hi : s.outletOfSide o.ref = some (i, o))
    (ha : o.address = a) (hx : serving o.state) (hl : ∀ k, o.fault.latches.get k = false) :
    (s.deviceRemoved a d).Vacated i .off .linkLost := by
  rw [State.deviceRemoved_pedestal hk]
  have hi' : (s.deviceErased a).outletOfSide o.ref = some (i, o) := hi
  exact (State.pedestalGone_outlet (State.deviceErased_ordered hs a) (State.deviceErased_silent hs a) hi' ha hx
    hl).restartRound.recoveryEdges s

end

end

/-- A DEVICE REMOVE, by its address, what is listed there and whether it is in use. -/
theorem deviceRemoveTakesADeviceOff : Claim.DeviceRemoveTakesADeviceOff := by
  intro a fr s h refused
  have answered {ans : Answer} {e : State} (hact : deviceRemoveAct fr a (s.taken fr) = e.answer fr ans) :
      exec (.deviceRemove (.fields a)) s = done fr ans e := exec_of_takes rfl rfl h hact
  refine ⟨fun hr => answered (deviceRemoveAct_outOfRange hr), fun h1 h2 hd => answered (deviceRemoveAct_notFound ⟨h1, h2⟩ hd),
    fun d h1 h2 hd => ⟨fun hu => answered (deviceRemoveAct_inUse ⟨h1, h2⟩ hd hu), fun hu hs => ?_⟩⟩
  have ht : (s.taken fr).Ordered := State.taken_ordered hs
  have hsilent := State.deviceRemoved_silent (a := a) ht d
  refine ⟨_, answered (deviceRemoveAct_done ⟨h1, h2⟩ hd hu), State.deviceRemoved_absent ht d, rfl,
    fun _ hx => State.deviceRemoved_exchange hx, fun _ _ hb hv => State.deviceRemoved_other hb hv,
    State.deviceRemoved_gate ht, State.deviceRemoved_dispenser ht, fun hk => ?_⟩
  obtain ⟨houtlets, htaps⟩ := State.deviceRemoved_stopped (a := a) ht hk
  refine ⟨fun i p hp ha => ?_, fun i p hp ha k => ?_, fun i p k _ ha hk => ?_, fun i p _ ha => ?_,
    fun i o hi ha hx hl => ?_⟩
  · obtain ⟨hend, hrec⟩ := Prod.mk.inj (houtlets i p hp ha)
    exact ⟨hend, fun k => by rw [hrec, KindMap.get_all]⟩
  · rw [show p.fault.recovery = _ from htaps i p hp ha, KindMap.get_all]
  · exact State.outletCondition_silent (ha ▸ hsilent) hk
  · exact State.tapCondition_silent (ha ▸ hsilent)
  · obtain ⟨⟨p, hp, hoff, hreason, hsession⟩, hq⟩ := State.deviceRemoved_outlet ht hk hi ha hx hl
    exact ⟨p, hp, hoff, hreason, hsession, hq⟩

/-- Settles O48, a DEVICE LOAD and a DEVICE REMOVE each by its own lemma. -/
theorem devicesAreLoadedAndRemoved : Obligations.DevicesAreLoadedAndRemoved :=
  ⟨deviceLoadIsCheckedAndStored, deviceRemoveTakesADeviceOff⟩

end Sys2Proof.Machine
end

section
/-! SUPPORT. What no reply, acknowledgement or miss reaches once its exchange has ended: the clock, the berths, the
accounts, the THRU queue, the exchange, and the kind, state, miss count and stored image of every device (08 R147,
R155). One lemma for each operation of the units, in the order of the model's files. -/

namespace Sys2Proof.Machine

open Sys2Proof Sys2Proof.Claim

/-- What the units leave alone when a reply or a miss reaches them. -/
structure State.Undisturbed (s t : State) : Prop where
  now : t.now = s.now
  berth : t.berth = s.berth
  accounts : t.charge.accounts = s.charge.accounts
  thru : t.trunk.thru = s.trunk.thru
  exchange : t.bus.exchange = s.bus.exchange
  served : SameService s.bus.devices t.bus.devices

section
variable {s t u before : State}

theorem State.Undisturbed.refl (s : State) : s.Undisturbed s := ⟨rfl, rfl, rfl, rfl, rfl, .refl _⟩

theorem State.Undisturbed.trans (h : s.Undisturbed t) (k : t.Undisturbed u) : s.Undisturbed u :=
  ⟨k.now.trans h.now, k.berth.trans h.berth, k.accounts.trans h.accounts, k.thru.trans h.thru,
    k.exchange.trans h.exchange, fun a => (k.served a).trans (h.served a)⟩

theorem State.Undisturbed.ite {c : Prop} [Decidable c] (ht : s.Undisturbed t) (hu : s.Undisturbed u) :
    s.Undisturbed (if c then t else u) := by split <;> assumption

theorem State.Leaves.undisturbed (h : s.Leaves t) : s.Undisturbed t :=
  ⟨h.now, h.berth, h.accounts, congrArg (·.thru) h.trunk, congrArg (·.exchange) h.bus, h.served⟩

theorem State.Spares.undisturbed (h : s.Spares t) : s.Undisturbed t :=
  ⟨h.now, h.berth, h.accounts, congrArg (·.thru) h.trunk, congrArg (·.exchange) h.bus, h.served⟩

theorem State.Undisturbed.leaves (h : s.Undisturbed t) (k : t.Leaves u) : s.Undisturbed u := h.trans k.undisturbed

theorem State.Undisturbed.spares (h : s.Undisturbed t) (k : t.Spares u) : s.Undisturbed u := h.trans k.undisturbed

theorem State.undisturbed_refreshAlarm (s : State) : s.Undisturbed s.refreshAlarm := by
  rw [State.refreshAlarm_eq]
  exact ⟨rfl, rfl, rfl, rfl, rfl, .refl _⟩

/-- A device that stands as another did leaves what every device stands for. -/
theorem State.undisturbed_setDevice {a : Nat} {d e : Device} (hd : s.bus.devices.get a = some d)
    (he : e.standing = d.standing) : s.Undisturbed (s.setDevice a e) := by
  refine ⟨rfl, rfl, rfl, rfl, rfl, fun b => ?_⟩
  show ((s.bus.devices.set a e).get b).map _ = _
  rw [Table.get_set]
  split
  · next h => rw [h, hd, Option.map_some, Option.map_some, he]
  · rfl

/-! ## The outlet and tap units (03, 05) -/

theorem State.Undisturbed.detections {β : Type} (h : before.Undisturbed s) (l : List β) (g : State → β → State)
    (hg : ∀ (u : State) (x : β), u.Leaves (g u x)) : before.Undisturbed (l.foldl g s) :=
  h.leaves (State.leaves_foldl l g (.refl s) hg)

theorem State.undisturbed_energyDelta (i q : Nat) (jump : Bool) (s : State) :
    s.Undisturbed (s.energyDelta i q jump) := by
  have hseen := State.modOutlet_leaves i
    (fun o => { o with fault := { o.fault with energySeen := o.fault.energySeen || decide (0 < q) } }) (.refl s)
  unfold State.energyDelta
  split
  · exact hseen.undisturbed
  · exact (hseen.undisturbed.spares (State.modLive_spares _ (.refl _))).leaves (State.outletDelta_leaves i q (.refl _))

theorem State.undisturbed_outletReply (i : Nat) (x : SideStatus) (fresh plugChanged : Bool) (delta : Option Nat)
    (s : State) : s.Undisturbed (s.outletReply i x fresh plugChanged delta) := by
  unfold State.outletReply
  split
  · exact .refl s
  · next o _ =>
    have hmeasured (r : FaultRecord) :=
      (State.measureOutlet_leaves i x (State.setOutlet_leaves i { o with fault := r } (.refl s))).undisturbed
    have hfreed := fun r q jump l => (((hmeasured r).trans (State.undisturbed_energyDelta i q jump _)).detections l
      (fun t k => t.detectOutlet i k) fun u k => State.detectOutlet_leaves i k (.refl u)).leaves
        (State.trailingRelease_leaves i (State.flushAttempts_leaves (.refl _)))
    have hplugged : ∀ v : State, s.Undisturbed v → s.Undisturbed (if fresh then
        v.storePlug i (if x.plug then .present else .absent)
        else if plugChanged then v.plugEvent i x.plug else v) := fun v hv =>
      .ite (hv.leaves (State.storePlug_leaves i _ (.refl v)))
        (.ite (hv.leaves (State.plugEvent_leaves i _ (.refl v))) hv)
    exact .ite (hplugged _ (hfreed ..))
      ((hplugged _ (hfreed ..)).leaves (State.unplugRecovery_leaves i _ (.refl _)))

theorem State.undisturbed_tapReply (i : Nat) (x : SideStatus) (fresh pressed : Bool) (delta : Option Nat)
    (s : State) : s.Undisturbed (s.tapReply i x fresh pressed delta) := by
  unfold State.tapReply
  split
  · exact .refl s
  · have hset (q : Tap) := State.setTap_leaves i q (.refl s)
    have hmarked := fun (q : Tap) (c : Prop) [Decidable c] =>
      State.Undisturbed.ite (c := c) (hset q).undisturbed (State.mark_leaves .tap i (hset q)).undisturbed
    have hcounted : ∀ (v : State) (q : Nat) (jump : Bool), s.Undisturbed v → s.Undisturbed
        (if jump then v else (v.modLive fun y => { y with litres := addLifetime i q y.litres }).tapDelta i q) :=
      fun v q jump hv =>
        .ite hv ((hv.spares (State.modLive_spares _ (.refl _))).leaves (State.tapDelta_leaves i q (.refl _)))
    have hdetected := fun (q : Tap) (c : Prop) [Decidable c] n jump l =>
      (hcounted _ n jump (hmarked q c)).detections l (fun u k => u.detectTap i k)
        fun u k => State.detectTap_leaves i k (.refl u)
    exact .ite ((hdetected ..).leaves (State.buttonPress_leaves _ (.refl _))) (hdetected ..)

theorem State.undisturbed_sideReply (r : SideRef) (x : SideStatus) (fresh plug pressed : Bool) (wh litres : Option Nat)
    (s : State) : s.Undisturbed (s.sideReply r x fresh plug pressed wh litres) := by
  have htap : ∀ v : State, s.Undisturbed v → s.Undisturbed (match v.tapOfSide r with
      | some (i, _) => v.tapReply i x fresh pressed litres
      | none => v) := by
    intro v hv
    split
    · exact hv.trans (State.undisturbed_tapReply ..)
    · exact hv
  unfold State.sideReply
  refine htap _ ?_
  split
  · exact State.undisturbed_outletReply ..
  · exact .refl s

theorem State.undisturbed_pedestalReply (a : Nat) (d : Device) (fresh : Bool) (x y : SideStatus) (s : State) :
    s.Undisturbed (s.pedestalReply a d fresh x y) := by
  have hsides := fun p q e l p' q' e' l' => (State.undisturbed_sideReply ⟨a, .a⟩ x fresh p q e l s).trans
    (State.undisturbed_sideReply ⟨a, .b⟩ y fresh p' q' e' l' _)
  exact .ite ((hsides ..).leaves (State.evalSide_leaves _ _ (State.evalSide_leaves _ _ (.refl _)))) (hsides ..)

/-- A poll counts in the round, and may complete it. -/
theorem State.undisturbed_polled (a : Nat) (s : State) : s.Undisturbed (s.polled a) := by
  have hround (l : List Nat) : s.Undisturbed { s with bus := { s.bus with roundPolled := l } } :=
    ⟨rfl, rfl, rfl, rfl, rfl, .refl _⟩
  exact .ite ((hround []).leaves (State.completeRound_leaves (.refl _))) (hround _)

/-! ## The gate unit (07) -/

theorem State.undisturbed_journalAdd (r : Requester) (t : Option Token) (d : Decision)
    (passback queried notStored clockFlag : Bool) (s : State) :
    s.Undisturbed (s.journalAdd r t d passback queried notStored clockFlag) :=
  .trans (t := { s with gate := (s.journalAdd r t d passback queried notStored clockFlag).gate })
    ⟨rfl, rfl, rfl, rfl, rfl, .refl _⟩ (State.mark_leaves .journal 0 (.refl _)).undisturbed

theorem State.undisturbed_setReader (i : Nat) (r : Reader) (s : State) : s.Undisturbed (s.setReader i r) :=
  ⟨rfl, rfl, rfl, rfl, rfl, .refl _⟩

theorem State.undisturbed_modReader (i : Nat) (f : Reader → Reader) (s : State) : s.Undisturbed (s.modReader i f) :=
  ⟨rfl, rfl, rfl, rfl, rfl, .refl _⟩

theorem State.undisturbed_setCache (c : Table CacheEntry) (s : State) : s.Undisturbed (s.setCache c) :=
  ⟨rfl, rfl, rfl, rfl, rfl, .refl _⟩

theorem State.undisturbed_writeOneShot (a : Nat) (c : OneShot) (s : State) : s.Undisturbed (s.writeOneShot a c) :=
  (State.writeOneShot_leaves a c (.refl s)).undisturbed

theorem State.undisturbed_gateDecision (i : Nat) (t : Token) (d : Decision) (passback queried notStored judged : Bool)
    (s : State) : s.Undisturbed (s.gateDecision i t d passback queried notStored judged) := by
  unfold State.gateDecision
  split
  · exact .refl s
  · have hset := fun r => (State.undisturbed_journalAdd (.gate i) (some t) d passback queried notStored judged s).trans
      (State.undisturbed_setReader i r _)
    dsimp only
    split
    · exact (hset _).trans (State.undisturbed_writeOneShot ..)
    · exact hset _

theorem State.undisturbed_gatePresence (i : Nat) (t : Token) (s : State) : s.Undisturbed (s.gatePresence i t) := by
  unfold State.gatePresence
  split
  · exact .refl s
  · refine State.Undisturbed.trans ?_ (State.undisturbed_setReader ..)
    split
    · exact State.undisturbed_setCache ..
    · exact .refl s

theorem State.undisturbed_dropQuery (r : Requester) (s : State) : s.Undisturbed (s.dropQuery r) := by
  unfold State.dropQuery
  split
  · exact .refl s
  · exact ⟨rfl, rfl, rfl, rfl, rfl, .refl _⟩

theorem State.undisturbed_makeQuery (r : Requester) (t : Token) (s : State) : s.Undisturbed (s.makeQuery r t) :=
  .trans (t := { s with gate := { s.gate with
    queries := s.gate.queries ++ [⟨t, r, s.now, s.now + s.mgmt.config.queryTimeout⟩] } })
    ⟨rfl, rfl, rfl, rfl, rfl, .refl _⟩
    (State.mark_leaves _ _ (State.createSource_leaves _ _ (.refl _))).undisturbed

theorem State.undisturbed_gateCard (i : Nat) (t : Token) (s : State) : s.Undisturbed (s.gateCard i t) := by
  unfold State.gateCard
  split
  · exact .refl s
  · split
    · exact .ite ((State.undisturbed_gateDecision ..).trans (State.undisturbed_gatePresence ..))
        (State.undisturbed_gateDecision ..)
    · refine .ite (State.undisturbed_journalAdd ..) ?_
      split
      · exact State.undisturbed_gateDecision ..
      · exact State.undisturbed_makeQuery ..

theorem State.undisturbed_exitButton (i : Nat) (s : State) : s.Undisturbed (s.exitButton i) :=
  (State.undisturbed_journalAdd ..).trans (State.undisturbed_modReader ..)

theorem State.undisturbed_doorEvent (i : Nat) (opened : Bool) (s : State) : s.Undisturbed (s.doorEvent i opened) := by
  unfold State.doorEvent
  split
  · exact .refl s
  · exact .ite ((State.undisturbed_setReader ..).trans (State.undisturbed_journalAdd ..))
      (State.undisturbed_setReader ..)

theorem State.undisturbed_gateReply (d : Device) (fresh : Bool) (cards : Nat) (t : Token) (exits : Nat) (opened : Bool)
    (s : State) : s.Undisturbed (s.gateReply d fresh cards t exits opened) := by
  unfold State.gateReply
  split
  · exact State.undisturbed_modReader ..
  · split
    · have hcard (c : Bool) : s.Undisturbed (if c then s.gateCard d.index t else s) :=
        .ite (State.undisturbed_gateCard ..) (.refl s)
      have hexit (c : Bool) (v : State) (hv : s.Undisturbed v) :
          s.Undisturbed (if c then v.exitButton d.index else v) :=
        .ite (hv.trans (State.undisturbed_exitButton ..)) hv
      exact .ite ((hexit _ _ (hcard _)).trans (State.undisturbed_doorEvent ..)) (hexit _ _ (hcard _))
    · exact .refl s

theorem State.undisturbed_unlockFailed (i : Nat) (s : State) : s.Undisturbed (s.unlockFailed i) := by
  unfold State.unlockFailed
  split
  · exact .refl s
  · next r _ =>
    have hj := State.undisturbed_journalAdd (.gate i) (r.unlock.map (·.token)) .commandFailed false false false false s
    refine .trans ?_ (State.undisturbed_setReader ..)
    split
    · split
      · exact .ite (hj.trans (State.undisturbed_setCache ..)) hj
      · exact hj
    · exact hj

theorem State.undisturbed_readerLost (i : Nat) (s : State) : s.Undisturbed (s.readerLost i) :=
  (State.undisturbed_dropQuery ..).trans (State.undisturbed_modReader ..)

/-! ## The dispensers (06) -/

theorem State.undisturbed_refuseCard (i code : Nat) (s : State) : s.Undisturbed (s.refuseCard i code) := by
  unfold State.refuseCard
  split
  · exact .refl s
  · exact (State.setDispenser_spares i _ (.refl s)).undisturbed.trans (State.undisturbed_writeOneShot ..)

theorem State.undisturbed_dispenserDecision (i : Nat) (t : Token) (grade preset : Nat) (d : Decision)
    (acct : Option Nat) (s : State) : s.Undisturbed (s.dispenserDecision i t grade preset d acct) := by
  unfold State.dispenserDecision
  split
  · exact .refl s
  · split
    · split
      · exact State.undisturbed_refuseCard ..
      · exact (State.startSale_spares _ _ _ _ _ _ (.refl s)).undisturbed
    · exact State.undisturbed_refuseCard ..

theorem State.undisturbed_decideCard (i : Nat) (d : Dispenser) (t : Token) (grade preset : Nat) (s : State) :
    s.Undisturbed (s.decideCard i d t grade preset) := by
  unfold State.decideCard
  split
  · exact (State.undisturbed_journalAdd ..).trans (State.undisturbed_dispenserDecision ..)
  · split
    · exact (State.undisturbed_journalAdd ..).trans (State.undisturbed_dispenserDecision ..)
    · exact (State.setDispenser_spares i _ (.refl s)).undisturbed.trans (State.undisturbed_makeQuery ..)

theorem State.undisturbed_dispenserCard (i : Nat) (t : Token) (grade keypad : Nat) (s : State) :
    s.Undisturbed (s.dispenserCard i t grade keypad) := by
  unfold State.dispenserCard
  split
  · exact .refl s
  · split
    case h_7 => exact State.undisturbed_journalAdd ..
    case h_8 =>
      split
      · exact State.undisturbed_writeOneShot ..
      · exact State.undisturbed_decideCard ..
    all_goals exact State.undisturbed_writeOneShot ..

theorem State.undisturbed_dispenserStatus (d : Device) (fresh : Bool) (cards : Nat) (t : Token) (grade keypad : Nat)
    (lifted : Bool) (volume t0 t1 : Nat) (s : State) :
    s.Undisturbed (s.dispenserStatus d fresh cards t grade keypad lifted volume t0 t1) := by
  have hreply := fun v w : Option Nat => (State.dispenserReply_spares d.index lifted volume fresh
    (State.totaliserReply_spares d.index 1 t1 w (State.totaliserReply_spares d.index 0 t0 v (.refl s)))).undisturbed
  rw [State.dispenserStatus_eq]
  exact .ite ((hreply ..).trans (State.undisturbed_dispenserCard ..)) (hreply ..)

/-! ## The bus controller (08) -/

theorem State.undisturbed_commandFailed (d : Device) (s : State) : s.Undisturbed (s.commandFailed d) := by
  unfold State.commandFailed
  split
  · exact State.undisturbed_unlockFailed ..
  · exact (State.saleCommandFailed_spares _ (.refl s)).undisturbed
  · exact .refl s

theorem State.undisturbed_failSlot (a : Nat) (s : State) : s.Undisturbed (s.failSlot a) := by
  unfold State.failSlot
  split
  · exact .refl s
  · next d hd =>
    have hempty := State.undisturbed_setDevice (e := { d with slot := none }) hd rfl
    exact .ite (hempty.trans (State.undisturbed_commandFailed ..)) (.refl s)

theorem State.undisturbed_retryOrFail (a : Nat) (s : State) : s.Undisturbed (s.retryOrFail a) := by
  unfold State.retryOrFail
  split
  · exact .ite (State.undisturbed_failSlot ..) (.refl s)
  · exact .refl s

theorem State.undisturbed_deviceLost (a : Nat) (d : Device) (s : State) : s.Undisturbed (s.deviceLost a d) := by
  unfold State.deviceLost
  refine State.Undisturbed.trans ?_ (State.undisturbed_failSlot ..)
  split
  · exact (State.pedestalGone_leaves a (.refl s)).undisturbed
  · exact State.undisturbed_readerLost ..
  · exact (State.undisturbed_dropQuery ..).spares (State.saleLost_spares _ (.refl _))

end

end Sys2Proof.Machine
end

section
/-! SUPPORT. How a reply is read, and how an exchange ends: the device at its address after a miss (08 R147, R149,
Table 8.6). -/

namespace Sys2Proof.Machine

open Sys2Proof Sys2Proof.Claim

/-! ## The reading of a reply (08 Table 8.6) -/

section
variable {k : DeviceKind} {x : Exchange} {r : BusReply}

theorem wholeReply_iff : wholeReply x.address r = true ↔ whole x r := decide_eq_true_iff

theorem readReply_broken (hw : ¬whole x r) : readReply k x r = .bad := by
  rw [← wholeReply_iff, Bool.not_eq_true] at hw
  simp [readReply, hw]

theorem readReply_status {b : Bool} {st : Status} (hw : whole x r) (hx : x.request = .poll b) (hf : r.function = 0x81)
    (hp : parseStatus k r.payload = some st) : readReply k x r = .status st := by
  simp [readReply, wholeReply_iff.2 hw, hx, hf, hp]

theorem readReply_poll_other {b : Bool} (hx : x.request = .poll b) (hf : r.function ≠ 0x81) :
    readReply k x r = .bad := by
  simp only [readReply, hx, if_neg hf, ite_self]

theorem readReply_ack (hw : whole x r) (hx : ∀ b, x.request ≠ .poll b) (hf : r.function = 0x82) (hp : r.payload = []) :
    readReply k x r = .ack (r.flags.getLsbD 0) := by
  unfold readReply
  cases hq : x.request with
  | poll b => exact absurd hq (hx b)
  | _ => simp [wholeReply_iff.2 hw, hf, hp]

theorem readReply_order_other (hx : ∀ b, x.request ≠ .poll b) (hf : r.function ≠ 0x82) : readReply k x r = .bad := by
  unfold readReply
  cases hq : x.request with
  | poll b => exact absurd hq (hx b)
  | _ => simp only [hf, false_and, if_false, ite_self]

variable {d : Device} {s : State} (hx : s.bus.exchange = some x) (hd : s.bus.devices.get x.address = some d)
include hx hd

theorem State.reading_eq : s.reading r = some (x, d, readReply d.kind x r) := by simp [State.reading, hx, hd]

variable (ha : s.active = true)
include ha

theorem exec_statusReply {st : Status} (h : readReply d.kind x r = .status st) :
    exec (.statusReply r) s = acted (s.status x d st) := by
  rw [exec_of_active (act := State.takeStatus r) rfl ha, State.takeStatus, State.reading_eq hx hd, h]

theorem exec_statusReply_bad (h : readReply d.kind x r = .bad) : exec (.statusReply r) s = acted s := by
  rw [exec_of_active (act := State.takeStatus r) rfl ha, State.takeStatus, State.reading_eq hx hd, h]

theorem exec_ackReceived {bit : Bool} (h : readReply d.kind x r = .ack bit) :
    exec (.ackReceived r) s = acted (s.ack x d bit) := by
  rw [exec_of_active (act := State.takeAck r) rfl ha, State.takeAck, State.reading_eq hx hd, h]

theorem exec_badReply (h : readReply d.kind x r = .bad) : exec (.badReply r) s = acted (s.miss x) := by
  rw [exec_of_active (act := State.takeBad r) rfl ha, State.takeBad, State.reading_eq hx hd, h]

omit hd in
theorem exec_replyTimeout :
    exec .replyTimeout s = acted ((s.advanceTo (x.started + s.replyTimeout)).miss x) := by
  rw [exec_of_active (act := State.noReply) rfl ha, State.noReply, hx]

end

/-! ## A device changed (08 R147) -/

section
variable {a : Nat} {d e : Device} {s : State}

theorem State.changeDevice_eq (a : Nat) (d e : Device) (s : State) : s.changeDevice a d e = { s with
    bus := { s.bus with devices := s.bus.devices.set a e }
    trunk := { s.trunk with sources := (s.changeDevice a d e).trunk.sources } } := by
  unfold State.changeDevice
  dsimp only
  split <;> rfl

theorem State.changeDevice_bus (a : Nat) (d e : Device) (s : State) :
    (s.changeDevice a d e).bus = { s.bus with devices := s.bus.devices.set a e } := by rw [State.changeDevice_eq]

theorem State.changeDevice_now (a : Nat) (d e : Device) (s : State) : (s.changeDevice a d e).now = s.now := by
  rw [State.changeDevice_eq]

theorem State.changeDevice_busOnly (a : Nat) (d e : Device) (s : State) : busOnly s (s.changeDevice a d e) := by
  unfold busOnly
  rw [State.changeDevice_eq]

theorem State.endExchange_busOnly (s : State) : busOnly s s.endExchange := rfl

/-- A changed device stands as it was changed in every state the units leave it so. -/
theorem State.Undisturbed.device {t : State} (h : (s.changeDevice a d e).Undisturbed t) :
    ∃ e', t.bus.devices.get a = some e' ∧ e'.standing = e.standing := by
  have hs := h.served a
  rw [State.changeDevice_bus, Table.get_set_self] at hs
  exact Option.map_eq_some_iff.1 hs

end

/-! ## A miss (08 R147) -/

section
variable {x : Exchange} {d : Device} {s : State} {limit : Nat}

/-- A device after a miss. -/
def Device.afterMiss (limit : Nat) (d : Device) : Device :=
  { d with state := (Claim.afterMiss limit d).1, misses := (Claim.afterMiss limit d).2 }

theorem Device.missed_eq (limit : Nat) (d : Device) : d.missed limit = d.afterMiss limit := by
  unfold Device.missed Device.afterMiss Claim.afterMiss
  cases d with
  | mk kind pollClass watch index state =>
    cases state with
    | lost => rfl
    | _ => dsimp only; split <;> rfl

/-- The state after the exchange of a miss has ended and its device has counted it. -/
def State.missCounted (x : Exchange) (d : Device) (s : State) : State :=
  s.endExchange.changeDevice x.address d (d.afterMiss s.mgmt.config.missLimit)

/-- What a miss brings once it has been counted: the loss of its device, or the failure of its one-shot. -/
def State.missActs (x : Exchange) (d e : Device) (s : State) : State :=
  if e.state = .lost ∧ d.state ≠ .lost then s.deviceLost x.address e
  else
    match x.request with
    | .oneShot _ => s.retryOrFail x.address
    | .poll _ | .setOutputs _ => s

/-- A poll missed counts in the round of the pedestals. -/
def State.missPolled (x : Exchange) (d : Device) (s : State) : State :=
  if x.request.isPoll && decide (d.kind = .pedestal) then s.polled x.address else s

theorem State.miss_eq (hd : s.bus.devices.get x.address = some d) : s.miss x = s.endExchange.recoveryEdges
    (((s.missCounted x d).missActs x d (d.afterMiss s.mgmt.config.missLimit)).missPolled x d) := by
  have hd' : s.endExchange.bus.devices.get x.address = some d := hd
  simp only [State.miss, hd']
  show _ = s.endExchange.recoveryEdges (((s.endExchange.changeDevice x.address d _).missActs x d _).missPolled x d)
  rw [← Device.missed_eq]
  rfl

theorem State.missCounted_bus (x : Exchange) (d : Device) (s : State) : (s.missCounted x d).bus = { s.bus with
    exchange := none, devices := s.bus.devices.set x.address (d.afterMiss s.mgmt.config.missLimit) } :=
  State.changeDevice_bus ..

theorem State.missCounted_now (x : Exchange) (d : Device) (s : State) : (s.missCounted x d).now = s.now :=
  State.changeDevice_now ..

theorem State.missActs_lost {e : Device} (h : e.state = .lost) (hd : d.state ≠ .lost) :
    s.missActs x d e = s.deviceLost x.address e := if_pos ⟨h, hd⟩

theorem State.missActs_oneShot {e : Device} {c : OneShot} (h : d.state = .lost ∨ e.state ≠ .lost)
    (hc : x.request = .oneShot c) : s.missActs x d e = s.retryOrFail x.address := by
  refine (if_neg fun ⟨he, hd⟩ => h.elim hd fun h => h he).trans ?_
  rw [hc]

theorem State.missPolled_oneShot {c : OneShot} (hc : x.request = .oneShot c) : s.missPolled x d = s := by
  simp [State.missPolled, hc, Request.isPoll]

theorem Request.isPoll_iff {q : Request} : q.isPoll = true ↔ ∃ b, q = .poll b := by cases q <;> simp [Request.isPoll]

theorem State.missPolled_poll (h : (∃ b, x.request = .poll b) ∧ d.kind = .pedestal) :
    s.missPolled x d = s.polled x.address :=
  if_pos (by rw [Bool.and_eq_true, Request.isPoll_iff, decide_eq_true_iff]; exact h)

theorem State.missPolled_other (h : ¬((∃ b, x.request = .poll b) ∧ d.kind = .pedestal)) : s.missPolled x d = s :=
  if_neg (by rw [Bool.and_eq_true, Request.isPoll_iff, decide_eq_true_iff]; exact h)

theorem State.undisturbed_missActs (x : Exchange) (d e : Device) (s : State) : s.Undisturbed (s.missActs x d e) := by
  refine .ite (State.undisturbed_deviceLost ..) ?_
  split
  · exact State.undisturbed_retryOrFail ..
  · exact .refl s
  · exact .refl s

theorem State.undisturbed_missPolled (x : Exchange) (d : Device) (s : State) : s.Undisturbed (s.missPolled x d) :=
  .ite (State.undisturbed_polled ..) (.refl s)

/-- A miss leaves what its count leaves. -/
theorem State.missCounted_undisturbed (hd : s.bus.devices.get x.address = some d) :
    (s.missCounted x d).Undisturbed (s.miss x).refreshAlarm := by
  rw [State.miss_eq hd]
  exact (((State.undisturbed_missActs ..).trans (State.undisturbed_missPolled ..)).leaves
    (State.recoveryEdges_leaves _ (.refl _))).trans (State.undisturbed_refreshAlarm _)

/-- A miss ends the exchange and counts at its device. -/
theorem State.miss_endsWith (hd : s.bus.devices.get x.address = some d) :
    endsWith x (Claim.afterMiss s.mgmt.config.missLimit d).1 (Claim.afterMiss s.mgmt.config.missLimit d).2
      (s.miss x).refreshAlarm ∧ (s.miss x).refreshAlarm.now = s.now := by
  have hu := State.missCounted_undisturbed hd
  obtain ⟨e, he, hstanding⟩ := hu.device
  simp only [Device.standing, Prod.mk.injEq] at hstanding
  obtain ⟨-, hstate, hmisses, -⟩ := hstanding
  exact ⟨⟨hu.exchange.trans (by rw [State.missCounted_bus]), e, he, hstate, hmisses⟩,
    hu.now.trans (State.missCounted_now ..)⟩

end

/-- Misses, by a timeout and by a bad reply; a STATUS REPLY step with another function changes nothing. -/
theorem missesCountTowardsLost : Claim.MissesCountTowardsLost := by
  intro x d s ha hx hd m
  refine ⟨⟨_, exec_replyTimeout hx ha, ?_⟩, fun r hr => ⟨_, exec_badReply hx hd ha ?_, State.miss_endsWith hd⟩,
    fun v _ ⟨b, hb⟩ hf => exec_statusReply_bad hx hd ha (readReply_poll_other hb hf)⟩
  · exact State.miss_endsWith (s := s.advanceTo (x.started + s.replyTimeout)) hd
  · rcases hr with hw | ⟨⟨b, hb⟩, hf⟩ | ⟨hb, hf⟩
    · exact readReply_broken hw
    · exact readReply_poll_other hb hf
    · exact readReply_order_other hb hf

end Sys2Proof.Machine
end

section
/-! SUPPORT. Acknowledgements, the one-shots that fail, and the devices that enter LOST (08 R148, R152 to R154; 06 R118,
R119; 07 R137, R139). -/

namespace Sys2Proof.Machine

open Sys2Proof Sys2Proof.Claim

/-! ## The slot of a device (08 R153, R154) -/

/-- A device with its slot emptied. -/
def Device.emptied (d : Device) : Device := { d with slot := none }

/-- A device whose image is acknowledged at a moment (08 R152). -/
def Device.imaged (now : Nat) (m : Image) (d : Device) : Device :=
  { d with lastSent := some m, acked := some m, differSince := if d.desired = m then none else some now }

section
variable {a : Nat} {d : Device} {s : State}

theorem Device.writeSlot_holding {c : OneShot} {z : Slot} (h : d.slot = some z) :
    d.writeSlot c = if z.command.takes c then { d with slot := some ⟨c, 0, !d.sequence⟩ } else d := by
  simp only [Device.writeSlot, h]

theorem OneShot.takes_eq_false_iff {b c : OneShot} : b.takes c = false ↔
    (b = .stop ∨ ∃ g l p, b = .authorise g l p) ∧ ∃ code, c = .refuse code := by
  cases b <;> cases c <;> simp [OneShot.takes]

theorem State.failSlot_empty (hd : s.bus.devices.get a = some d) (hz : d.slot = none) : s.failSlot a = s := by
  simp [State.failSlot, hd, hz]

theorem State.failSlot_holding (hd : s.bus.devices.get a = some d) (hz : d.slot ≠ none) :
    s.failSlot a = (s.setDevice a d.emptied).commandFailed d := by
  simp only [State.failSlot, hd, Option.isSome_iff_ne_none, ne_eq, hz, not_false_eq_true, if_true]
  rfl

theorem State.retryOrFail_third {z : Slot} (hd : s.bus.devices.get a = some d) (hz : d.slot = some z)
    (hc : 3 ≤ z.count) : s.retryOrFail a = (s.setDevice a d.emptied).commandFailed d := by
  rw [← State.failSlot_holding hd (by simp [hz])]
  simp [State.retryOrFail, hd, hz, hc]

theorem State.retryOrFail_earlier {z : Slot} (hd : s.bus.devices.get a = some d) (hz : d.slot = some z)
    (hc : z.count < 3) : s.retryOrFail a = s := by
  simp [State.retryOrFail, hd, hz, Nat.not_le.2 hc]

/-- A device changed and then changed again is as the second change makes it. -/
theorem State.changeDevice_setDevice (d e e' : Device) (w : State) :
    busOnly w ((w.changeDevice a d e).setDevice a e') ∧
      ((w.changeDevice a d e).setDevice a e').bus = { w.bus with devices := w.bus.devices.set a e' } ∧
      ((w.changeDevice a d e).setDevice a e').now = w.now := by
  have hbus : ((w.changeDevice a d e).setDevice a e').bus = { w.bus with devices := w.bus.devices.set a e' } := by
    show { (w.changeDevice a d e).bus with devices := (w.changeDevice a d e).bus.devices.set a e' } = _
    rw [State.changeDevice_bus, Table.set_set]
  refine ⟨?_, hbus, State.changeDevice_now ..⟩
  unfold busOnly
  rw [State.changeDevice_eq]
  rfl

end

/-- What a slot takes, by what it holds. -/
theorem slotsTakeOneShots : Claim.SlotsTakeOneShots := by
  refine fun c d => ⟨fun h => by simp only [Device.writeSlot, h], fun z h => ⟨fun hk => ?_, fun hk => ?_⟩⟩
  · rw [Device.writeSlot_holding h, OneShot.takes_eq_false_iff.2 hk, if_neg Bool.false_ne_true]
  · rw [← OneShot.takes_eq_false_iff, Bool.not_eq_false] at hk
    rw [Device.writeSlot_holding h, if_pos hk]

/-! ## Acknowledgements (08 R152, R154) -/

section
variable {x : Exchange} {d : Device} {bit : Bool} {s t w : State}

theorem Device.answered_eq (d : Device) : d.answered = answeredDevice d := by
  unfold Device.answered answeredDevice
  cases d.state <;> rfl

theorem answeredDevice_keeps (d : Device) : (answeredDevice d).kind = d.kind ∧ (answeredDevice d).index = d.index ∧
    (answeredDevice d).slot = d.slot ∧ (answeredDevice d).desired = d.desired := by
  unfold answeredDevice
  split <;> exact ⟨rfl, rfl, rfl, rfl⟩

/-- The state after an acknowledged exchange has ended and its device has answered. -/
def State.ackTaken (x : Exchange) (d : Device) (s : State) : State :=
  s.endExchange.changeDevice x.address d (answeredDevice d)

theorem State.ackTaken_eq (x : Exchange) (d : Device) (s : State) : s.ackTaken x d = { s with
    bus := { s.bus with exchange := none, devices := s.bus.devices.set x.address (answeredDevice d) }
    trunk := { s.trunk with sources := (s.ackTaken x d).trunk.sources } } := State.changeDevice_eq ..

theorem State.ackTaken_get (x : Exchange) (d : Device) (s : State) :
    (s.ackTaken x d).bus.devices.get x.address = some (answeredDevice d) := by
  rw [State.ackTaken_eq]
  exact Table.get_set_self _ _ _

theorem State.ack_setOutputs {m : Image} (h : x.request = .setOutputs m) : s.ack x d bit =
    s.endExchange.recoveryEdges
      (if bit = x.bit then (s.ackTaken x d).imageAcked x.address m else s.ackTaken x d) := by
  simp only [State.ack, h, State.ackTaken, ← Device.answered_eq]

theorem State.ack_oneShot {c : OneShot} (h : x.request = .oneShot c) : s.ack x d bit =
    s.endExchange.recoveryEdges ((s.ackTaken x d).oneShotAcked x.address x.bit bit) := by
  simp only [State.ack, h, State.ackTaken, ← Device.answered_eq]

/-- The conditions passed on, and the recovery timers that follow, leave the bus, the dispensers and the readers. -/
theorem State.settled_blocks (w t : State) : (w.recoveryEdges t).refreshAlarm.bus = t.bus ∧
    (w.recoveryEdges t).refreshAlarm.fuel = t.fuel ∧ (w.recoveryEdges t).refreshAlarm.gate = t.gate := by
  rw [State.refreshAlarm_eq]
  exact ⟨rfl, rfl, rfl⟩

theorem State.imageAcked_bus {a : Nat} (m : Image) (h : s.bus.devices.get a = some d) : (s.imageAcked a m).bus =
    { s.bus with devices := s.bus.devices.set a (d.imaged s.now m) } :=
  congrArg (fun l => { s.bus with devices := l }) (Table.modify_of_some (Device.imaged s.now m) h)

section
variable {a : Nat} {sent : Bool} (h : s.bus.devices.get a = some d)
include h

theorem State.oneShotAcked_none (hz : d.slot = none) : s.oneShotAcked a sent bit = s := by
  simp [State.oneShotAcked, h, hz]

variable {z : Slot} (hz : d.slot = some z)
include hz

theorem State.oneShotAcked_other (hb : bit ≠ sent) : s.oneShotAcked a sent bit = s.retryOrFail a := by
  simp [State.oneShotAcked, h, hz, hb]

theorem State.oneShotAcked_replaced (hb : bit = sent) (hs : z.bit ≠ sent) : s.oneShotAcked a sent bit = s := by
  simp [State.oneShotAcked, h, hz, hb, hs]

theorem State.oneShotAcked_unit (hb : bit = sent) (hs : z.bit = sent) (hk : d.kind ≠ .dispenser) :
    s.oneShotAcked a sent bit = s.setDevice a d.emptied := by
  simp only [State.oneShotAcked, h, hz, hb, hs, ne_eq, not_true, if_false, if_true]
  split
  · next hd => exact absurd hd hk
  · rfl
  · rfl

theorem State.oneShotAcked_dispenser (hb : bit = sent) (hs : z.bit = sent) (hk : d.kind = .dispenser) :
    s.oneShotAcked a sent bit = (s.setDevice a d.emptied).saleCommandAcked d.index z.command := by
  simp only [State.oneShotAcked, h, hz, hb, hs, ne_eq, not_true, if_false, if_true]
  split
  · rfl
  · next hd => exact absurd (hk.symm.trans hd) (by decide)
  · next hd => exact absurd (hk.symm.trans hd) (by decide)

end

theorem State.undisturbed_oneShotAcked (a : Nat) (sent bit : Bool) (s : State) :
    s.Undisturbed (s.oneShotAcked a sent bit) := by
  unfold State.oneShotAcked
  split
  · exact .refl s
  · next d hd =>
    have hempty := State.undisturbed_setDevice (e := d.emptied) hd rfl
    split
    · exact .refl s
    · refine .ite (State.undisturbed_retryOrFail ..) (.ite ?_ (.refl s))
      dsimp only
      split
      · exact hempty.spares (State.saleCommandAcked_spares _ _ (.refl _))
      · exact hempty
      · exact hempty

/-- The acknowledgement of a dispenser's one-shot changes its record at most. -/
theorem State.saleCommandAcked_bus (i : Nat) (c : OneShot) (s : State) : (s.saleCommandAcked i c).bus = s.bus := by
  unfold State.saleCommandAcked
  split
  · rfl
  · cases c with
    | authorise => dsimp only; split <;> rfl
    | stop => dsimp only; split <;> rfl
    | _ => rfl

section
variable {i : Nat} {v : Dispenser} (hv : s.fuel.dispensers.get i = some v)
include hv

theorem State.saleCommandAcked_authorise (g l p : Nat) (h : v.state = .authorised) :
    (s.saleCommandAcked i (.authorise g l p)).fuel.dispensers.get i =
      some { v with nozzleEnd := some (s.now + s.mgmt.config.nozzleTimeout * 1000) } := by
  simp only [State.saleCommandAcked, hv, h, if_true]
  exact Table.get_set_self _ _ _

theorem State.saleCommandAcked_stop (h : v.stopRequested = true) :
    (s.saleCommandAcked i .stop).fuel.dispensers.get i = some { v with stopAcked := true } := by
  simp only [State.saleCommandAcked, hv, h, if_true]
  exact Table.get_set_self _ _ _

end

/-- An acknowledged one-shot still in its slot leaves it. -/
theorem State.oneShotAcked_devices {a : Nat} {sent : Bool} {z : Slot} (h : s.bus.devices.get a = some d)
    (hz : d.slot = some z) (hb : bit = sent) (hs : z.bit = sent) :
    (s.oneShotAcked a sent bit).bus = { s.bus with devices := s.bus.devices.set a d.emptied } := by
  by_cases hk : d.kind = .dispenser
  · rw [State.oneShotAcked_dispenser h hz hb hs hk, State.saleCommandAcked_bus]
    rfl
  · rw [State.oneShotAcked_unit h hz hb hs hk]
    rfl

end

/-- Acknowledgements, by what was sent, what the slot holds, and the bits. -/
theorem acknowledgementsAreTaken : Claim.AcknowledgementsAreTaken := by
  intro r x d s ha hx hd hw hf hp bit e
  have hget := s.ackTaken_get x d
  have hblocks := s.ackTaken_eq x d
  obtain ⟨hkind, hindex, hslot, hdesired⟩ := answeredDevice_keeps d
  have taken (hq : ∀ b, x.request ≠ .poll b) := exec_ackReceived hx hd ha (readReply_ack hw hq hf hp)
  refine ⟨fun m hm => ⟨_, taken (by simp [hm]), ?_⟩, fun c hc => ⟨_, taken (by simp [hc]), ?_⟩⟩
  · rw [State.ack_setOutputs hm]
    obtain ⟨hbus, -, -⟩ := State.settled_blocks s.endExchange
      (if bit = x.bit then (s.ackTaken x d).imageAcked x.address m else s.ackTaken x d)
    rw [hbus]
    refine ⟨?_, fun hb => ?_, fun hb => ?_⟩
    · split
      · rw [State.imageAcked_bus m hget, hblocks]
      · rw [hblocks]
    · rw [if_pos hb, State.imageAcked_bus m hget, Device.imaged, hdesired, hblocks]
      exact Table.set_set ..
    · rw [if_neg hb, hblocks]
  · rw [State.ack_oneShot hc]
    obtain ⟨hbus, hfuel, hgate⟩ :=
      State.settled_blocks s.endExchange ((s.ackTaken x d).oneShotAcked x.address x.bit bit)
    rw [hbus, hfuel, hgate]
    have kept (h : (s.ackTaken x d).oneShotAcked x.address x.bit bit = s.ackTaken x d) :
        ((s.ackTaken x d).oneShotAcked x.address x.bit bit).bus.devices = s.bus.devices.set x.address e ∧
        ((s.ackTaken x d).oneShotAcked x.address x.bit bit).fuel = s.fuel ∧
        ((s.ackTaken x d).oneShotAcked x.address x.bit bit).gate = s.gate := by
      rw [h, hblocks]
      exact ⟨rfl, rfl, rfl⟩
    refine ⟨?_, fun z hz hb hs => ⟨?_, fun hk => ?_, fun v hk hv => ?_⟩, fun h => ?_⟩
    · rw [(State.undisturbed_oneShotAcked ..).exchange, hblocks]
    · rw [State.oneShotAcked_devices hget (hslot.trans hz) hb hs, hblocks]
      exact Table.set_set ..
    · rw [State.oneShotAcked_unit hget (hslot.trans hz) hb hs (hkind ▸ hk), hblocks]
      rfl
    · rw [State.oneShotAcked_dispenser hget (hslot.trans hz) hb hs (hkind.trans hk), hindex]
      have hv' : ((s.ackTaken x d).setDevice x.address (answeredDevice d).emptied).fuel.dispensers.get d.index =
          some v := by
        rw [hblocks]
        exact hv
      refine ⟨fun g l p hcmd hstate => ?_, fun hcmd hstop => ?_⟩
      · rw [hcmd, State.saleCommandAcked_authorise hv' g l p hstate, hblocks]
        rfl
      · rw [hcmd, State.saleCommandAcked_stop hv' hstop]
    · refine kept ?_
      rcases h with hz | ⟨z, hz, ⟨hb, hs⟩ | ⟨hb, hc⟩⟩
      · exact State.oneShotAcked_none hget (hslot.trans hz)
      · exact State.oneShotAcked_replaced hget (hslot.trans hz) hb hs
      · rw [State.oneShotAcked_other hget (hslot.trans hz) hb]
        exact State.retryOrFail_earlier hget (hslot.trans hz) hc

end Sys2Proof.Machine
end

section
/-! SUPPORT. One-shots that fail, and devices that enter LOST, at their units (08 R148, R154; 06 R118, R119; 07 R137,
R139). -/

namespace Sys2Proof.Machine

open Sys2Proof Sys2Proof.Claim

/-! ## A failed unlock (07 R139) -/

section
variable {i : Nat} {r : Reader} {s : State}

/-- The cache once the presence that a failed unlock had set is as it was before, where it still stands. -/
def State.cacheRestored (r : Reader) (s : State) : Table CacheEntry :=
  match r.unlock with
  | some u =>
    match u.before, s.holder u.token with
    | some p, some e =>
      if e.presence = u.given then s.gate.cache.set (tokenIndex u.token) { e with presence := p } else s.gate.cache
    | _, _ => s.gate.cache
  | none => s.gate.cache

/-- A reader with its release window and its unlock record ended. -/
def Reader.relocked (r : Reader) : Reader := { r with windowEnd := none, unlock := none }

/-- A failed unlock journaled at a reader. -/
def State.unlockJournaled (i : Nat) (r : Reader) (s : State) : State :=
  s.journalAdd (.gate i) (r.unlock.map (·.token)) .commandFailed false false false false

theorem State.unlockFailed_eq (hr : s.gate.readers.get i = some r) : s.unlockFailed i =
    ((s.unlockJournaled i r).setCache ((s.unlockJournaled i r).cacheRestored r)).setReader i r.relocked := by
  simp only [State.unlockFailed, hr]
  show State.setReader i r.relocked _ = _
  refine congrArg (State.setReader i r.relocked) ?_
  unfold State.unlockJournaled State.cacheRestored
  generalize s.journalAdd (.gate i) (r.unlock.map (·.token)) .commandFailed false false false false = v
  cases r.unlock with
  | none => rfl
  | some u =>
    cases hb : u.before with
    | none => simp only [hb]; rfl
    | some p =>
      cases hh : v.holder u.token with
      | none => simp only [hb, hh]; rfl
      | some e => simp only [hb, hh]; split <;> rfl

theorem State.unlockJournaled_cacheRestored (i : Nat) (r : Reader) (s : State) :
    (s.unlockJournaled i r).cacheRestored r = s.cacheRestored r := by
  unfold State.cacheRestored State.holder State.unlockJournaled
  rw [State.journalAdd_cache]

theorem State.unlockFailed_cache (hr : s.gate.readers.get i = some r) :
    (s.unlockFailed i).gate.cache = s.cacheRestored r := by
  rw [State.unlockFailed_eq hr]
  exact State.unlockJournaled_cacheRestored i r s

theorem State.unlockFailed_readers (hr : s.gate.readers.get i = some r) :
    (s.unlockFailed i).gate.readers = s.gate.readers.set i r.relocked := by
  rw [State.unlockFailed_eq hr]
  show (s.unlockJournaled i r).gate.readers.set i r.relocked = _
  rw [State.unlockJournaled, State.journalAdd_readers]

theorem State.unlockFailed_journaled (hr : s.gate.readers.get i = some r) :
    journaled ⟨clockNow s, .gate i, r.unlock.map (·.token), .commandFailed, false, false, false, false⟩ s
      (s.unlockFailed i) := by
  rw [State.unlockFailed_eq hr]
  exact State.journalAdd_journaled (.gate i) (r.unlock.map (·.token)) .commandFailed false false false false s

theorem State.cacheRestored_given {u : UnlockRecord} {p : Presence} {e : CacheEntry} (hu : r.unlock = some u)
    (hp : u.before = some p) (he : s.holder u.token = some e) (hg : e.presence = u.given) :
    s.cacheRestored r = s.gate.cache.set (tokenIndex u.token) { e with presence := p } := by
  simp only [State.cacheRestored, hu, hp, he, if_pos hg]

theorem State.cacheRestored_kept (h : ∀ u p e, r.unlock = some u → u.before = some p → s.holder u.token = some e →
    e.presence ≠ u.given) : s.cacheRestored r = s.gate.cache := by
  unfold State.cacheRestored
  split
  · next u hu =>
    split
    · next p e hp he => exact if_neg (h u p e hu hp he)
    · rfl
  · rfl

end

/-! ## The sale of a dispenser (06 R118, R119) -/

section
variable {i : Nat} {d : Dispenser} {s : State} (hd : s.fuel.dispensers.get i = some d)
include hd

theorem State.saleCommandFailed_authorised (h : d.state = .authorised) :
    s.saleCommandFailed i = s.cancelSale false i := by simp only [State.saleCommandFailed, hd, h]

theorem State.saleCommandFailed_delivering {x : Sale} (h : d.state = .delivering) (hx : d.sale = some x) :
    s.saleCommandFailed i = s.enterSettling false i x.volume true := by
  simp only [State.saleCommandFailed, hd, h, hx, Option.map_some, Option.getD_some]

theorem State.saleCommandFailed_other (ha : d.state ≠ .authorised) (hv : d.state ≠ .delivering) :
    s.saleCommandFailed i = s := by
  simp only [State.saleCommandFailed, hd]
  cases h : d.state with
  | authorised => exact absurd h ha
  | delivering => exact absurd h hv
  | _ => rfl

theorem State.saleLost_cardWait (h : d.state = .cardWait) : s.saleLost i = s.setDispenser i d.idled := by
  simp only [State.saleLost, hd, h]

theorem State.saleLost_cancelled (h : d.state = .holding ∨ d.state = .waitPump) :
    s.saleLost i = s.cancelSale false i := by
  rcases h with h | h <;> simp only [State.saleLost, hd, h]

theorem State.saleLost_settled {x : Sale} (h : d.state = .authorised ∨ d.state = .delivering) (hx : d.sale = some x) :
    s.saleLost i = s.enterSettling false i x.volume true := by
  rcases h with h | h <;> simp only [State.saleLost, hd, h, hx, Option.map_some, Option.getD_some]

theorem State.saleLost_kept (h : d.state = .idle ∨ d.state = .settling ∨ d.state = .cancelling) : s.saleLost i = s := by
  rcases h with h | h | h <;> simp only [State.saleLost, hd, h]

end

/-! ## COMMAND_FAILED at a third transmission (08 R154) -/

section
variable {x : Exchange} {d : Device} {z : Slot} {c : OneShot} {s : State}

section
variable (hq : x.request = .oneShot c) (hz : d.slot = some z) (hc : 3 ≤ z.count)
include hq hz hc

/-- A one-shot whose third acknowledgement has the other bit fails. -/
theorem State.ack_fails {bit : Bool} (hb : bit ≠ x.bit) : s.ack x d bit = s.endExchange.recoveryEdges
    (((s.ackTaken x d).setDevice x.address (answeredDevice d).emptied).commandFailed (answeredDevice d)) := by
  obtain ⟨-, -, hslot, -⟩ := answeredDevice_keeps d
  have hget := s.ackTaken_get x d
  rw [State.ack_oneShot hq, State.oneShotAcked_other hget (hslot.trans hz) hb,
    State.retryOrFail_third hget (hslot.trans hz) hc]

/-- A one-shot whose third transmission is missed fails, where its device does not enter LOST. -/
theorem State.miss_fails (hd : s.bus.devices.get x.address = some d)
    (hl : d.state = .lost ∨ (Claim.afterMiss s.mgmt.config.missLimit d).1 ≠ .lost) :
    s.miss x = s.endExchange.recoveryEdges
      (((s.missCounted x d).setDevice x.address (d.afterMiss s.mgmt.config.missLimit).emptied).commandFailed
        (d.afterMiss s.mgmt.config.missLimit)) := by
  have hget : (s.missCounted x d).bus.devices.get x.address = some (d.afterMiss s.mgmt.config.missLimit) := by
    rw [State.missCounted_bus]
    exact Table.get_set_self _ _ _
  rw [State.miss_eq hd, State.missActs_oneShot (e := d.afterMiss s.mgmt.config.missLimit) hl hq,
    State.retryOrFail_third hget hz hc, State.missPolled_oneShot hq]

end

end

/-- Failed one-shots, by what ended the third exchange, and then by the unit of their device. -/
theorem oneShotsFail : Claim.OneShotsFail := by
  refine ⟨?_, fun d s hk => by rw [State.commandFailed, hk], ?_, fun d v s hk hv => ?_⟩
  · intro x d z c s ha hx hd hq hz hc m fails
    refine ⟨fun r hw hf hp hb => ?_, fun hl => ?_⟩
    · have hread := readReply_ack (k := d.kind) hw (fun b h => by simp [hq] at h) hf hp
      obtain ⟨hbusOnly, hbus, hnow⟩ :=
        State.changeDevice_setDevice (a := x.address) d (answeredDevice d) (answeredDevice d).emptied s.endExchange
      exact ⟨s.endExchange, _, (exec_ackReceived hx hd ha hread).trans
        (congrArg acted (State.ack_fails hq hz hc hb)), s.endExchange_busOnly, rfl, hbusOnly, hbus, hnow⟩
    · obtain ⟨hbusOnly, hbus, hnow⟩ := State.changeDevice_setDevice (a := x.address) d
        (d.afterMiss s.mgmt.config.missLimit) (d.afterMiss s.mgmt.config.missLimit).emptied
        (s.advanceTo (x.started + s.replyTimeout)).endExchange
      exact ⟨(s.advanceTo (x.started + s.replyTimeout)).endExchange, _, (exec_replyTimeout hx ha).trans
        (congrArg acted (State.miss_fails (s := s.advanceTo (x.started + s.replyTimeout)) hq hz hc hd hl)), rfl, rfl,
        hbusOnly, hbus, hnow⟩
  · intro d r s hk hr t
    have ht : t = s.unlockFailed d.index := by simp only [t, State.commandFailed, hk]
    rw [ht]
    refine ⟨State.unlockFailed_journaled hr, State.unlockFailed_readers hr, fun u p e hu hp he hg => ?_, fun h => ?_⟩
    · rw [State.unlockFailed_cache hr, State.cacheRestored_given hu hp he hg]
      rfl
    · rw [State.unlockFailed_cache hr, State.cacheRestored_kept h]
  · have ht : s.commandFailed d = s.saleCommandFailed d.index := by simp only [State.commandFailed, hk]
    rw [ht]
    exact ⟨State.saleCommandFailed_authorised hv, fun x => State.saleCommandFailed_delivering hv,
      State.saleCommandFailed_other hv⟩

/-! ## Devices that enter LOST (08 R148) -/

section
variable {i a : Nat} {d : Device} {s : State}

theorem State.readerLost_queryOf (i : Nat) (s : State) : (s.readerLost i).queryOf (.gate i) = none := by
  show (s.dropQuery (.gate i)).gate.queries.find? _ = none
  rw [State.dropQuery_eq]
  simp

theorem State.readerLost_journal (i : Nat) (s : State) : (s.readerLost i).gate.journal = s.gate.journal := by
  show (s.dropQuery (.gate i)).gate.journal = _
  rw [State.dropQuery_eq]

theorem State.readerLost_reader {r : Reader} (hr : s.gate.readers.get i = some r) :
    (s.readerLost i).gate.readers.get i = some { r with door := .unknown, windowEnd := none } := by
  show ((s.dropQuery (.gate i)).gate.readers.modify i _).get i = _
  rw [State.dropQuery_readers, Table.modify_of_some _ hr, Table.get_set_self]

/-- A miss by which a device enters LOST is passed to its units, and counts in the round of the pedestals. -/
theorem State.miss_lost {x : Exchange} (hd : s.bus.devices.get x.address = some d) (hs : d.state ≠ .lost)
    (hl : (Claim.afterMiss s.mgmt.config.missLimit d).1 = .lost) : s.miss x = s.endExchange.recoveryEdges
      (((s.missCounted x d).deviceLost x.address (d.afterMiss s.mgmt.config.missLimit)).missPolled x d) := by
  rw [State.miss_eq hd, State.missActs_lost (e := d.afterMiss s.mgmt.config.missLimit) hl hs]

end

/-- A device lost: the miss that loses it, its slot, and each unit. -/
theorem lostDevicesLeaveTheirUnits : Claim.LostDevicesLeaveTheirUnits := by
  refine ⟨?_, fun a d s hd => ⟨State.failSlot_empty hd, State.failSlot_holding hd⟩,
    fun a d s => ⟨fun hk => ?_, fun hk => ?_, fun hk => ?_⟩, ?_,
    fun i s => ⟨s.readerLost_queryOf i, s.readerLost_journal i, fun _ => State.readerLost_reader⟩,
    fun i d s hd => ⟨State.saleLost_cardWait hd, State.saleLost_cancelled hd, fun _ => State.saleLost_settled hd,
      State.saleLost_kept hd⟩⟩
  · intro x d s ha hx hd hs hl e
    have he : d.afterMiss s.mgmt.config.missLimit = e := by rw [Device.afterMiss, hl]
    let u := s.advanceTo (x.started + s.replyTimeout)
    refine ⟨u.endExchange, u.missCounted x d, rfl, rfl, State.changeDevice_busOnly .., State.missCounted_now .., ?_, ?_⟩
    · rw [State.missCounted_bus, ← he]
      rfl
    · rw [exec_replyTimeout hx ha, State.miss_lost (s := u) hd hs hl, ← he]
      refine congrArg acted (congrArg u.endExchange.recoveryEdges ?_)
      split
      · next h => exact State.missPolled_poll h
      · next h => exact State.missPolled_other h
  · simp only [State.deviceLost, hk]
  · simp only [State.deviceLost, hk]
  · simp only [State.deviceLost, hk]
  · intro a s hs hlost t
    have hserves : s.pedestalServes a = false :=
      State.pedestalServes_unreachable fun d hd => by rw [hlost d hd]; rfl
    obtain ⟨houtlets, htaps⟩ := State.pedestalGone_stopped hs hserves
    refine ⟨fun i p hp hpa => ?_, fun i p hp hpa k => ?_, fun i o hi ho hx hl => ?_,
      fun i q hi hq hx => State.pedestalGone_tap hs hserves hi hq hx⟩
    · obtain ⟨hend, hrec⟩ := Prod.mk.inj (houtlets i p hp hpa)
      exact ⟨hend, fun k => by rw [hrec, KindMap.get_all]⟩
    · rw [show p.fault.recovery = _ from htaps i p hp hpa, KindMap.get_all]
    · exact (State.pedestalGone_outlet hs hserves hi ho hx hl).1

/-- Settles O52, each claim by its own lemma. -/
theorem acknowledgementsAndMissesAreTaken : Obligations.AcknowledgementsAndMissesAreTaken :=
  ⟨acknowledgementsAreTaken, slotsTakeOneShots, oneShotsFail, missesCountTowardsLost, lostDevicesLeaveTheirUnits⟩

end Sys2Proof.Machine
end

section
/-! SUPPORT. A status reply: its device, the units of its kind, and the sides of a pedestal (08 R147, R148, R155 to R157;
the order by log 10). -/

namespace Sys2Proof.Machine

open Sys2Proof Sys2Proof.Claim

/-! ## The device of a status reply (08 R147, R155, R157) -/

section
variable {x : Exchange} {d : Device} {st : Status} {s : State}

theorem Device.replied_eq (now : Nat) (fresh : Bool) (st : Status) (d : Device) :
    d.replied now fresh st = repliedDevice now fresh st d := by
  cases st with
  | pedestal a b =>
    have hor : d.differSince.or (some now) = some (d.differSince.getD now) := by cases d.differSince <;> rfl
    unfold Device.replied repliedDevice
    simp only [hor]
  | _ => rfl

/-- A replied device is ONLINE without misses, with the reply stored. -/
theorem repliedDevice_standing (now : Nat) (fresh : Bool) (st : Status) (d : Device) :
    (repliedDevice now fresh st d).standing = (d.kind, .online, 0, some st) := by cases st <;> rfl

/-- Whether a status reply re-bases its device: it was UNPOLLED or LOST (08 R157). -/
def Device.rebases (d : Device) : Bool := decide (d.state = .unpolled ∨ d.state = .lost)

theorem Device.rebases_eq (d : Device) : d.rebases = !d.state.reachable := by
  unfold Device.rebases
  cases d.state <;> rfl

/-- The state after the exchange of a status reply has ended and its device has taken the reply. -/
def State.statusTaken (x : Exchange) (d : Device) (st : Status) (s : State) : State :=
  s.endExchange.changeDevice x.address d (repliedDevice s.now d.rebases st d)

theorem State.statusTaken_bus (x : Exchange) (d : Device) (st : Status) (s : State) : (s.statusTaken x d st).bus =
    { s.bus with exchange := none, devices := s.bus.devices.set x.address (repliedDevice s.now d.rebases st d) } :=
  State.changeDevice_bus ..

/-- What a status reply brings the units of its kind. -/
def State.statusActs (x : Exchange) (d : Device) (st : Status) (s : State) : State :=
  match st with
  | .pedestal a b => (s.pedestalReply x.address d d.rebases a b).polled x.address
  | .gate c k e o => s.gateReply d d.rebases c k e o
  | .dispenser c k g p n l t0 t1 => s.dispenserStatus d d.rebases c k g p n l t0 t1

theorem State.status_eq (x : Exchange) (d : Device) (st : Status) (s : State) :
    s.status x d st = s.endExchange.recoveryEdges ((s.statusTaken x d st).statusActs x d st) := by
  unfold State.statusTaken
  rw [← Device.replied_eq, Device.rebases_eq]
  unfold State.statusActs
  rw [Device.rebases_eq]
  cases st <;> rfl

theorem State.undisturbed_statusActs (x : Exchange) (d : Device) (st : Status) (s : State) :
    s.Undisturbed (s.statusActs x d st) := by
  cases st with
  | pedestal => exact (State.undisturbed_pedestalReply ..).trans (State.undisturbed_polled ..)
  | gate => exact State.undisturbed_gateReply ..
  | dispenser => exact State.undisturbed_dispenserStatus ..

/-- A status reply leaves what its device's change leaves. -/
theorem State.statusTaken_undisturbed (x : Exchange) (d : Device) (st : Status) (s : State) :
    (s.statusTaken x d st).Undisturbed (s.status x d st).refreshAlarm := by
  rw [State.status_eq]
  exact ((State.undisturbed_statusActs ..).leaves (State.recoveryEdges_leaves _ (.refl _))).trans
    (State.undisturbed_refreshAlarm _)

end

/-- A status reply ends the exchange, brings its device ONLINE, and leaves what no reply reaches. -/
theorem deviceOnline_of_statusReply : Claim.StatusReplyBringsADeviceOnline := by
  intro r x d st resync s ha hx hq hd hw hf hp
  have hu := s.statusTaken_undisturbed x d st
  have hk := State.refreshAlarm_stays (State.status_stays x d st (.refl s))
  obtain ⟨d', hd', hstanding⟩ := hu.device
  rw [repliedDevice_standing] at hstanding
  simp only [Device.standing, Prod.mk.injEq] at hstanding
  obtain ⟨hkind, hstate, hmisses, hstored⟩ := hstanding
  have htaken : s.statusTaken x d st = _ := State.changeDevice_eq ..
  refine ⟨_, d', exec_statusReply hx hd ha (readReply_status hw hq hf hp), hu.exchange.trans ?_, hd', hkind, hstate,
    hmisses, hstored, hu.now.trans ?_, hk.config, hu.berth.trans ?_, hu.accounts.trans ?_, hk.serviceHold,
    hk.protection, hk.waterSuspend, hu.thru.trans ?_, hk.freeze⟩ <;> rw [htaken] <;> rfl

/-- A status reply reaches the units of its device's kind. -/
theorem statusReplyReachesTheUnits : Claim.StatusReplyReachesTheUnits := by
  intro r x d st resync s ha hx hq hd hw hf hp fresh w
  have hexec := exec_statusReply hx hd ha (readReply_status hw hq hf hp)
  rw [State.status_eq] at hexec
  refine ⟨s.statusTaken x d st, State.changeDevice_busOnly .., State.changeDevice_now .., State.statusTaken_bus ..,
    fun a b h => ?_, fun c k e o h => ?_, fun c k g p n l t0 t1 h => ?_⟩ <;> subst h <;> exact hexec

/-! ## The sides of a pedestal (08 R148, R155 to R157) -/

section
variable {d : Device} {st : Option Status} {p q : SideStatus}

theorem storedSide_a : storedSide st .a = some p ↔ ∃ q, st = some (.pedestal p q) := by
  unfold storedSide
  split <;> simp_all

theorem storedSide_b : storedSide st .b = some q ↔ ∃ p, st = some (.pedestal p q) := by
  unfold storedSide
  split <;> simp_all

/-- A field of a stored side is seen to change where it is watched, at a reply that does not re-base. -/
theorem Device.sees_side {α : Type} [DecidableEq α] {fresh : Bool} {w : WatchField} {old : Option SideStatus}
    {f : SideStatus → α} {new : α} : (!fresh && d.sees w (old.map f) new) = true ↔
      fresh = false ∧ w ∈ d.watch ∧ ∃ p, old = some p ∧ f p ≠ new := by
  cases old with
  | none => simp [Device.sees]
  | some p => simp [Device.sees_some_iff]

/-- A change event of a side A is due where its flag says. -/
theorem Device.sees_sideA {α : Type} [DecidableEq α] {fresh b : Bool} {w : WatchField} {f : SideStatus → α} {new : α}
    (h : b = true ↔ fresh = false ∧ w ∈ d.watch ∧ ∃ p q, d.stored = some (.pedestal p q) ∧ f p ≠ new) :
    (!fresh && d.sees w ((storedSide d.stored .a).map f) new) = b := by
  rw [Bool.eq_iff_iff, h, Device.sees_side]
  simp only [storedSide_a, exists_and_right]

theorem Device.sees_sideB {α : Type} [DecidableEq α] {fresh b : Bool} {w : WatchField} {f : SideStatus → α} {new : α}
    (h : b = true ↔ fresh = false ∧ w ∈ d.watch ∧ ∃ p q, d.stored = some (.pedestal p q) ∧ f q ≠ new) :
    (!fresh && d.sees w ((storedSide d.stored .b).map f) new) = b := by
  rw [Bool.eq_iff_iff, h, Device.sees_side, exists_comm]
  simp only [storedSide_b, exists_and_right]

end

section
variable (r : SideRef) (x : SideStatus) (fresh plug pressed : Bool) (wh litres : Option Nat) (s : State)

theorem State.sideReply_eq : s.sideReply r x fresh plug pressed wh litres =
    let u := ((s.outletOfSide r).map fun p => s.outletReply p.1 x fresh plug wh).getD s
    ((u.tapOfSide r).map fun p => u.tapReply p.1 x fresh pressed litres).getD u := by
  unfold State.sideReply
  cases s.outletOfSide r with
  | none =>
    dsimp only [Option.map_none, Option.getD_none]
    cases s.tapOfSide r <;> rfl
  | some p =>
    dsimp only [Option.map_some, Option.getD_some]
    cases (s.outletReply p.1 x fresh plug wh).tapOfSide r <;> rfl

end

theorem State.evalSide_eq (r : SideRef) (reason : Reason) (s : State) : s.evalSide r reason =
    ((s.outletOfSide r).map fun p => (s.evalOutlet p.1 reason).flushAttempts).getD s := by
  unfold State.evalSide
  cases s.outletOfSide r <;> rfl

/-- A pedestal's reply, side by side, and each side. -/
theorem pedestalReplyIsDelivered : Claim.PedestalReplyIsDelivered := by
  refine ⟨?_, State.sideReply_eq, State.evalSide_eq⟩
  intro a d fresh x y s plugA pressA plugB pressB changed delta hplugA hpressA hplugB hpressB u
  unfold State.pedestalReply
  dsimp only
  rw [Device.sees_sideA (f := (·.plug)) hplugA, Device.sees_sideA (f := (·.button)) hpressA,
    Device.sees_sideB (f := (·.plug)) hplugB, Device.sees_sideB (f := (·.button)) hpressB]
  rfl

/-! ## The outlet of a side (08 R155, 03 R57) -/

/-- An outlet with the measured values of its side and a fault record. -/
def Outlet.measured (x : SideStatus) (f : FaultRecord) (o : Outlet) : Outlet :=
  { o with
    fault := f, readback := if x.contactorClosed then .closed else .opened, current := x.current
    leakA := x.leakA, leakB := x.leakB, breaker := x.breaker }

section
variable {i : Nat} {o : Outlet} {s : State}

/-- The measured values are stored with the fault record; besides, at most the source is marked. -/
theorem State.measureOutlet_setOutlet (x : SideStatus) (f : FaultRecord) (i : Nat) (o : Outlet) (s : State) :
    let v := (s.setOutlet i { o with fault := f }).measureOutlet i x
    v = { s with
      outlet := { s.outlet with outlets := s.outlet.outlets.set i (o.measured x f) }
      trunk := { s.trunk with sources := v.trunk.sources } } := by
  intro v
  have hv : v = State.measureOutlet i x (s.setOutlet i { o with fault := f }) := rfl
  have hget : (s.setOutlet i { o with fault := f }).outlet.outlets.get i = some { o with fault := f } :=
    Table.get_set_self _ _ _
  have hset : (s.setOutlet i { o with fault := f }).setOutlet i (o.measured x f) =
      s.setOutlet i (o.measured x f) := by
    simp only [State.setOutlet, Table.set_set]
  have hmark : v = if o.readback = (o.measured x f).readback then s.setOutlet i (o.measured x f)
      else (s.setOutlet i (o.measured x f)).mark .outlet i := by
    rw [← hset, hv, State.measureOutlet, hget]
    rfl
  rw [hmark]
  split <;> rfl

/-- A trailing reservation is released where the readback is OPEN and the outlet not LIVE (03 R57). -/
theorem State.trailingRelease_eq (i : Nat) (s : State) : s.trailingRelease i =
    if (s.outlet.outlets.get i).any fun p => decide (p.readback = .opened ∧ p.state ≠ .live) then
      (s.releaseReservation i).flushAttempts
    else s := by
  unfold State.trailingRelease
  cases s.outlet.outlets.get i <;> simp

end

/-- What a reply brings to an outlet, in its order. -/
theorem outletReplyIsDelivered : Claim.OutletReplyIsDelivered := by
  intro i o x fresh plugChanged delta s ho q jump r trails
  refine ⟨(s.setOutlet i { o with fault := r.1 }).measureOutlet i x, s.measureOutlet_setOutlet x r.1 i o, ?_⟩
  unfold State.outletReply
  rw [ho]
  dsimp only
  rw [State.trailingRelease_eq]
  rfl

/-- Settles O50, each claim by its own lemma. -/
theorem statusReplyBringsADeviceOnline : Obligations.StatusReplyBringsADeviceOnline :=
  ⟨deviceOnline_of_statusReply, statusReplyReachesTheUnits, pedestalReplyIsDelivered, outletReplyIsDelivered⟩

end Sys2Proof.Machine
end

section
/-! SUPPORT. Law L12 through a step (09 R167). -/

namespace Sys2Proof.Machine

open Sys2Proof Sys2Proof.Claim

theorem State.reset_oneReport : State.reset.OneReport := List.nodup_nil

/-- Settles O60: the law holds at power-on, where the LOCAL queue is empty, reads that queue alone, and is among what
every operation keeps. -/
theorem oneReportPerSource : Obligations.OneReportPerSource :=
  keptByStep_of_keeps State.reset_oneReport (fun _ _ _ _ _ h => h) fun _ _ h => h.oneReport

end Sys2Proof.Machine
end

section
/-! SUPPORT. What the trunk unit's operations write, and what they leave of the rest: ports, link frames, the silence time
and the two ways a frame received on UP takes (09 R161, R162, R164). -/

namespace Sys2Proof.Machine

open Sys2Proof Sys2Proof.Claim

/-! ## The conditions passed on -/

/-- The conditions passed on leave the trunk unit but for its report sources. -/
theorem State.refreshAlarm_trunk (s : State) :
    s.refreshAlarm.trunk = { s.trunk with sources := s.refreshAlarm.trunk.sources } := by
  rw [State.refreshAlarm_eq]

/-- The conditions passed on in an active part change the raw status and the report sources. -/
theorem State.refreshActive_eq (s : State) : s.refreshActive = { s with
    outlet := { s.outlet with raw := s.refreshActive.outlet.raw }
    trunk := { s.trunk with sources := s.refreshActive.trunk.sources } } := by
  unfold State.refreshActive
  split
  · rw [State.refreshAlarm_eq]
  · rfl

theorem State.refreshActive_trunk (s : State) :
    s.refreshActive.trunk = { s.trunk with sources := s.refreshActive.trunk.sources } := by
  rw [State.refreshActive_eq]

@[simp] theorem State.refreshActive_now (s : State) : s.refreshActive.now = s.now := by rw [State.refreshActive_eq]

@[simp] theorem State.refreshActive_gate (s : State) : s.refreshActive.gate = s.gate := by rw [State.refreshActive_eq]

/-- A part that is not running passes nothing on. -/
theorem State.refreshActive_of_not_running {s : State} (h : s.phase ≠ .running) : s.refreshActive = s := by
  simp [State.refreshActive, State.active_of_not_running h]

/-! ## Ports (09 R161) -/

section
variable {p : Port} {b : Bool} {s : State}

/-- A port report writes the port states, and marks a source at most. -/
theorem State.setPort_eq (p : Port) (b : Bool) (s : State) : s.setPort p b = { s with trunk := { s.trunk with
    upConnected := (s.setPort p b).trunk.upConnected, downConnected := (s.setPort p b).trunk.downConnected
    sources := (s.setPort p b).trunk.sources } } := by
  unfold State.setPort
  split
  · rfl
  · cases p <;> rfl

@[simp] theorem State.setPort_phase (p : Port) (b : Bool) (s : State) : (s.setPort p b).phase = s.phase := by
  rw [State.setPort_eq]

theorem State.setPort_of_connected (h : s.connected p = b) : s.setPort p b = s := if_pos (.inr h)

theorem State.setPort_changed (hp : s.phase ≠ .held) (h : s.connected p ≠ b) :
    s.setPort p b = (s.putPort p b).markStatus := if_neg (not_or.2 ⟨hp, h⟩)

theorem State.setPort_connected (hp : s.phase ≠ .held) : (s.setPort p b).connected p = b := by
  by_cases h : s.connected p = b
  · rwa [State.setPort_of_connected h]
  · rw [State.setPort_changed hp h]
    cases p <;> rfl

@[simp] theorem State.setPort_up_downConnected (b : Bool) (s : State) :
    (s.setPort .up b).trunk.downConnected = s.trunk.downConnected := by
  unfold State.setPort
  split <;> rfl

@[simp] theorem State.setPort_down_upConnected (b : Bool) (s : State) :
    (s.setPort .down b).trunk.upConnected = s.trunk.upConnected := by
  unfold State.setPort
  split <;> rfl

end

/-! ## What PAUSE, RESUME and the silence time write (09 R164, R170) -/

/-- A valid frame on UP restarts the silence time and ends upstream loss; besides, a source is marked at most. -/
theorem State.heardUp_eq (s : State) : s.heardUp = { s with trunk := { s.trunk with
    silenceFrom := s.now, lost := false, sources := s.heardUp.trunk.sources } } := by
  unfold State.heardUp
  dsimp only
  split <;> rfl

/-- A PAUSE restarts the hold time; besides, a source is marked at most. -/
theorem State.holdUp_eq (s : State) : s.holdUp = { s with trunk := { s.trunk with
    heldEnd := some (s.now + 500), sources := s.holdUp.trunk.sources } } := by
  unfold State.holdUp
  dsimp only
  split <;> rfl

/-- The end of the hold clears it; besides, a source is marked at most. -/
theorem State.releaseUp_eq (s : State) : s.releaseUp = { s with trunk := { s.trunk with
    heldEnd := none, sources := s.releaseUp.trunk.sources } } := by
  unfold State.releaseUp
  split
  · rfl
  · next h => rw [← Option.not_isSome_iff_eq_none.1 h]

/-- A valid frame on UP: the port is CONNECTED, the silence time restarts and upstream loss ends. -/
def State.heardOn (s : State) : State := (s.setPort .up true).heardUp

/-- What a valid frame on UP changes before it is routed. -/
theorem State.heardOn_eq {s : State} (h : s.phase ≠ .held) : s.heardOn = { s with trunk := { s.trunk with
    upConnected := true, silenceFrom := s.now, lost := false, sources := s.heardOn.trunk.sources } } := by
  have hup : (s.setPort .up true).trunk.upConnected = true := State.setPort_connected (p := .up) h
  have hport := State.setPort_eq .up true s
  rw [hup, State.setPort_up_downConnected] at hport
  rw [State.heardOn, State.heardUp_eq, hport]

/-! ## The two ways a frame takes on UP (09 R162) -/

section
variable {rx : RxFrame} {f : Frame} {s : State}

/-- The intake takes a frame or counts one. -/
theorem State.takeIn_eq (rx : RxFrame) (s : State) : s.takeIn rx = { s with trunk := { s.trunk with
    intake := (s.takeIn rx).trunk.intake, localDiscards := (s.takeIn rx).trunk.localDiscards
    sources := (s.takeIn rx).trunk.sources } } := by
  unfold State.takeIn
  split
  · rfl
  · split <;> rfl

theorem State.takeIn_transparent (h : s.transparent = true) : s.takeIn rx = s := if_pos h

theorem State.takeIn_free (h : s.transparent = false) (hi : s.trunk.intake = none) :
    s.takeIn rx = { s with trunk := { s.trunk with
      intake := some ⟨decide (rx.frame.dest = 0), rx.frame.type, rx.frame.tag, formOf rx⟩ } } := by
  simp [State.takeIn, h, hi]

theorem State.takeIn_full (h : s.transparent = false) (hi : s.trunk.intake ≠ none) :
    s.takeIn rx = s.countLocalDiscard := by
  simp [State.takeIn, h, Option.isSome_iff_ne_none.2 hi]

/-- A frame passed down joins the DOWN queue, is counted, or leaves its mark in the NO_ROUTE record. -/
theorem State.routeDown_eq (f : Frame) (s : State) : s.routeDown f = { s with trunk := { s.trunk with
    down := (s.routeDown f).trunk.down, noRoute := (s.routeDown f).trunk.noRoute
    downDiscards := (s.routeDown f).trunk.downDiscards, sources := (s.routeDown f).trunk.sources } } := by
  unfold State.routeDown
  split
  · split
    · rfl
    · unfold State.noRouteFor
      split <;> rfl
  · split <;> rfl

section
variable (hc : s.straps.chainEnd = false ∧ s.trunk.downConnected = true)
include hc

theorem State.routeDown_room (hl : s.trunk.down.length < 8) :
    s.routeDown f = { s with trunk := { s.trunk with down := s.trunk.down ++ [f] } } := by
  have hroom : ¬Config.thruCapacity ≤ s.trunk.down.length := Nat.not_le.2 hl
  simp [State.routeDown, hc, hroom]

theorem State.routeDown_full (hl : 8 ≤ s.trunk.down.length) : s.routeDown f = s.countDownDiscard := by
  have hfull : Config.thruCapacity ≤ s.trunk.down.length := hl
  simp [State.routeDown, hc, hfull]

end

theorem State.routeDown_closed (hc : ¬(s.straps.chainEnd = false ∧ s.trunk.downConnected = true)) :
    s.routeDown f = if f.dest = 0 then s else s.noRouteFor f :=
  if_pos (by cases hs : s.straps.chainEnd <;> cases hd : s.trunk.downConnected <;> simp_all)

/-- The NO_ROUTE record keeps the last frame, and counts to 255. -/
theorem State.noRouteFor_noRoute (h : s.transparent = false) : (s.noRouteFor f).trunk.noRoute =
    some ⟨f.tag, f.dest, s.trunk.noRoute.elim 1 fun r => min 255 (r.count + 1)⟩ := by
  unfold State.noRouteFor
  rw [h]
  cases s.trunk.noRoute <;> rfl

theorem State.noRouteFor_down : (s.noRouteFor f).trunk.down = s.trunk.down := by
  unfold State.noRouteFor
  split <;> rfl

/-- What a frame passed down makes of the DOWN queue, its discard count and the NO_ROUTE record. -/
theorem State.routeDown_effects (f : Frame) (s : State) :
    let joins := s.straps.chainEnd = false ∧ s.trunk.downConnected = true
    (joins → s.trunk.down.length < 8 → (s.routeDown f).trunk.down = s.trunk.down ++ [f] ∧
      (s.routeDown f).trunk.noRoute = s.trunk.noRoute ∧
      (s.routeDown f).trunk.downDiscards = s.trunk.downDiscards) ∧
    (joins → 8 ≤ s.trunk.down.length → (s.routeDown f).trunk.down = s.trunk.down ∧
      (s.routeDown f).trunk.downDiscards = s.trunk.downDiscards + 1) ∧
    (¬joins → (s.routeDown f).trunk.down = s.trunk.down ∧
      (f.dest ≠ 0 → s.transparent = false → (s.routeDown f).trunk.noRoute =
        some ⟨f.tag, f.dest, s.trunk.noRoute.elim 1 fun r => min 255 (r.count + 1)⟩)) := by
  refine ⟨fun hc hl => ?_, fun hc hl => ?_, fun hc => ?_⟩
  · rw [State.routeDown_room hc hl]
    exact ⟨rfl, rfl, rfl⟩
  · rw [State.routeDown_full hc hl]
    exact ⟨rfl, rfl⟩
  · rw [State.routeDown_closed hc]
    refine ⟨?_, fun hne htr => ?_⟩
    · split
      · rfl
      · exact State.noRouteFor_down
    · rw [if_neg hne, State.noRouteFor_noRoute htr]

end

end Sys2Proof.Machine
end

section
/-! SUPPORT. Reception on UP and on DOWN, frame by frame (09 R161 to R164). -/

namespace Sys2Proof.Machine

open Sys2Proof Sys2Proof.Claim

theorem validFrame_iff {rx : RxFrame} : validFrame rx = true ↔ goodFrame rx := decide_eq_true_iff

theorem dest_eq_iff {f : Frame} {n : Nat} (h : n < 256) : f.dest = BitVec.ofNat 8 n ↔ f.dest.toNat = n := by
  rw [← BitVec.toNat_inj, BitVec.toNat_ofNat, Nat.mod_eq_of_lt h]

/-! ## The route of a frame received on UP -/

section
variable {rx : RxFrame} {s : State}

theorem State.routeUp_pause (h : rx.frame.type = 0xF0) : s.routeUp rx = s.holdUp := if_pos h

theorem State.routeUp_resume (h : rx.frame.type = 0xF1) : s.routeUp rx = s.releaseUp := by
  simp [State.routeUp, h]

/-- What routing a frame received on UP changes. -/
theorem State.routeUp_eq (rx : RxFrame) (s : State) : s.routeUp rx = { s with trunk := { s.trunk with
    heldEnd := (s.routeUp rx).trunk.heldEnd, upErrors := (s.routeUp rx).trunk.upErrors
    intake := (s.routeUp rx).trunk.intake, localDiscards := (s.routeUp rx).trunk.localDiscards
    down := (s.routeUp rx).trunk.down, noRoute := (s.routeUp rx).trunk.noRoute
    downDiscards := (s.routeUp rx).trunk.downDiscards, sources := (s.routeUp rx).trunk.sources } } := by
  unfold State.routeUp
  split
  · rw [State.holdUp_eq]
  · split
    · rw [State.releaseUp_eq]
    · split
      · rfl
      · split
        · rw [State.takeIn_eq, State.routeDown_eq]
        · split
          · rw [State.takeIn_eq]
          · rw [State.routeDown_eq]

section
variable (hp : rx.frame.type ≠ 0xF0) (hr : rx.frame.type ≠ 0xF1)
include hp hr

theorem State.routeUp_office (h : rx.frame.dest.toNat = 63) : s.routeUp rx = s.countUpError :=
  (if_neg hp).trans ((if_neg hr).trans (if_pos ((dest_eq_iff (by decide)).2 h)))

variable (ho : rx.frame.dest.toNat ≠ 63)
include ho

/-- A frame that is no link frame and not for the office is routed by its destination. -/
theorem State.routeUp_by_dest : s.routeUp rx =
    if rx.frame.dest = 0 then (s.routeDown rx.frame).takeIn rx
    else if rx.frame.dest.toNat = s.segment then s.takeIn rx
    else s.routeDown rx.frame :=
  (if_neg hp).trans ((if_neg hr).trans (if_neg (mt (dest_eq_iff (by decide)).1 ho)))

theorem State.routeUp_broadcast (h : rx.frame.dest = 0) : s.routeUp rx = (s.routeDown rx.frame).takeIn rx :=
  (State.routeUp_by_dest hp hr ho).trans (if_pos h)

theorem State.routeUp_segment (h : rx.frame.dest ≠ 0) (hs : rx.frame.dest.toNat = s.segment) :
    s.routeUp rx = s.takeIn rx :=
  (State.routeUp_by_dest hp hr ho).trans ((if_neg h).trans (if_pos hs))

theorem State.routeUp_beyond (h : rx.frame.dest ≠ 0) (hs : rx.frame.dest.toNat ≠ s.segment) :
    s.routeUp rx = s.routeDown rx.frame :=
  (State.routeUp_by_dest hp hr ho).trans ((if_neg h).trans (if_neg hs))

/-- A frame for this segment, or a broadcast, comes to the intake as it stood. -/
theorem State.routeUp_local (h : rx.frame.dest.toNat = s.segment ∨ rx.frame.dest = 0) :
    ∃ u : State, s.routeUp rx = u.takeIn rx ∧ u.transparent = s.transparent ∧
      u.trunk.intake = s.trunk.intake ∧ u.trunk.localDiscards = s.trunk.localDiscards := by
  by_cases hb : rx.frame.dest = 0
  · refine ⟨s.routeDown rx.frame, State.routeUp_broadcast hp hr ho hb, ?_⟩
    rw [State.routeDown_eq]
    exact ⟨rfl, rfl, rfl⟩
  · exact ⟨s, State.routeUp_segment hp hr ho hb (h.resolve_right hb), rfl, rfl, rfl⟩

/-- A frame for an active part joins the intake, or is discarded there and counted. -/
theorem State.routeUp_taken (h : rx.frame.dest.toNat = s.segment ∨ rx.frame.dest = 0) (htr : s.transparent = false) :
    (s.trunk.intake = none →
      (s.routeUp rx).trunk.intake = some ⟨decide (rx.frame.dest = 0), rx.frame.type, rx.frame.tag, formOf rx⟩ ∧
      (s.routeUp rx).trunk.localDiscards = s.trunk.localDiscards) ∧
    (s.trunk.intake ≠ none → (s.routeUp rx).trunk.intake = s.trunk.intake ∧
      (s.routeUp rx).trunk.localDiscards = s.trunk.localDiscards + 1) := by
  obtain ⟨u, hu, htrans, hintake, hcount⟩ := State.routeUp_local hp hr ho h
  rw [← htrans] at htr
  rw [hu, ← hintake, ← hcount]
  refine ⟨fun hi => ?_, fun hi => ?_⟩
  · rw [State.takeIn_free htr hi]
    exact ⟨rfl, rfl⟩
  · rw [State.takeIn_full htr hi]
    exact ⟨rfl, rfl⟩

/-- A frame for another segment, or a broadcast, is passed down. -/
theorem State.routeUp_down (h : rx.frame.dest.toNat ≠ s.segment ∨ rx.frame.dest = 0) :
    (s.routeUp rx).trunk.down = (s.routeDown rx.frame).trunk.down ∧
      (s.routeUp rx).trunk.noRoute = (s.routeDown rx.frame).trunk.noRoute ∧
      (s.routeUp rx).trunk.downDiscards = (s.routeDown rx.frame).trunk.downDiscards := by
  by_cases hb : rx.frame.dest = 0
  · rw [State.routeUp_broadcast hp hr ho hb, State.takeIn_eq]
    exact ⟨rfl, rfl, rfl⟩
  · rw [State.routeUp_beyond hp hr ho hb (h.resolve_right hb)]
    exact ⟨rfl, rfl, rfl⟩

/-- A frame the part does not take in leaves the intake. -/
theorem State.routeUp_intake
    (h : s.transparent = true ∨ ¬(rx.frame.dest.toNat = s.segment ∨ rx.frame.dest = 0)) :
    (s.routeUp rx).trunk.intake = s.trunk.intake := by
  by_cases hl : rx.frame.dest.toNat = s.segment ∨ rx.frame.dest = 0
  · obtain ⟨u, hu, ht, hi, -⟩ := State.routeUp_local hp hr ho hl
    rw [hu, State.takeIn_transparent (ht.trans (h.resolve_right (not_not_intro hl))), hi]
  · obtain ⟨hs, hb⟩ := not_or.1 hl
    rw [State.routeUp_beyond hp hr ho hb hs, State.routeDown_eq]

end

end

/-! ## Frames received on UP -/

section
variable {rx : RxFrame} {s : State}

/-- A valid frame is heard, and then routed. -/
theorem exec_upFrame_good (hp : s.phase = .running) (hg : goodFrame rx) :
    exec (.upFrameReceived rx) s = .next (s.heardOn.routeUp rx).refreshActive := by
  have h : s.receiveUp rx = s.heardOn.routeUp rx := by
    simp [State.receiveUp, State.heardOn, hp, validFrame_iff.2 hg]
  exact congrArg (fun u => Host.Outcome.next u.refreshActive) h

theorem exec_upFrame_bad (hp : s.phase = .running) (hg : ¬goodFrame rx) :
    exec (.upFrameReceived rx) s = .next (s.setPort .up true).countUpError.refreshActive := by
  have h : s.receiveUp rx = (s.setPort .up true).countUpError := by
    simp [State.receiveUp, hp, mt validFrame_iff.1 hg]
  exact congrArg (fun u => Host.Outcome.next u.refreshActive) h

/-- Before the end of start-up a frame shows its port CONNECTED, and is dropped. -/
theorem exec_upFrame_early (hp : s.phase ≠ .running) :
    exec (.upFrameReceived rx) s = .next (s.setPort .up true) := by
  have h : s.receiveUp rx = s.setPort .up true := by simp [State.receiveUp, hp]
  have hv : (s.setPort .up true).phase ≠ .running := by rwa [State.setPort_phase]
  exact congrArg Host.Outcome.next ((congrArg State.refreshActive h).trans (State.refreshActive_of_not_running hv))

/-- What a valid frame on UP does whatever its type and destination; the rest of the trunk unit is as the route of the
frame leaves it. -/
theorem upFrame_heard (hp : s.phase = .running) (hg : goodFrame rx) : ∃ t, exec (.upFrameReceived rx) s = .next t ∧
    t.trunk.upConnected = true ∧ t.trunk.thru = s.trunk.thru ∧ t.trunk.silenceFrom = s.now ∧ t.trunk.lost = false ∧
    t.trunk = { (s.heardOn.routeUp rx).trunk with sources := t.trunk.sources } := by
  refine ⟨_, exec_upFrame_good hp hg, ?_⟩
  have hrouted := (s.heardOn.routeUp rx).refreshActive_trunk
  have hheard := State.heardOn_eq (s := s) (by simp [hp])
  refine ⟨?_, ?_, ?_, ?_, hrouted⟩ <;> rw [hrouted, State.routeUp_eq, hheard]

end

/-- Every frame received on UP, by its validity, type and destination. -/
theorem framesReceivedOnUpAreRouted : Claim.FramesReceivedOnUpAreRouted := by
  intro rx s v f ends heard forPart beyond joins
  have routed (hp : s.phase = .running) (hg : goodFrame rx) {p : State → Prop}
      (h : ∀ t : State, t.trunk = { (s.heardOn.routeUp rx).trunk with sources := t.trunk.sources } → p t) :
      heard p := by
    obtain ⟨t, he, hup, hthru, hsilence, hlost, ht⟩ := upFrame_heard hp hg
    exact ⟨t, he, hup, hthru, hsilence, hlost, h t ht⟩
  have heardOn_eq (hp : s.phase = .running) := State.heardOn_eq (s := s) (by simp [hp])
  refine ⟨exec_upFrame_early, fun hp hg => ?bad, fun hp hg hF => routed hp hg fun t ht => ?pause,
    fun hp hg hF => routed hp hg fun t ht => ?resume, fun hp hg h0 h1 h63 => routed hp hg fun t ht => ?office,
    fun hp hg h0 h1 h63 => ⟨fun htr hl => routed hp hg fun t ht => ?taken, fun hl => routed hp hg fun t ht => ?passed,
      fun hd => routed hp hg fun t ht => ?down⟩⟩
  case bad =>
    have hport : (s.setPort .up true).trunk.upConnected = true :=
      State.setPort_connected (p := .up) (by simp [hp])
    refine ⟨_, exec_upFrame_bad hp hg, ?_⟩
    dsimp only
    rw [State.refreshActive_trunk, State.setPort_eq, hport]
    exact ⟨rfl, rfl, rfl, rfl, rfl, rfl⟩
  case pause =>
    rw [ht, State.routeUp_pause hF, State.holdUp_eq, heardOn_eq hp]
    exact ⟨rfl, rfl, rfl⟩
  case resume =>
    rw [ht, State.routeUp_resume hF, State.releaseUp_eq, heardOn_eq hp]
    exact ⟨rfl, rfl, rfl⟩
  case office =>
    rw [ht, State.routeUp_office h0 h1 h63, heardOn_eq hp]
    exact ⟨rfl, rfl, rfl⟩
  case taken =>
    have htaken := State.routeUp_taken (s := s.heardOn) h0 h1 h63
    rw [heardOn_eq hp] at htaken
    rw [ht, heardOn_eq hp]
    exact htaken hl htr
  case passed =>
    rw [ht, State.routeUp_intake h0 h1 h63 (by rw [heardOn_eq hp]; exact hl), heardOn_eq hp]
  case down =>
    have hdown := State.routeUp_down (s := s.heardOn) h0 h1 h63
    have heffects := s.heardOn.routeDown_effects f
    rw [heardOn_eq hp] at hdown heffects
    obtain ⟨hqueue, hroute, hcount⟩ := hdown hd
    obtain ⟨hroom, hfull, hclosed⟩ := heffects
    rw [ht, heardOn_eq hp]
    dsimp only
    rw [hqueue, hroute, hcount]
    refine ⟨hroom, hfull, fun hc => ⟨(hclosed hc).1, fun hne htr => ((hclosed hc).2 hne htr).trans ?_⟩⟩
    cases s.trunk.noRoute <;> rfl

/-! ## Frames received on DOWN -/

section
variable {rx : RxFrame} {f : Frame} {s : State}

section
variable (hp : s.phase = .running)
include hp

/-- A running part takes a frame received on DOWN once its port is CONNECTED. -/
theorem exec_downFrame : exec (.downFrameReceived rx) s = .next
    (let v := s.setPort .down true
    if !validFrame rx then v.countDownError
    else if rx.frame.type = 0xF0 ∨ rx.frame.type = 0xF1 then v
    else if rx.frame.dest = 63 then v.pushThru rx.frame
    else v.countDownError) := by
  have hv : ¬(s.setPort .down true).phase ≠ .running := by simp [hp]
  exact congrArg Host.Outcome.next (if_neg hv)

theorem exec_downFrame_counted (h : ¬goodFrame rx ∨
    rx.frame.type ≠ 0xF0 ∧ rx.frame.type ≠ 0xF1 ∧ rx.frame.dest.toNat ≠ 63) :
    exec (.downFrameReceived rx) s = .next (s.setPort .down true).countDownError := by
  rw [exec_downFrame hp]
  by_cases hg : goodFrame rx
  · obtain ⟨h0, h1, ho⟩ := h.resolve_left (not_not_intro hg)
    rw [validFrame_iff.2 hg]
    exact congrArg Host.Outcome.next
      ((if_neg (not_or.2 ⟨h0, h1⟩)).trans (if_neg (mt (dest_eq_iff (by decide)).1 ho)))
  · rw [Bool.eq_false_iff.2 (mt validFrame_iff.1 hg)]
    rfl

variable (hg : goodFrame rx)
include hg

theorem exec_downFrame_link (hl : rx.frame.type = 0xF0 ∨ rx.frame.type = 0xF1) :
    exec (.downFrameReceived rx) s = .next (s.setPort .down true) := by
  rw [exec_downFrame hp, validFrame_iff.2 hg]
  exact congrArg Host.Outcome.next (if_pos hl)

theorem exec_downFrame_office (hl : ¬(rx.frame.type = 0xF0 ∨ rx.frame.type = 0xF1))
    (ho : rx.frame.dest.toNat = 63) :
    exec (.downFrameReceived rx) s = .next ((s.setPort .down true).pushThru rx.frame) := by
  rw [exec_downFrame hp, validFrame_iff.2 hg]
  exact congrArg Host.Outcome.next ((if_neg hl).trans (if_pos ((dest_eq_iff (by decide)).2 ho)))

end

theorem exec_downFrame_early (hp : s.phase ≠ .running) :
    exec (.downFrameReceived rx) s = .next (s.setPort .down true) := by
  have hv : (s.setPort .down true).phase ≠ .running := by rwa [State.setPort_phase]
  exact congrArg Host.Outcome.next (if_pos hv)

theorem State.pushThru_full (h : 8 ≤ s.trunk.thru.length) : s.pushThru f = s.countThruDiscard := if_pos h

/-- The THRU queue with a frame joined at its end. -/
def State.thruJoined (f : Frame) (s : State) : State :=
  { s with trunk := { s.trunk with thru := s.trunk.thru ++ [⟨f, s.now⟩] } }

theorem State.thruJoined_length (f : Frame) (s : State) :
    (s.thruJoined f).trunk.thru.length = s.trunk.thru.length + 1 := List.length_append

theorem State.pushThru_room (h : s.trunk.thru.length < 8) : s.pushThru f = (s.thruJoined f).pauseCheck :=
  if_neg (Nat.not_le.2 h)

/-- A THRU queue that has grown to 6 with pause sent clear sends a PAUSE and starts its repeat time. -/
theorem State.pauseCheck_enters (hs : s.trunk.pauseSent = false) (hl : 6 ≤ s.trunk.thru.length) :
    s.pauseCheck.trunk = { s.trunk with
      pauseSent := true, pauseEnd := some (s.now + 200), links := s.trunk.links ++ [.pause]
      sources := s.pauseCheck.trunk.sources } := by
  rw [State.pauseCheck, if_pos ⟨hs, hl⟩]
  rfl

theorem State.pauseCheck_stands (h : s.trunk.pauseSent = true ∨ s.trunk.thru.length < 6) : s.pauseCheck = s :=
  if_neg fun ⟨hs, hl⟩ => h.elim (fun ht => Bool.noConfusion (hs.symm.trans ht)) hl.not_gt

/-- What a frame for the office makes of the THRU queue and of pause sent. -/
theorem State.pushThru_joins (h : s.trunk.thru.length < 8) :
    (s.pushThru f).trunk.downConnected = s.trunk.downConnected ∧
      (s.pushThru f).trunk.thru = s.trunk.thru ++ [⟨f, s.now⟩] ∧
      (s.trunk.pauseSent = false → 5 ≤ s.trunk.thru.length → (s.pushThru f).trunk.pauseSent = true ∧
        (s.pushThru f).trunk.pauseEnd = some (s.now + 200) ∧
        (s.pushThru f).trunk.links = s.trunk.links ++ [.pause]) ∧
      (s.trunk.pauseSent = true ∨ s.trunk.thru.length < 5 →
        (s.pushThru f).trunk.pauseSent = s.trunk.pauseSent ∧ (s.pushThru f).trunk.links = s.trunk.links) := by
  rw [State.pushThru_room h]
  by_cases hc : s.trunk.pauseSent = true ∨ s.trunk.thru.length < 5
  · have hstands : (s.thruJoined f).pauseCheck = s.thruJoined f :=
      State.pauseCheck_stands (hc.imp_right fun hl => by rw [State.thruJoined_length]; omega)
    rw [hstands]
    exact ⟨rfl, rfl, fun hs hl => absurd hc (by simp [hs, hl]), fun _ => ⟨rfl, rfl⟩⟩
  · obtain ⟨hs, hl⟩ := not_or.1 hc
    have henters := State.pauseCheck_enters (s := s.thruJoined f) (Bool.eq_false_iff.2 hs)
      (by rw [State.thruJoined_length]; omega)
    rw [henters]
    exact ⟨rfl, rfl, fun _ _ => ⟨rfl, rfl, rfl⟩, fun h => absurd h hc⟩

end

/-- Every frame received on DOWN, by its validity, type and destination. -/
theorem framesReceivedOnDownJoinThru : Claim.FramesReceivedOnDownJoinThru := by
  intro rx s v
  refine ⟨exec_downFrame_early, fun hp => ?_⟩
  have hconnected : v.trunk.downConnected = true := State.setPort_connected (p := .down) (by simp [hp])
  have hv : v = { s with trunk := { s.trunk with
      upConnected := v.trunk.upConnected, downConnected := v.trunk.downConnected, sources := v.trunk.sources } } :=
    State.setPort_eq .down true s
  by_cases hc : ¬goodFrame rx ∨ rx.frame.type ≠ 0xF0 ∧ rx.frame.type ≠ 0xF1 ∧ rx.frame.dest.toNat ≠ 63
  · refine ⟨v.countDownError, exec_downFrame_counted hp hc, hconnected, fun _ => ?_, fun hg hl => ?_,
      fun hg h0 h1 ho => ?_⟩
    · rw [hv]
      exact ⟨rfl, rfl⟩
    · obtain ⟨h0, h1, -⟩ := hc.resolve_left (not_not_intro hg)
      exact absurd hl (not_or.2 ⟨h0, h1⟩)
    · obtain ⟨-, -, hn⟩ := hc.resolve_left (not_not_intro hg)
      exact absurd ho hn
  · obtain ⟨hg, hto⟩ := not_or.1 hc
    rw [not_not] at hg
    by_cases hl : rx.frame.type = 0xF0 ∨ rx.frame.type = 0xF1
    · exact ⟨v, exec_downFrame_link hp hg hl, hconnected, fun h => absurd h hc, fun _ _ => rfl,
        fun _ h0 h1 => absurd hl (not_or.2 ⟨h0, h1⟩)⟩
    · have ho : rx.frame.dest.toNat = 63 := by
        obtain ⟨h0, h1⟩ := not_or.1 hl
        exact not_not.1 fun ho => hto ⟨h0, h1, ho⟩
      have hexec := exec_downFrame_office hp hg hl ho
      by_cases hfull : 8 ≤ s.trunk.thru.length
      · rw [State.pushThru_full (s := s.setPort .down true) (by rw [State.setPort_eq]; exact hfull)] at hexec
        refine ⟨v.countThruDiscard, hexec, hconnected, fun h => absurd h hc, fun _ h => absurd h hl,
          fun _ _ _ _ => ⟨fun _ => ?_, fun hroom => absurd hfull hroom.not_ge⟩⟩
        rw [hv]
        exact ⟨rfl, rfl, rfl⟩
      · have hroom : v.trunk.thru.length < 8 := by rw [hv]; exact Nat.lt_of_not_le hfull
        obtain ⟨hport, hjoins⟩ := State.pushThru_joins (f := rx.frame) hroom
        refine ⟨v.pushThru rx.frame, hexec, hport.trans hconnected, fun h => absurd h hc, fun _ h => absurd h hl,
          fun _ _ _ _ => ⟨fun h => absurd h hfull, fun _ => ?_⟩⟩
        rw [hv] at hjoins ⊢
        exact hjoins

/-- Settles O53, port by port. -/
theorem receivedTrunkFramesAreRouted : Obligations.ReceivedTrunkFramesAreRouted :=
  ⟨framesReceivedOnUpAreRouted, framesReceivedOnDownJoinThru⟩

end Sys2Proof.Machine
end

section
/-! SUPPORT. Marks, the alarm refresh, period timers and the silence time, and the queries that the loss of the office
fails (09 R168, R170; 04 R89, R90; 07 R137). -/

namespace Sys2Proof.Machine

open Sys2Proof Sys2Proof.Claim

section
variable {x y : SourceId} {f : SourceRecord → SourceRecord} {r : SourceRecord} {s : State}

/-! ## The record of a source -/

theorem State.source_modSource_self : (s.modSource x f).source x = (s.source x).map f :=
  Table.get_modify_self _ _ _

theorem State.source_modSource_ne (h : sourceKey y ≠ sourceKey x) : (s.modSource x f).source y = s.source y :=
  Table.get_modify_ne _ _ h

/-- A source that does not exist is not made by a change of it. -/
theorem State.modSource_absent (h : s.source x = none) : s.modSource x f = s := by
  have hget : s.trunk.sources.get (sourceKey x) = none := h
  simp [State.modSource, Table.modify, hget]

theorem State.mark_absent {c : ReportClass} {i : Nat} (h : s.source ⟨c, i⟩ = none) : s.mark c i = s :=
  State.modSource_absent h

/-- A mark of one source leaves the periodic flag, the timer and the image of every source. -/
theorem State.source_mark_timed (c : ReportClass) (i : Nat) (h : s.source x = some r) :
    ∃ q, (s.mark c i).source x = some q ∧ q.periodic = r.periodic ∧ q.timerEnd = r.timerEnd ∧ q.image = r.image ∧
      (sourceKey x ≠ sourceKey ⟨c, i⟩ → q.mark = r.mark) := by
  by_cases hk : sourceKey x = sourceKey ⟨c, i⟩
  · have hr : s.source ⟨c, i⟩ = some r := by rwa [State.source, ← hk]
    refine ⟨r.marked s.now, ?_, rfl, rfl, rfl, fun h => absurd hk h⟩
    rw [State.source, hk]
    exact State.source_modSource_self.trans (congrArg (Option.map _) hr)
  · exact ⟨r, (State.source_modSource_ne hk).trans h, rfl, rfl, rfl, fun _ => rfl⟩

/-- The conditions passed on mark the alarm source at most. -/
theorem State.source_refreshAlarm_timed (h : s.source x = some r) :
    ∃ q, s.refreshAlarm.source x = some q ∧ q.periodic = r.periodic ∧ q.timerEnd = r.timerEnd ∧ q.image = r.image ∧
      (sourceKey x ≠ sourceKey ⟨.alarm, 0⟩ → q.mark = r.mark) := by
  unfold State.refreshAlarm
  split
  · exact ⟨r, h, rfl, rfl, rfl, fun _ => rfl⟩
  · exact State.source_mark_timed (s := { s with outlet := { s.outlet with raw := s.conditions } }) .alarm 0 h

/-! ## Period timers (09 R168) -/

/-- The record of a source whose period timer has run out at a moment. -/
def SourceRecord.timedOut (e : Nat) (r : SourceRecord) : SourceRecord :=
  { r with periodic := r.periodic.or (some e), timerEnd := none }

theorem State.periodExpiry_runs {e : Nat} (h : s.source x = some r) (he : r.timerEnd = some e) :
    s.periodExpiry x = (s.advanceTo e).modSource x (SourceRecord.timedOut e) := by
  simp only [State.periodExpiry, h, he, Option.bind_some]
  rfl

theorem State.periodExpiry_idle (h : s.source x = none ∨ ∃ r, s.source x = some r ∧ r.timerEnd = none) :
    s.periodExpiry x = s := by
  obtain h | ⟨r, h, he⟩ := h
  · simp [State.periodExpiry, h]
  · simp [State.periodExpiry, h, he]

end

/-- Marks touch one source, the alarm refresh passes the conditions on, and a period timer sets its source's flag. -/
theorem marksAndPeriodTimers : Claim.MarksAndPeriodTimers := by
  refine ⟨fun c i s => ⟨fun h => ?_, fun r h => ?_, fun k hk => ?_, rfl⟩,
    fun s => ⟨State.refreshAlarm_of_eq, fun h => if_neg h, ?_⟩,
    fun x s ha => ⟨fun r e h he => ?_, fun h => ?_⟩⟩
  · rw [State.mark_absent h]
  · exact State.source_modSource_self.trans (congrArg (Option.map _) h)
  · exact Table.get_modify_ne _ _ hk
  · simp [State.alarmDrivenLow]
  · have hexec := (exec_of_active (c := .periodTimerExpiry x) (act := State.periodExpiry x) rfl ha).trans
      (congrArg acted (State.periodExpiry_runs h he))
    have hout : ((s.advanceTo e).modSource x (SourceRecord.timedOut e)).source x = some (r.timedOut e) :=
      State.source_modSource_self.trans (congrArg (Option.map _) h)
    obtain ⟨q, hq, hperiodic, htimer, himage, hmark⟩ := State.source_refreshAlarm_timed hout
    refine ⟨_, hexec, ?_, q, hq, hperiodic, htimer, himage, hmark⟩
    rw [State.refreshAlarm_eq]
    rfl
  · rw [exec_of_active (act := State.periodExpiry x) rfl ha, State.periodExpiry_idle h]

/-! ## The loss of the office (09 R170, 07 R137) -/

section
variable {s : State}

theorem State.dispenserDecision_refused_trunk {d : Decision} (hd : d ≠ .granted) (i : Nat) (t : Token)
    (grade preset : Nat) (a : Option Nat) (s : State) :
    (s.dispenserDecision i t grade preset d a).trunk = s.trunk := by
  cases hx : s.fuel.dispensers.get i with
  | none => simp only [State.dispenserDecision, hx]
  | some x => rw [State.dispenserDecision_refused hx hd, State.refuseCard_eq hx]; rfl

/-- A refused query leaves the upstream-loss state. -/
theorem State.refuseQuery_lost {d : Decision} (hd : d ≠ .granted) (q : Query) (queried : Bool) (s : State) :
    (s.refuseQuery q d queried).trunk.lost = s.trunk.lost := by
  have hdrop : (s.dropQuery q.requester).trunk.lost = s.trunk.lost := by rw [State.dropQuery_eq]
  cases hi : q.requester with
  | gate i =>
    rw [State.refuseQuery_gate hi, ← hdrop]
    obtain h | ⟨r, r', -, -, h⟩ := (s.dropQuery q.requester).gateDecision_cases i q.token d false queried false false
    · rw [h]
    · rw [h]; rfl
  | dispenser i =>
    rw [State.refuseQuery_dispenser hi, State.dispenserDecision_refused_trunk hd]
    exact hdrop

theorem State.failQueries_lost (s : State) : s.failQueries.trunk.lost = s.trunk.lost := by
  unfold State.failQueries
  generalize s.gate.queries = qs
  induction qs generalizing s with
  | nil => rfl
  | cons q qs ih => exact (ih _).trans (State.refuseQuery_lost (d := .officeTimeout) nofun q _ s)

/-- Every pending query is decided when the office is lost. -/
theorem State.failQueries_resolves (s : State) : s.Resolves s.gate.queries s.failQueries :=
  State.foldl_resolves (fun u q => u.refuseQuery_resolves q .officeTimeout false) _ s

theorem State.failQueries_none (s : State) : s.failQueries.gate.queries = [] := by
  rw [s.failQueries_resolves.queries, List.filter_eq_nil_iff]
  intro q hq
  simpa using ⟨q, hq, rfl⟩

/-- The part as it is when the silence time has run out, before the pending queries are failed. -/
def State.silenced (s : State) : State :=
  { s.advanceTo s.silenceEnd with trunk := { s.trunk with lost := true } }

theorem State.silenceExpiry_enters (h : s.trunk.lost = false) : s.silenceExpiry = s.silenced.failQueries.markStatus := by
  have hl : (s.advanceTo s.silenceEnd).trunk.lost ≠ true := by simp [h]
  simp only [State.silenceExpiry, h, State.enterLoss, if_neg hl]
  rfl

end

/-- The silence time enters upstream loss, and fails every pending query. -/
theorem silenceEntersUpstreamLoss : Claim.SilenceEntersUpstreamLoss := by
  intro s ha
  refine ⟨fun hl => ⟨(s.silenced.failQueries.markStatus).refreshAlarm, ?_, ?_⟩, fun hl => ?_⟩
  · rw [exec_of_active (act := State.silenceExpiry) rfl ha, State.silenceExpiry_enters hl]
    rfl
  · have hres := s.silenced.failQueries_resolves
    have hlost : s.silenced.failQueries.trunk.lost = true := s.silenced.failQueries_lost
    have hrefused : queriesRefused s.gate.queries .officeTimeout false s s.silenced.failQueries :=
      State.foldl_queriesRefused (d := .officeTimeout) nofun s.gate.queries false s.silenced
    rw [State.refreshAlarm_eq]
    exact ⟨hlost, s.silenced.failQueries_none, hres.cache, hres.facts.now, hlost, hrefused⟩
  · rw [exec_of_active (act := State.silenceExpiry) rfl ha, State.silenceExpiry, if_pos hl]

/-- Settles O57, from its two claims. -/
theorem marksTimersAndSilence : Obligations.MarksTimersAndSilence :=
  ⟨marksAndPeriodTimers, silenceEntersUpstreamLoss⟩

end Sys2Proof.Machine
end

section
/-! SUPPORT. Reports: which are queued, which source is due, and what a build changes (09 R167, R168). -/

namespace Sys2Proof.Machine

open Sys2Proof Sys2Proof.Claim

/-! ## Queued reports -/

theorem LocalFrame.reports_iff {x : SourceId} {f : LocalFrame} : f.reports x = true ↔ isReportOf x f := by
  cases f <;> simp [LocalFrame.reports, isReportOf]

theorem UpTransmission.reports_iff {x : SourceId} {o : Option UpTransmission} :
    (o.map (·.reports x)).getD false = true ↔ ∃ h f, o = some (.ownFrame h f) ∧ isReportOf x f := by
  obtain _ | _ | _ := o
  · simp
  · simp [UpTransmission.reports]
  · simp [UpTransmission.reports, LocalFrame.reports_iff]

theorem Work.reports_iff {x : SourceId} {w : Work} :
    (w.reply?.map fun r => (LocalFrame.reply r).reports x).getD false = true ↔
      ∃ r, w = .reply r ∧ isReportOf x (.reply r) := by
  cases w <;> simp [Work.reply?, LocalFrame.reports_iff]

theorem State.reportQueued_iff {x : SourceId} {s : State} : s.reportQueued x = true ↔ queuedReport s x := by
  simp only [State.reportQueued, queuedReport, Bool.or_eq_true, List.any_eq_true, LocalFrame.reports_iff,
    UpTransmission.reports_iff, Work.reports_iff, or_assoc]

/-! ## Sources that are due -/

theorem ReportMode.marks_iff {m : ReportMode} : m.marks = true ↔ m = .onChange ∨ m = .both := by
  cases m <;> simp [ReportMode.marks]

theorem ReportMode.timed_iff {m : ReportMode} : m.timed = true ↔ m = .periodic ∨ m = .both := by
  cases m <;> simp [ReportMode.timed]

theorem SourceRecord.dueMoment_eq (r : SourceRecord) : r.dueMoment = dueAt r := rfl

theorem ReportClass.ofCode_code (c : ReportClass) : ReportClass.ofCode c.code = some c := by cases c <;> rfl

/-- An identity of its class leaves room for the class code in a key. -/
theorem SourceId.ident_lt {x : SourceId} (h : x.wf = true) : x.ident < 16777216 := by
  unfold SourceId.wf at h
  have hmax : Config.maxAccount = 16777215 := rfl
  split at h
  case h_1 | h_2 | h_3 => have := (indexOk_iff.1 h).2; omega
  case h_4 => have := (of_decide_eq_true h).2; omega
  case h_5 | h_6 | h_7 | h_8 | h_9 | h_10 => have := of_decide_eq_true h; omega

theorem sourceOfKey_sourceKey {x : SourceId} (h : x.wf = true) : sourceOfKey (sourceKey x) = x := by
  have hi := SourceId.ident_lt h
  have hcode : (x.cls.code * 16777216 + x.ident) / 16777216 = x.cls.code := by omega
  have hident : (x.cls.code * 16777216 + x.ident) % 16777216 = x.ident := by omega
  rw [sourceOfKey, sourceKey, hcode, hident, ReportClass.ofCode_code]
  rfl

section
variable {x : SourceId} {k : Nat} {r : SourceRecord} {s : State}

theorem State.markDue_iff :
    s.markDue x r = true ↔ r.mark = true ∧ (s.mode x.cls = .onChange ∨ s.mode x.cls = .both) := by
  rw [State.markDue, Bool.and_eq_true, ReportMode.marks_iff, and_comm]

theorem State.periodicDue_iff :
    s.periodicDue x r = true ↔ r.periodic ≠ none ∧ (s.mode x.cls = .periodic ∨ s.mode x.cls = .both) := by
  rw [State.periodicDue, Bool.and_eq_true, ReportMode.timed_iff, Option.isSome_iff_ne_none, and_comm]

/-- What the choice tests of an entry of the report sources. -/
def State.mayBuild (s : State) (p : Nat × SourceRecord) : Bool :=
  (s.markDue (sourceOfKey p.1) p.2 || s.periodicDue (sourceOfKey p.1) p.2) && !s.reportQueued (sourceOfKey p.1)

/-- The test holds of an entry exactly where its source is due. -/
theorem State.due_iff (hs : s.Ordered) : due s k r ↔ (k, r) ∈ s.trunk.sources ∧ s.mayBuild (k, r) = true := by
  have hget : s.trunk.sources.get k = some r ↔ (k, r) ∈ s.trunk.sources :=
    ⟨Table.mem_of_get, Table.get_of_mem hs.sources⟩
  simp only [due, State.mayBuild, Bool.and_eq_true, Bool.or_eq_true, Bool.not_eq_true', ← Bool.not_eq_true,
    State.reportQueued_iff, State.markDue_iff, State.periodicDue_iff, hget]
  tauto

/-- The source of an entry with its due moment, where the test holds. -/
def State.candidateOf (s : State) (p : Nat × SourceRecord) : Option (SourceId × Nat) :=
  if s.mayBuild p then some (sourceOfKey p.1, dueAt p.2) else none

/-- The candidates are the entries that pass the test, with their due moments. -/
theorem State.candidates_eq (s : State) : s.candidates = s.trunk.sources.filterMap s.candidateOf := rfl

theorem State.candidateOf_due (hs : s.Ordered) (h : due s k r) :
    s.candidateOf (k, r) = some (sourceOfKey k, dueAt r) := if_pos ((State.due_iff hs).1 h).2

/-- A candidate comes from an entry whose source is due. -/
theorem State.due_of_candidateOf {q : SourceId × Nat} (hs : s.Ordered) (hm : (k, r) ∈ s.trunk.sources)
    (h : s.candidateOf (k, r) = some q) : due s k r ∧ q.2 = dueAt r := by
  unfold State.candidateOf at h
  split at h
  · next hb => cases h; exact ⟨(State.due_iff hs).2 ⟨hm, hb⟩, rfl⟩
  · cases h

end

/-! ## The first of the sources that are due -/

/-- A source before which every one is due later, and after which none is due earlier, is due first. -/
theorem firstDue_append {p : SourceId × Nat} {l l' : List (SourceId × Nat)} (hl : ∀ q ∈ l, p.2 < q.2)
    (hl' : ∀ q ∈ l', p.2 ≤ q.2) : firstDue (l ++ p :: l') = some p := by
  induction l with
  | nil =>
    rw [List.nil_append, firstDue]
    split
    · rfl
    · next q hq => exact if_neg (hl' q (mem_of_firstDue hq)).not_gt
  | cons q l ih =>
    rw [List.forall_mem_cons] at hl
    rw [List.cons_append, firstDue, ih hl.2]
    exact if_pos hl.1

/-- The keys of an ordered table rise from each entry to the next. -/
theorem Table.pairwise_of_sorted {α : Type} {t : Table α} (h : sorted t = true) :
    List.Pairwise (fun p q => p.1 < q.1) t := by
  induction t with
  | nil => exact .nil
  | cons p t ih => exact .cons (lt_of_sorted h) (ih (sorted_tail h))

section
variable {s : State} (hs : s.Ordered)
include hs

theorem State.candidates_none (h : ∀ k r, ¬due s k r) : s.candidates = [] := by
  rw [State.candidates_eq, List.filterMap_eq_nil_iff]
  exact fun p hp => if_neg fun hb => h p.1 p.2 ((State.due_iff hs).2 ⟨hp, hb⟩)

/-- Of the sources that are due the choice takes the one of earliest due moment, and of equal ones that of lowest key. -/
theorem State.firstDue_candidates {k : Nat} {r : SourceRecord} (h : due s k r)
    (hfirst : ∀ j q, due s j q → dueAt r < dueAt q ∨ dueAt r = dueAt q ∧ k ≤ j) :
    firstDue s.candidates = some (sourceOfKey k, dueAt r) := by
  obtain ⟨l, l', hsplit⟩ := List.append_of_mem (Table.mem_of_get h.1)
  have hsorted := Table.pairwise_of_sorted hs.sources
  rw [hsplit, List.pairwise_append] at hsorted
  obtain ⟨-, -, hbelow⟩ := hsorted
  rw [State.candidates_eq, hsplit, List.filterMap_append, List.filterMap_cons_some (State.candidateOf_due hs h)]
  refine firstDue_append (fun q hq => ?_) (fun q hq => ?_)
  · obtain ⟨p, hp, hc⟩ := List.mem_filterMap.1 hq
    obtain ⟨hd, he⟩ := State.due_of_candidateOf hs (by simp [hsplit, hp]) hc
    have hk := hbelow p hp (k, r) List.mem_cons_self
    rw [he]
    exact (hfirst p.1 p.2 hd).resolve_right fun h => h.2.not_gt hk
  · obtain ⟨p, hp, hc⟩ := List.mem_filterMap.1 hq
    obtain ⟨hd, he⟩ := State.due_of_candidateOf hs (by simp [hsplit, hp]) hc
    rw [he]
    exact (hfirst p.1 p.2 hd).elim Nat.le_of_lt fun h => h.1.le

end

end Sys2Proof.Machine
end

section
/-! SUPPORT. The build of a report, the choice of its source, and the filling of a LOCAL slot (09 R167, R168; 03 R67, 05
R99, 07 R141). -/

namespace Sys2Proof.Machine

open Sys2Proof Sys2Proof.Claim

/-! ## The build (09 R167) -/

section
variable {x y : SourceId} {r : SourceRecord} {body : ReportBody} {s : State}

/-- Of the trunk unit a build changes the report sources; else the outlets, the taps and the journal's copies. -/
theorem State.afterBuild_eq (x : SourceId) (s : State) : s.afterBuild x = { s with
    outlet := (s.afterBuild x).outlet, tap := (s.afterBuild x).tap, gate := (s.afterBuild x).gate
    trunk := { s.trunk with sources := (s.afterBuild x).trunk.sources } } := by
  unfold State.afterBuild
  split
  case h_3 => dsimp only; split <;> rfl
  all_goals rfl

theorem State.afterBuild_sources (h : x.cls ≠ .journal) : (s.afterBuild x).trunk.sources = s.trunk.sources := by
  unfold State.afterBuild
  split
  case h_3 hc => exact absurd hc h
  all_goals rfl

theorem State.afterBuild_journal (h : x.cls = .journal) : s.afterBuild x =
    let t : State := { s with gate := { s.gate with copied := s.gate.copied + s.gate.batch.length } }
    if t.gate.copied < s.gate.journal.length then t.mark .journal 0 else t := by
  simp only [State.afterBuild, h]

/-- The journal source is the one of identity 0. -/
theorem SourceId.eq_journal (hw : x.wf = true) (h : x.cls = .journal) : x = ⟨.journal, 0⟩ := by
  obtain ⟨c, i⟩ := x
  subst h
  exact congrArg _ (of_decide_eq_true hw)

theorem State.afterBuild_source_ne (hw : x.wf = true) (h : sourceKey y ≠ sourceKey x) :
    (s.afterBuild x).source y = s.source y := by
  by_cases hc : x.cls = .journal
  · obtain rfl := SourceId.eq_journal hw hc
    rw [State.afterBuild_journal rfl]
    dsimp only
    split
    · exact State.source_modSource_ne h
    · rfl
  · rw [State.source, State.afterBuild_sources hc]
    rfl

/-- The state once the report of a source with a body has been built. -/
def State.built (x : SourceId) (body : ReportBody) (s : State) : State :=
  (s.modSource x fun _ => SourceRecord.built (s.freshTimer x.cls) body.image).afterBuild x

theorem State.buildReport_of_body (cause : Cause) (h : s.bodyOf x = some body) :
    s.buildReport x cause = some (s.reportWith x cause body, s.built x body) := by
  rw [State.buildReport, h]
  rfl

/-- A build changes the outlets, the taps, the journal's copies and the report sources. -/
theorem State.built_eq (x : SourceId) (body : ReportBody) (s : State) : s.built x body = { s with
    outlet := (s.built x body).outlet, tap := (s.built x body).tap, gate := (s.built x body).gate
    trunk := { s.trunk with sources := (s.built x body).trunk.sources } } := by
  rw [State.built, State.afterBuild_eq]
  rfl

/-- A build clears mark and flag, restarts the period timer and stores the image. -/
theorem State.built_source_self (hr : s.source x = some r) (h : x.cls ≠ .journal) :
    (s.built x body).source x = some ⟨false, none, none, s.freshTimer x.cls, some body.image⟩ := by
  rw [State.source, State.built, State.afterBuild_sources h]
  exact State.source_modSource_self.trans (congrArg (Option.map _) hr)

theorem State.built_source_ne (hw : x.wf = true) (h : sourceKey y ≠ sourceKey x) :
    (s.built x body).source y = s.source y :=
  (State.afterBuild_source_ne hw h).trans (State.source_modSource_ne h)

/-- A build of the journal's report copies the entries of its body. -/
theorem State.built_journal (h : x.cls = .journal) :
    (s.built x body).gate = { s.gate with copied := s.gate.copied + s.gate.batch.length } := by
  rw [State.built, State.afterBuild_journal h]
  dsimp only
  split <;> rfl

/-- A build of an outlet's report takes its end records. -/
theorem State.built_outlet {o : Outlet} (h : x.cls = .outlet) (ho : s.outlet.outlets.get x.ident = some o) :
    (s.built x body).outlet.outlets.get x.ident = some { o with ends := [], endsDropped := false } := by
  simp only [State.built, State.afterBuild, h]
  exact (Table.get_modify_self _ _ _).trans (congrArg (Option.map _) ho)

/-- A build of a tap's report takes its end records. -/
theorem State.built_tap {q : Tap} (h : x.cls = .tap) (hq : s.tap.taps.get x.ident = some q) :
    (s.built x body).tap.taps.get x.ident = some { q with ends := [], endsDropped := false } := by
  simp only [State.built, State.afterBuild, h]
  exact (Table.get_modify_self _ _ _).trans (congrArg (Option.map _) hq)

end

/-! ## The choice of the source (09 R167, R168) -/

theorem onMarkAlone_iff {c : ReportClass} : onMarkAlone c = true ↔ c = .account ∨ c = .query ∨ c = .journal := by
  cases c <;> simp [onMarkAlone]

section
variable {n m : Nat} {x : SourceId} {r : SourceRecord} {body : ReportBody} {s : State}

theorem State.imageDiffers_iff (h : s.bodyOf x = some body) :
    s.imageDiffers x r = true ↔ r.image ≠ some body.image := by
  rw [State.imageDiffers, h, decide_eq_true_iff, Option.map_some]
  cases r.image <;> simp [eq_comm]

theorem State.chooseReport_none (h : firstDue s.candidates = none) : s.chooseReport (n + 1) = (s, none) := by
  simp only [State.chooseReport, h]

section
variable (hfirst : firstDue s.candidates = some (x, m)) (hr : s.source x = some r)
include hfirst hr

theorem State.chooseReport_marked (h : s.markDue x r = true) (hb : (onMarkAlone x.cls || s.imageDiffers x r) = true) :
    s.chooseReport (n + 1) = (s, some (x, .change)) := by
  simp only [State.chooseReport, hfirst, hr, h, hb, if_true]

/-- A marked source whose image stands is passed over, and the choice goes on with its mark cleared. -/
theorem State.chooseReport_passed (h : s.markDue x r = true)
    (hb : (onMarkAlone x.cls || s.imageDiffers x r) = false) :
    s.chooseReport (n + 1) = (s.modSource x SourceRecord.unmarked).chooseReport n := by
  simp [State.chooseReport, hfirst, hr, h, hb]

theorem State.chooseReport_flagged (h : s.markDue x r = false) :
    s.chooseReport (n + 1) = (s, some (x, .periodic)) := by
  simp [State.chooseReport, hfirst, hr, h]

end

end

/-! ## The choice ends

Each source passed over loses its mark, so a choice may pass over no more sources than are marked. -/

/-- The marked sources. -/
def State.markCount (s : State) : Nat := (s.trunk.sources.map fun p => p.2.mark.toNat).sum

theorem State.markCount_le (s : State) : s.markCount ≤ s.trunk.sources.length := by
  have h := List.sum_le_card_nsmul (s.trunk.sources.map fun p => p.2.mark.toNat) 1 fun n hn => by
    obtain ⟨p, -, rfl⟩ := List.mem_map.1 hn
    exact Bool.toNat_le _
  simpa [State.markCount] using h

section
variable {n m : Nat} {x : SourceId} {r : SourceRecord} {s : State}

theorem State.modSource_ordered {f : SourceRecord → SourceRecord} (hs : s.Ordered) : (s.modSource x f).Ordered :=
  (State.modSource_keeps x f (.refl s)).ordered hs

/-- Clearing a mark leaves one marked source less. -/
theorem State.markCount_unmarked (hs : s.Ordered) (hr : s.source x = some r) (hm : r.mark = true) :
    (s.modSource x SourceRecord.unmarked).markCount + 1 = s.markCount := by
  have h := Table.sum_set hs.sources hr r.unmarked fun r => r.mark.toNat
  rw [hm] at h
  rw [State.markCount, State.modSource_trunk, Table.modify_of_some _ hr]
  exact h

theorem State.mark_of_markDue (h : s.markDue x r = true) : r.mark = true := (State.markDue_iff.1 h).1

/-- Two choices that may pass over every marked source choose alike. -/
theorem State.chooseReport_enough (hs : s.Ordered) (hn : s.markCount < n) (hm : s.markCount < m) :
    s.chooseReport n = s.chooseReport m := by
  induction n generalizing m s with
  | zero => exact absurd hn (Nat.not_lt_zero _)
  | succ n ih =>
    obtain ⟨m, rfl⟩ : ∃ k, m = k + 1 := ⟨m - 1, by omega⟩
    cases hf : firstDue s.candidates with
    | none => rw [State.chooseReport_none hf, State.chooseReport_none hf]
    | some p =>
      obtain ⟨x, a⟩ := p
      cases hr : s.source x with
      | none => simp only [State.chooseReport, hf, hr]
      | some r =>
        cases hd : s.markDue x r with
        | false => rw [State.chooseReport_flagged hf hr hd, State.chooseReport_flagged hf hr hd]
        | true =>
          cases hb : onMarkAlone x.cls || s.imageDiffers x r with
          | true => rw [State.chooseReport_marked hf hr hd hb, State.chooseReport_marked hf hr hd hb]
          | false =>
            have hless := State.markCount_unmarked hs hr (State.mark_of_markDue hd)
            rw [State.chooseReport_passed hf hr hd hb, State.chooseReport_passed hf hr hd hb]
            exact ih (State.modSource_ordered hs) (by omega) (by omega)

/-- The choice that fills a slot may pass over every marked source. -/
theorem State.chooseReport_fuel (hs : s.Ordered) (hn : s.markCount < n) :
    s.chooseReport n = s.chooseReport (s.trunk.sources.length + 1) :=
  State.chooseReport_enough hs hn (Nat.lt_succ_of_le s.markCount_le)

end

/-! ## The report of the source due first -/

section
variable {x : SourceId} {r : SourceRecord} {body : ReportBody} {cause : Cause} {s : State}

theorem State.fillReport_none (h : firstDue s.candidates = none) : s.fillReport = s := by
  simp only [State.fillReport, State.chooseReport_none h]

/-- The report of the source chosen joins the LOCAL queue. -/
theorem State.fillReport_chosen (h : s.chooseReport (s.trunk.sources.length + 1) = (s, some (x, cause)))
    (hb : s.bodyOf x = some body) :
    s.fillReport = (s.built x body).pushOwn (.report (s.reportWith x cause body)) := by
  simp only [State.fillReport, h, State.buildReport_of_body cause hb]

/-- A source passed over leaves the slot to the choice made with its mark cleared. -/
theorem State.fillReport_passed (hs : s.Ordered) {m : Nat} (hf : firstDue s.candidates = some (x, m))
    (hr : s.source x = some r) (hd : s.markDue x r = true) (hb : (onMarkAlone x.cls || s.imageDiffers x r) = false) :
    s.fillReport = (s.modSource x SourceRecord.unmarked).fillReport := by
  have hless := State.markCount_unmarked hs hr (State.mark_of_markDue hd)
  have hle := s.markCount_le
  have hfuel : (s.modSource x SourceRecord.unmarked).markCount < s.trunk.sources.length := by omega
  unfold State.fillReport
  rw [State.chooseReport_passed hf hr hd hb, State.chooseReport_fuel (State.modSource_ordered hs) hfuel]

/-- What the report of the source chosen makes of the LOCAL queue, the report sources and the journal's copies. -/
theorem State.pushOwn_built (hw : x.wf = true) (hr : s.source x = some r) (body : ReportBody) (cause : Cause) :
    let t := (s.built x body).pushOwn (.report (s.reportWith x cause body))
    t.trunk.own = s.trunk.own ++
        [joined s 0xF8 0 (.report ⟨x, cause, s.mgmt.clock, s.mgmt.timeValid, s.trunk.lost, body⟩)] ∧
      (x.cls ≠ .journal → t.source x = some ⟨false, none, none, s.freshTimer x.cls, some body.image⟩) ∧
      (x.cls = .journal → t.gate.copied = s.gate.copied + s.gate.batch.length) ∧
      ∀ y, sourceKey y ≠ sourceKey x → t.source y = s.source y := by
  refine ⟨?_, State.built_source_self hr, fun h => congrArg (·.copied) (State.built_journal h),
    fun y => State.built_source_ne hw⟩
  rw [State.built_eq]
  rfl

end

/-- The report that fills a slot is of the source due first, or that source is passed over. -/
theorem reportOfTheSourceDueFirst : Claim.ReportOfTheSourceDueFirst := by
  refine fun s hs => ⟨fun h => State.fillReport_none (by rw [State.candidates_none hs h]; rfl),
    fun x r body hw hd hfirst hbody => ?_⟩
  intro marked builds report sent
  have hr : s.source x = some r := hd.1
  have hf := State.firstDue_candidates hs hd hfirst
  rw [sourceOfKey_sourceKey hw] at hf
  have hmarked : s.markDue x r = true ↔ marked := State.markDue_iff
  have hbuilds (hm : marked) : (onMarkAlone x.cls || s.imageDiffers x r) = true ↔ builds := by
    rw [Bool.or_eq_true, onMarkAlone_iff, State.imageDiffers_iff hbody, or_assoc, or_assoc]
    exact (or_iff_right (not_not_intro hm)).symm
  have hsent (cause : Cause) (h : s.chooseReport (s.trunk.sources.length + 1) = (s, some (x, cause))) : sent cause := by
    have hpush := State.pushOwn_built hw hr body cause
    rw [← State.fillReport_chosen h hbody] at hpush
    exact hpush
  refine ⟨fun hb hm => hsent .change ?_, fun _ hm => hsent .periodic ?_, fun hb => ?_⟩
  · exact State.chooseReport_marked hf hr (hmarked.2 hm) ((hbuilds hm).2 hb)
  · exact State.chooseReport_flagged hf hr (Bool.eq_false_iff.2 (mt hmarked.1 hm))
  · have hm : marked := not_not.1 fun hn => hb (.inl hn)
    exact State.fillReport_passed hs hf hr (hmarked.2 hm) (Bool.eq_false_iff.2 (mt (hbuilds hm).1 hb))

/-! ## A LOCAL slot (09 R167) -/

section
variable {s : State}

theorem State.fillSlot_full (h : 16 ≤ s.trunk.own.length) : s.fillSlot = s := if_pos h

variable (h : s.trunk.own.length < 16)
include h

theorem State.fillSlot_reply {r : Reply} (hw : s.mgmt.work = .reply r) : s.fillSlot = { s with
    trunk := { s.trunk with own := s.trunk.own ++ [joined s r.type r.tag (.reply r)] }
    mgmt := { s.mgmt with work := .idle } } := by
  have hroom : ¬Config.localCapacity ≤ s.trunk.own.length := h.not_ge
  simp only [State.fillSlot, if_neg hroom, hw]
  exact State.enterReply_room h

variable (hw : ∀ r, s.mgmt.work ≠ .reply r)
include hw

theorem State.fillSlot_noRoute {n : NoRoute} (hn : s.trunk.noRoute = some n) : s.fillSlot = { s with
    trunk := { s.trunk with
      noRoute := none, own := s.trunk.own ++ [joined s 0xF2 n.tag (.noRoute n.tag n.dest n.count)] } } := by
  have hroom : ¬Config.localCapacity ≤ s.trunk.own.length := h.not_ge
  simp only [State.fillSlot, if_neg hroom, hn]
  split
  · next r hr => exact absurd hr (hw r)
  all_goals rfl

theorem State.fillSlot_report (hn : s.trunk.noRoute = none) : s.fillSlot = s.fillReport := by
  have hroom : ¬Config.localCapacity ≤ s.trunk.own.length := h.not_ge
  simp only [State.fillSlot, if_neg hroom, hn]
  split
  · next r hr => exact absurd hr (hw r)
  all_goals rfl

end

/-- A free slot takes the waiting reply, then the NO_ROUTE frame, then a report. -/
theorem localSlotIsFilledInOrder : Claim.LocalSlotIsFilledInOrder := by
  intro s ha
  rw [exec_of_active (act := State.fillSlot) rfl ha]
  exact ⟨fun h => congrArg acted (State.fillSlot_full h), fun h =>
    ⟨fun r hr => congrArg acted (State.fillSlot_reply h hr),
      fun n hw hn => congrArg acted (State.fillSlot_noRoute h hw hn),
      fun hw hn => congrArg acted (State.fillSlot_report h hw hn)⟩⟩

/-- Settles O55, from its two claims. -/
theorem localSlotsAndReportsAreBuilt : Obligations.LocalSlotsAndReportsAreBuilt :=
  ⟨localSlotIsFilledInOrder, reportOfTheSourceDueFirst⟩

end Sys2Proof.Machine
end

section
/-! SUPPORT. READ, from its checks to the report it returns (09 R169). -/

namespace Sys2Proof.Machine

open Sys2Proof Sys2Proof.Claim

/-! ## Taking the frame -/

section
variable (fr : IntakeFrame) (x : SourceId) (s : State)

@[simp] theorem State.taken_work : (s.taken fr).mgmt.work = s.mgmt.work := by
  unfold State.taken; split <;> rfl

theorem State.taken_source : (s.taken fr).source x = s.source x := rfl

theorem State.taken_queuedReport : queuedReport (s.taken fr) x ↔ queuedReport s x := by
  unfold queuedReport
  rw [State.taken_work]
  rfl

/-- A report built from a frame's taking carries the header of the state before it. -/
theorem State.taken_reportWith (cause : Cause) (body : ReportBody) : (s.taken fr).reportWith x cause body =
    ⟨x, cause, s.mgmt.clock, s.mgmt.timeValid, s.trunk.lost, body⟩ := by
  rw [State.reportWith, State.taken_clock, State.taken_timeValid]
  rfl

end

/-! ## The checks, in their order -/

section
variable {fr : IntakeFrame} {f : ReadFields} {c : ReportClass} {s : State}

theorem readAct_unlisted (h : ReportClass.ofCode f.cls = none) : readAct fr f s = s.refuse fr .outOfRange := by
  simp only [readAct, h]

variable (hc : ReportClass.ofCode f.cls = some c)
include hc

theorem readAct_outOfRange (hw : SourceId.wf ⟨c, f.ident⟩ = false) : readAct fr f s = s.refuse fr .outOfRange := by
  simp [readAct, hc, hw]

variable (hw : SourceId.wf ⟨c, f.ident⟩ = true)
include hw

theorem readAct_notFound (h : s.source ⟨c, f.ident⟩ = none) : readAct fr f s = s.refuse fr .notFound := by
  simp [readAct, hc, hw, h]

theorem readAct_queued (h : s.source ⟨c, f.ident⟩ ≠ none) (hq : queuedReport s ⟨c, f.ident⟩) :
    readAct fr f s = s.accept fr [.reportQueued] .none := by
  simp [readAct, hc, hw, h, State.reportQueued_iff.2 hq]

theorem readAct_report {body : ReportBody} (h : s.source ⟨c, f.ident⟩ ≠ none)
    (hq : ¬queuedReport s ⟨c, f.ident⟩) (hb : s.bodyOf ⟨c, f.ident⟩ = some body) :
    readAct fr f s = (s.built ⟨c, f.ident⟩ body).accept fr [] (.report (s.reportWith ⟨c, f.ident⟩ .read body)) := by
  simp [readAct, hc, hw, h, mt State.reportQueued_iff.1 hq, State.buildReport_of_body .read hb]

end

/-- Settles O56, by the checks of READ in their order. -/
theorem readReturnsTheReport : Obligations.ReadReturnsTheReport := by
  intro f fr s h u
  have hexec {a : Answer} {e : State} (hact : readAct fr f u = e.answer fr a) :
      exec (.read (.fields f)) s = done fr a e := exec_of_takes rfl rfl h hact
  refine ⟨fun hc => hexec (readAct_unlisted hc), fun c hc => ?_⟩
  intro x
  refine ⟨fun hw => hexec (readAct_outOfRange hc hw), fun hw hx => hexec (readAct_notFound hc hw hx),
    fun hw hx hq => hexec (readAct_queued hc hw hx ((s.taken_queuedReport fr x).2 hq)), fun r body hw hx hq hb => ?_⟩
  have hne : u.source x ≠ none := by rw [s.taken_source fr x, hx]; simp
  have hreport := readAct_report (fr := fr) hc hw hne (mt (s.taken_queuedReport fr x).1 hq) hb
  rw [s.taken_reportWith fr] at hreport
  refine ⟨u.built x body, hexec hreport, State.built_source_self (s := u) hx, fun o hcls ho => State.built_outlet hcls ho,
    fun q hcls hq => State.built_tap hcls hq, fun hcls => ?_⟩
  rw [State.built_journal hcls]
  exact ⟨rfl, rfl⟩

end Sys2Proof.Machine
end

section
/-! SUPPORT. The transmitters, PAUSE and RESUME, and the port reports (09 R161, R164, R165; 07 R141). -/

namespace Sys2Proof.Machine

open Sys2Proof Sys2Proof.Claim

/-- A command of the trunk ports on a running part completes with its effect, and the raw status follows where the part
is active. -/
theorem exec_of_running {c : Instr} {s : State} {act : State → State} (hx : exec c s = trunkEvent act s)
    (h : s.phase = .running) : exec c s = .next (act s).refreshActive := hx.trans (if_pos h)

/-! ## The choice of the upstream transmitter (09 R165) -/

/-- The head of the THRU queue goes ahead of the LOCAL queue. -/
def State.thruFirst (s : State) : Prop :=
  let aged (entered : Nat) := s.mgmt.config.promoteAge < s.now - entered
  ∃ e rest, s.trunk.thru = e :: rest ∧ (s.trunk.own = [] ∨ ∃ o l, s.trunk.own = o :: l ∧
    (s.mgmt.config.upstreamPriority = .thruFirst ∧ ¬aged o.entered ∨
      s.mgmt.config.upstreamPriority = .localFirst ∧ aged e.entered))

section
variable {e : ThruEntry} {rest : List ThruEntry} {o : LocalEntry} {l : List LocalEntry} {s : State}

theorem State.upFree_iff : s.upFree = true ↔ s.trunk.transmitting = none ∧ s.trunk.heldEnd = none := by
  simp [State.upFree]

theorem State.promoted_iff {m : Nat} : s.promoted m = true ↔ s.mgmt.config.promoteAge < s.now - m :=
  decide_eq_true_iff

theorem State.chooseUp_thru (h : s.thruFirst) : s.chooseUp = some true := by
  obtain ⟨e, rest, ht, ho | ⟨o, l, ho, ⟨hp, ha⟩ | ⟨hp, ha⟩⟩⟩ := h
  · simp [State.chooseUp, ht, ho]
  · simp [State.chooseUp, ht, ho, hp, mt State.promoted_iff.1 ha]
  · simp [State.chooseUp, ht, ho, hp, State.promoted_iff.2 ha]

theorem State.chooseUp_local (ho : s.trunk.own = o :: l) (h : ¬s.thruFirst) : s.chooseUp = some false := by
  cases ht : s.trunk.thru with
  | nil => simp [State.chooseUp, ht, ho]
  | cons e rest =>
    cases hp : s.mgmt.config.upstreamPriority with
    | thruFirst =>
      have hold : s.promoted o.entered = true :=
        not_not.1 fun hn => h ⟨e, rest, ht, .inr ⟨o, l, ho, .inl ⟨hp, mt State.promoted_iff.2 hn⟩⟩⟩
      simp [State.chooseUp, ht, ho, hp, hold]
    | localFirst =>
      have hyoung : s.promoted e.entered = false := Bool.eq_false_iff.2 fun hn =>
        h ⟨e, rest, ht, .inr ⟨o, l, ho, .inr ⟨hp, State.promoted_iff.1 hn⟩⟩⟩
      simp [State.chooseUp, ht, ho, hp, hyoung]

/-- The THRU head leaves its queue and is in transmission. -/
theorem State.startUp_thru (ht : s.trunk.thru = e :: rest) (h : s.thruFirst) : s.startUp =
    State.resumeCheck { s with trunk := { s.trunk with thru := rest, transmitting := some (.thru e.frame) } } := by
  simp only [State.startUp, State.chooseUp_thru h, ht]

/-- The LOCAL head leaves its queue and is in transmission, and the slot it held is filled. -/
theorem State.startUp_local (ho : s.trunk.own = o :: l) (h : ¬s.thruFirst) : s.startUp =
    State.fillSlot { s with trunk := { s.trunk with own := l, transmitting := some (.ownFrame o.head o.frame) } } := by
  simp only [State.startUp, State.chooseUp_local ho h, ho]

theorem State.startUp_empty (ht : s.trunk.thru = []) (ho : s.trunk.own = []) : s.startUp = s := by
  simp [State.startUp, State.chooseUp, ht, ho]

/-! ## Pause left (09 R164) -/

/-- A check for the end of pause leaves the queues and the frame in transmission. -/
theorem State.resumeCheck_eq (s : State) : s.resumeCheck = { s with trunk := { s.trunk with
    pauseSent := s.resumeCheck.trunk.pauseSent, pauseEnd := s.resumeCheck.trunk.pauseEnd
    links := s.resumeCheck.trunk.links, sources := s.resumeCheck.trunk.sources } } := by
  unfold State.resumeCheck
  split <;> rfl

/-- A THRU queue that has shrunk to 2 with pause sent set sends a RESUME. -/
theorem State.resumeCheck_leaves (hs : s.trunk.pauseSent = true) (hl : s.trunk.thru.length ≤ 2) :
    s.resumeCheck.trunk.pauseSent = false ∧ s.resumeCheck.trunk.links = s.trunk.links ++ [.resume] := by
  rw [State.resumeCheck, if_pos ⟨hs, hl⟩]
  exact ⟨rfl, rfl⟩

end

/-! ## A slot filled behind a frame that has left (log 13) -/

/-- The LOCAL queue is longer by the frames that joined it; the THRU queue and the frame in transmission stand. -/
def State.Lengthens (s t : State) : Prop :=
  t.trunk.thru = s.trunk.thru ∧ t.trunk.transmitting = s.trunk.transmitting ∧ ∃ m, t.trunk.own = s.trunk.own ++ m

section
variable {s t : State}

/-- A change of the report sources alone leaves the queues and the frame in transmission. -/
theorem State.lengthens_of_sources (h : t = { s with trunk := { s.trunk with sources := t.trunk.sources } }) :
    s.Lengthens t := by
  rw [h]
  exact ⟨rfl, rfl, [], (List.append_nil _).symm⟩

/-- A choice changes the report sources alone. -/
theorem State.chooseReport_eq (n : Nat) (s : State) : (s.chooseReport n).1 =
    { s with trunk := { s.trunk with sources := (s.chooseReport n).1.trunk.sources } } := by
  induction n generalizing s with
  | zero => rfl
  | succ n ih =>
    rw [State.chooseReport]
    split
    · rfl
    · split
      · rfl
      · split
        · split
          · rfl
          · exact ih _
        · rfl

theorem State.fillReport_lengthens (s : State) : s.Lengthens s.fillReport := by
  have hchoice := s.chooseReport_eq (s.trunk.sources.length + 1)
  unfold State.fillReport
  split
  · next t x cause he =>
    rw [he] at hchoice
    cases hb : t.bodyOf x with
    | none => rw [State.buildReport, hb]; exact State.lengthens_of_sources hchoice
    | some body =>
      rw [State.buildReport_of_body cause hb]
      dsimp only at hchoice ⊢
      rw [State.built_eq, hchoice]
      exact ⟨rfl, rfl, _, rfl⟩
  · next t he => rw [he] at hchoice; exact State.lengthens_of_sources hchoice

theorem State.fillSlot_lengthens (s : State) : s.Lengthens s.fillSlot := by
  by_cases hl : s.trunk.own.length < 16
  · by_cases hw : ∃ r, s.mgmt.work = .reply r
    · obtain ⟨r, hr⟩ := hw
      rw [State.fillSlot_reply hl hr]
      exact ⟨rfl, rfl, _, rfl⟩
    · have hw : ∀ r, s.mgmt.work ≠ .reply r := fun r hr => hw ⟨r, hr⟩
      cases hn : s.trunk.noRoute with
      | none => rw [State.fillSlot_report hl hw hn]; exact s.fillReport_lengthens
      | some n => rw [State.fillSlot_noRoute hl hw hn]; exact ⟨rfl, rfl, _, rfl⟩
  · rw [State.fillSlot_full (Nat.not_lt.1 hl)]
    exact ⟨rfl, rfl, [], (List.append_nil _).symm⟩

end

/-- The free transmitter sends the head of the queue that goes first; else nothing. -/
theorem upstreamTransmitterChooses : Claim.UpstreamTransmitterChooses := by
  intro s hp free aged sendsThru
  have hexec := exec_of_running (c := .upstreamTransmit) (act := State.transmitUp) rfl hp
  have hstart (hf : free) : s.transmitUp = s.startUp := if_pos (State.upFree_iff.2 hf)
  refine ⟨fun e rest hf ht hs => ⟨_, hexec, ?_⟩, fun o l hf ho hs => ⟨_, hexec, ?_⟩, fun h => ?_⟩
  · rw [State.refreshActive_trunk, hstart hf, State.startUp_thru ht hs]
    refine ⟨?_, ?_, ?_, fun hpause hl => State.resumeCheck_leaves hpause hl⟩ <;> rw [State.resumeCheck_eq]
  · rw [State.refreshActive_trunk, hstart hf, State.startUp_local ho hs]
    obtain ⟨hthru, hsending, hown⟩ := State.fillSlot_lengthens
      { s with trunk := { s.trunk with own := l, transmitting := some (.ownFrame o.head o.frame) } }
    exact ⟨hsending, hthru, hown⟩
  · have hstill : s.transmitUp = s := by
      by_cases hf : s.upFree = true
      · obtain ⟨ht, ho⟩ := h.resolve_left (not_not_intro (State.upFree_iff.1 hf))
        exact (if_pos hf).trans (State.startUp_empty ht ho)
      · exact if_neg hf
    rw [hexec, hstill]

/-! ## The ends of transmissions (09 R164, R165, 07 R141) -/

section
variable {f : Frame} {h : FrameHead} {g : LocalFrame} {s : State}

theorem State.endUp_thru (ht : s.trunk.transmitting = some (.thru f)) :
    s.endUp = { s with trunk := { s.trunk with transmitting := none } } := by
  simp only [State.endUp, ht]

theorem State.endUp_own (ht : s.trunk.transmitting = some (.ownFrame h g)) (hj : g.journal? = none) :
    s.endUp = { s with trunk := { s.trunk with transmitting := none } } := by
  simp only [State.endUp, ht, hj]

theorem State.endUp_journal {entries : List JournalEntry} {gap : Bool}
    (ht : s.trunk.transmitting = some (.ownFrame h g)) (hj : g.journal? = some (entries, gap)) :
    s.endUp = State.journalSent entries.length gap { s with trunk := { s.trunk with transmitting := none } } := by
  simp only [State.endUp, ht, hj]

/-- A journal frame sent takes its entries off the journal, and the GAP it carried; besides, the source is marked at
most. -/
theorem State.journalSent_eq (n : Nat) (gap : Bool) (s : State) : s.journalSent n gap = { s with
    gate := { s.gate with
      journal := s.gate.journal.drop n, copied := s.gate.copied - n, gap := s.gate.gap && !gap }
    trunk := { s.trunk with sources := (s.journalSent n gap).trunk.sources } } := by
  unfold State.journalSent
  dsimp only
  split <;> rfl

theorem State.sendDown_link {l : LinkFrame} {rest : List LinkFrame} (hl : s.trunk.links = l :: rest) :
    s.sendDown = { s with trunk := { s.trunk with links := rest, lastDown := some (s.linkFrame l) } } := by
  simp only [State.sendDown, hl]

theorem State.sendDown_frame {rest : List Frame} (hl : s.trunk.links = []) (hd : s.trunk.down = f :: rest) :
    s.sendDown = { s with trunk := { s.trunk with down := rest, lastDown := some f } } := by
  simp only [State.sendDown, hl, hd]

end

/-- A transmission that ends frees its port; a journal frame's takes its entries off the journal. -/
theorem transmissionsEnd : Claim.TransmissionsEnd := by
  intro s hp
  have hsent := exec_of_running (c := .upstreamFrameSent) (act := State.endUp) rfl hp
  have hdown := exec_of_running (c := .downTransmit) (act := State.sendDown) rfl hp
  refine ⟨fun f ht => ⟨_, hsent, ?_⟩, fun h f ht => ⟨_, hsent, ?_, fun hj => ?_, fun entries gap hj => ?_⟩,
    fun l rest hl => ⟨_, hdown, ?_⟩, fun f rest hl hd => ⟨_, hdown, ?_⟩⟩
  · rw [State.refreshActive_eq, State.endUp_thru ht]
    exact ⟨rfl, rfl⟩
  · rw [State.refreshActive_trunk]
    cases hj : f.journal? with
    | none => rw [State.endUp_own ht hj]
    | some p => rw [State.endUp_journal ht hj, State.journalSent_eq]
  · rw [State.refreshActive_gate, State.endUp_own ht hj]
  · rw [State.refreshActive_gate, State.endUp_journal ht hj, State.journalSent_eq]
    exact ⟨rfl, rfl, rfl⟩
  · rw [State.refreshActive_trunk, State.sendDown_link hl]
    exact ⟨rfl, rfl, _, rfl, rfl, rfl, fun h => congrArg LinkFrame.type h, fun h => congrArg LinkFrame.type h⟩
  · rw [State.refreshActive_trunk, State.sendDown_frame hl hd]
    exact ⟨hl, rfl, rfl⟩

/-! ## PAUSE, RESUME and the ports (09 R161, R164) -/

section
variable {m : Nat} {s : State}

theorem State.holdExpiry_held (h : s.trunk.heldEnd = some m) : s.holdExpiry = (s.advanceTo m).releaseUp := by
  simp only [State.holdExpiry, h]

theorem State.repeatPause_due (h : s.trunk.pauseEnd = some m) : s.repeatPause = { s with
    now := max s.now m
    trunk := { s.trunk with links := s.trunk.links ++ [.pause], pauseEnd := some (m + 200) } } := by
  simp only [State.repeatPause, h]
  rfl

/-- A port takes the state reported; a change marks the segment status source. -/
theorem State.setPort_marks {p : Port} {b : Bool} (hp : s.phase ≠ .held) (h : s.connected p ≠ b) :
    statusMarked s (s.setPort p b) := by
  intro r hr
  have hput : (s.putPort p b).source ⟨.status, 0⟩ = some r := by
    cases p <;> exact hr
  have hnow : (s.putPort p b).now = s.now := by cases p <;> rfl
  rw [State.setPort_changed hp h, ← hnow]
  exact State.source_modSource_self.trans (congrArg (Option.map _) hput)

/-- A report of a port's state stores it. -/
theorem exec_port (p : Port) (b : Bool) (s : State) :
    exec (if b then .portConnected p else .portDisconnected p) s = .next (s.setPort p b) := by
  cases b <;> rfl

end

/-- A PAUSE and a RESUME received, the timers of both holds, and the two ports. -/
theorem pauseResumeAndPorts : Claim.PauseResumeAndPorts := by
  refine fun s => ⟨fun hp => ⟨⟨_, exec_of_running (act := State.pauseUp) rfl hp, ?_⟩,
    ⟨_, exec_of_running (act := State.resumeUp) rfl hp, ?_⟩,
    fun m hm => ⟨_, exec_of_running (act := State.holdExpiry) rfl hp, ?_⟩,
    fun m hm => ⟨_, exec_of_running (act := State.repeatPause) rfl hp, ?_⟩⟩, fun hp b => ?_⟩
  · have hpause : s.pauseUp = s.heardOn.holdUp := rfl
    rw [State.refreshActive_trunk, hpause, State.holdUp_eq, State.heardOn_eq (by simp [hp])]
    exact ⟨rfl, rfl, rfl, rfl⟩
  · have hresume : s.resumeUp = s.heardOn.releaseUp := rfl
    rw [State.refreshActive_trunk, hresume, State.releaseUp_eq, State.heardOn_eq (by simp [hp])]
    exact ⟨rfl, rfl, rfl, rfl⟩
  · rw [State.refreshActive_eq, State.holdExpiry_held hm, State.releaseUp_eq]
    exact ⟨rfl, rfl⟩
  · rw [State.refreshActive_eq, State.repeatPause_due hm]
    exact ⟨rfl, rfl, rfl⟩
  · intro up down
    exact ⟨⟨_, exec_port .up b s, State.setPort_connected (p := .up) hp, State.setPort_up_downConnected b s,
      fun h => State.setPort_of_connected h, fun h => State.setPort_marks hp h⟩,
      ⟨_, exec_port .down b s, State.setPort_connected (p := .down) hp, State.setPort_down_upConnected b s,
      fun h => State.setPort_of_connected h, fun h => State.setPort_marks hp h⟩⟩

/-- Settles O54, from its three claims. -/
theorem trunkPortsAndTransmitters : Obligations.TrunkPortsAndTransmitters :=
  ⟨pauseResumeAndPorts, upstreamTransmitterChooses, transmissionsEnd⟩

end Sys2Proof.Machine
end

section
/-! SUPPORT. Parts that are not active: a part held in reset, which no command but those of power and reset acts on, and a
transparent part, whose trunk ports forward and whose units do nothing (10 R177, R179). -/

namespace Sys2Proof.Machine

open Sys2Proof Sys2Proof.Claim

/-- A unit takes no command in a part that is not active (log 2). -/
theorem exec_of_inactive {c : Instr} {s : State} (hc : portCommand c = false) (h : s.active = false) :
    exec c s = .next s := by
  cases c with
  | powerOn | resetAsserted | resetReleased | startupComplete | upFrameReceived | downFrameReceived | pauseReceived
  | resumeReceived | upstreamHoldExpiry | pauseRepeat | portDisconnected | portConnected | upstreamTransmit
  | upstreamFrameSent | downTransmit => cases hc
  | localSlotFill | periodTimerExpiry | upstreamSilenceExpiry | unknownType | broadcastDiscard | offerTimerExpiry
  | secondTick | noShowExpiry | tideStaleExpiry | officeOperation | powerPosting | waterPosting | holdServed
  | releaseServed | settleServed | freezeAutoRelease | poll | setOutputs | oneShotTransmit | statusReply | ackReceived
  | replyTimeout | badReply | stuckMeterDetect | dispensePeriodExpiry | leakDisagreeExpiry | recoveryTimerExpiry
  | leakSettleEnd | queryTimeout | nozzleTimeout | cycleWithNothingToSend => exact unitEvent_inactive h
  | segmentConfig | time | tide | restart | read | berthLoad | berthRead | openBerth | closeBerth | book | allocate
  | confirm | decline | depart | accountLoad | accountUpdate | topUp | accountRemove | accountRead | tariffLoad
  | outletLoad | feederLoad | protectionLoad | forceOff | releaseForce | serviceHold | serviceRelease | clearFault
  | returnToService | tapLoad | waterSuspend | waterResume | deviceLoad | deviceRemove | credentialFill
  | credentialUnknown | invalidate | authoriseSale | stopSale | takeSale | tankSet | tankAdd | freeze | freezeRelease
  | closePeriod | readTally => exact localCommand_inactive _ h

/-- A property that a millisecond of the reference clock keeps, that rests on no command waiting, and that every command
keeps, is kept by every step. -/
theorem keptByStep_of_exec {P : State → Prop} (tick : ∀ s, P s → P s.tick)
    (queue : ∀ s pending, P s → P { s with pending := pending })
    (command : ∀ c s t, P s → exec c s = .next t → P t) : KeptByStep P := by
  intro s t hs e
  cases hp : s.pending with
  | nil => cases (step_nil hp).symm.trans e; exact tick s hs
  | cons c rest => exact command c _ t (queue s rest hs) ((step_cons hp).symm.trans e)

theorem State.transparent_of_straps {s t : State} (h : t.straps = s.straps) : t.transparent = s.transparent := by
  simp [State.transparent, State.segment, h]

theorem State.active_of_transparent {s : State} (h : s.transparent = true) : s.active = false := by
  simp [State.active, h]

theorem State.refreshActive_of_transparent {s : State} (h : s.transparent = true) : s.refreshActive = s := by
  simp [State.refreshActive, State.active_of_transparent h]

/-! ## A part held in reset (10 R179) -/

/-- The ports of a part that is not running take the port state at most: no event of theirs has its occasion. -/
theorem trunkEvent_of_not_running {act : State → State} {s : State} (h : s.phase ≠ .running) :
    trunkEvent act s = .next s := if_neg h

theorem State.setPort_held {p : Port} {b : Bool} {s : State} (h : s.phase = .held) : s.setPort p b = s :=
  if_pos (.inl h)

/-- No command but those of power and reset acts on a part held in reset. -/
theorem exec_of_held {c : Instr} {s : State} (hc : Instr.restarts c = false) (h : s.phase = .held) :
    exec c s = .next s := by
  have hn : s.phase ≠ .running := by simp [h]
  cases hp : portCommand c with
  | false => exact exec_of_inactive hp (State.active_of_not_running hn)
  | true =>
    cases c with
    | powerOn | resetAsserted | resetReleased | startupComplete => cases hc
    | upFrameReceived rx =>
      have hx : s.receiveUp rx = s := by simp [State.receiveUp, State.setPort_held h, hn]
      exact congrArg _ ((congrArg _ hx).trans (State.refreshActive_of_not_running hn))
    | downFrameReceived rx =>
      have hx : s.receiveDown rx = s := by simp [State.receiveDown, State.setPort_held h, hn]
      exact congrArg _ hx
    | portDisconnected | portConnected => exact congrArg _ (State.setPort_held h)
    | pauseReceived | resumeReceived | upstreamHoldExpiry | pauseRepeat | upstreamTransmit | upstreamFrameSent
    | downTransmit => exact trunkEvent_of_not_running hn
    | _ => cases hp

/-- The end of start-up runs the part. -/
theorem State.begun_phase (s : State) : s.begun.phase = s.phase := s.begun_keeps.phase

/-- A part is held after a command only where RESET is asserted, or where it was held and the command did nothing. -/
theorem exec_held {c : Instr} {s t : State} (e : exec c s = .next t) (h : t.phase = .held) :
    t = s ∨ t = s.powered := by
  cases c with
  | powerOn => cases e; cases h
  | resetAsserted => cases e; exact .inr rfl
  | resetReleased straps =>
    by_cases hp : s.phase = .held
    · cases (if_pos hp).symm.trans e; cases h
    · cases (if_neg hp).symm.trans e; exact .inl rfl
  | startupComplete =>
    by_cases hp : s.phase = .startUp
    · cases (if_pos hp).symm.trans e; cases (State.begun_phase _).symm.trans h
    · cases (if_neg hp).symm.trans e; exact .inl rfl
  | _ => cases (exec_of_held rfl ((exec_keeps rfl e).phase.symm.trans h)).symm.trans e; exact .inl rfl

/-- A held part holds every block at its power-on values: RESET asserted puts it there, and nothing else that leaves the
part held acts on it. -/
theorem heldPartStaysAtPowerOn : Claim.HeldPartStaysAtPowerOn := by
  refine keptByStep_of_exec (fun s hs hp => ?_) (fun s pending hs hp => ?_) (fun c s t hs e hp => ?_)
  · rw [hs hp]
    rfl
  · rw [hs hp]
  · obtain rfl | rfl := exec_held e hp
    · exact hs hp
    · rfl

/-! ## A transparent part (10 R177, R179) -/

/-- What the trunk ports of a transparent part leave: every unit, the intake, the LOCAL queue, the NO_ROUTE record and
the upstream-loss state. -/
def State.Forwards (s t : State) : Prop :=
  t = { s with now := t.now, trunk := { t.trunk with
    intake := s.trunk.intake, own := s.trunk.own, noRoute := s.trunk.noRoute, lost := s.trunk.lost } }

section
variable {s t u : State}

theorem State.Forwards.trans (h : s.Forwards t) (k : t.Forwards u) : s.Forwards u := by
  unfold State.Forwards at *
  rw [k, h]

theorem State.Forwards.transparent (h : s.Forwards t) : t.transparent = s.transparent := by
  rw [h]
  rfl

/-- The units' state at idle is none of what the ports write. -/
theorem State.Forwards.transparentIdle (h : s.Forwards t) (hs : TransparentIdle s) : TransparentIdle t := by
  rw [h]
  exact hs

theorem State.setPort_forwards (p : Port) (b : Bool) (s : State) : s.Forwards (s.setPort p b) := by
  rw [State.setPort_eq]
  rfl

theorem State.holdUp_forwards (s : State) : s.Forwards s.holdUp := by
  rw [State.holdUp_eq]
  rfl

theorem State.releaseUp_forwards (s : State) : s.Forwards s.releaseUp := by
  rw [State.releaseUp_eq]
  rfl

theorem State.heardUp_forwards (h : s.trunk.lost = false) : s.Forwards s.heardUp := by
  rw [State.heardUp_eq]
  unfold State.Forwards
  rw [h]

theorem State.heardOn_forwards (h : s.trunk.lost = false) : s.Forwards s.heardOn := by
  have hport := s.setPort_forwards .up true
  exact hport.trans (State.heardUp_forwards (by rw [hport]; exact h))

theorem State.noRouteFor_transparent {f : Frame} (h : s.transparent = true) : s.noRouteFor f = s := if_pos h

/-- A frame passed down by a transparent part joins the DOWN queue, is counted, or is discarded. -/
theorem State.routeDown_forwards {f : Frame} (h : s.transparent = true) : s.Forwards (s.routeDown f) := by
  unfold State.routeDown
  rw [State.noRouteFor_transparent h]
  split
  · split <;> rfl
  · split <;> rfl

theorem State.routeUp_forwards {rx : RxFrame} (h : s.transparent = true) : s.Forwards (s.routeUp rx) := by
  have hdown := State.routeDown_forwards (f := rx.frame) h
  unfold State.routeUp
  split
  · exact s.holdUp_forwards
  · split
    · exact s.releaseUp_forwards
    · split
      · rfl
      · split
        · rwa [State.takeIn_transparent (hdown.transparent.trans h)]
        · split
          · rw [State.takeIn_transparent h]; rfl
          · exact hdown

theorem State.receiveUp_forwards {rx : RxFrame} (h : s.transparent = true) (hl : s.trunk.lost = false) :
    s.Forwards (s.receiveUp rx) := by
  have hport := s.setPort_forwards .up true
  have hheard := State.heardOn_forwards hl
  unfold State.receiveUp
  dsimp only
  split
  · exact hport
  · split
    · exact hheard.trans (State.routeUp_forwards (hheard.transparent.trans h))
    · exact hport.trans rfl

theorem State.pauseCheck_forwards (s : State) : s.Forwards s.pauseCheck := by
  unfold State.pauseCheck
  split <;> rfl

theorem State.pushThru_forwards (f : Frame) (s : State) : s.Forwards (s.pushThru f) := by
  unfold State.pushThru
  split
  · rfl
  · exact State.Forwards.trans (t := { s with trunk := { s.trunk with thru := s.trunk.thru ++ [⟨f, s.now⟩] } }) rfl
      (State.pauseCheck_forwards _)

theorem State.receiveDown_forwards (rx : RxFrame) (s : State) : s.Forwards (s.receiveDown rx) := by
  refine (s.setPort_forwards .down true).trans ?_
  unfold State.receiveDown
  dsimp only
  split
  · rfl
  · split
    · rfl
    · split
      · rfl
      · split
        · exact State.pushThru_forwards _ _
        · rfl

theorem State.resumeCheck_forwards (s : State) : s.Forwards s.resumeCheck := by
  rw [State.resumeCheck_eq]
  rfl

/-- With the LOCAL queue empty, the upstream transmitter sends the head of the THRU queue or nothing. -/
theorem State.transmitUp_forwards (h : s.trunk.own = []) : s.Forwards s.transmitUp := by
  unfold State.transmitUp
  split
  · cases ht : s.trunk.thru with
    | nil => rw [State.startUp_empty ht h]; rfl
    | cons e rest =>
      rw [State.startUp_thru ht ⟨e, rest, ht, .inl h⟩]
      exact State.Forwards.trans
        (t := { s with trunk := { s.trunk with thru := rest, transmitting := some (.thru e.frame) } }) rfl
        (State.resumeCheck_forwards _)
  · rfl

/-- A transmission that ends takes nothing off an empty journal. -/
theorem State.endUp_forwards (h : s.gate = GateUnit.start) : s.Forwards s.endUp := by
  cases ht : s.trunk.transmitting with
  | none => simp only [State.endUp, ht]; rfl
  | some x =>
    cases x with
    | thru f => rw [State.endUp_thru ht]; rfl
    | ownFrame head f =>
      cases hj : f.journal? with
      | none => rw [State.endUp_own ht hj]; rfl
      | some p =>
        rw [State.endUp_journal ht hj, State.journalSent_eq]
        unfold State.Forwards
        simp [h, GateUnit.start]

theorem State.sendDown_forwards (s : State) : s.Forwards s.sendDown := by
  unfold State.sendDown
  split <;> rfl

theorem State.holdExpiry_forwards (s : State) : s.Forwards s.holdExpiry := by
  unfold State.holdExpiry
  split
  · next m _ => exact State.Forwards.trans (t := s.advanceTo m) rfl (State.releaseUp_forwards _)
  · rfl

theorem State.repeatPause_forwards (s : State) : s.Forwards s.repeatPause := by
  unfold State.repeatPause
  split <;> rfl

theorem trunkEvent_forwards {act : State → State} (h : s.transparent = true) (ha : s.Forwards (act s))
    (e : trunkEvent act s = .next t) : s.Forwards t := by
  unfold trunkEvent at e
  split at e
  · cases e; rwa [State.refreshActive_of_transparent (ha.transparent.trans h)]
  · cases e; rfl

/-- The units of a transparent part take no command, and its ports forward. -/
theorem exec_forwards {c : Instr} (hc : Instr.restarts c = false) (h : s.transparent = true) (hs : TransparentIdle s)
    (e : exec c s = .next t) : s.Forwards t := by
  obtain ⟨-, -, -, -, -, -, -, hgate, -, -, -, hown, -, hlost⟩ := hs h
  cases hp : portCommand c with
  | false => cases (exec_of_inactive hp (State.active_of_transparent h)).symm.trans e; rfl
  | true =>
    cases c with
    | powerOn | resetAsserted | resetReleased | startupComplete => cases hc
    | upFrameReceived rx =>
      have hr := State.receiveUp_forwards (rx := rx) h hlost
      cases e
      rwa [State.refreshActive_of_transparent (hr.transparent.trans h)]
    | downFrameReceived rx => cases e; exact s.receiveDown_forwards rx
    | portDisconnected p => cases e; exact s.setPort_forwards p false
    | portConnected p => cases e; exact s.setPort_forwards p true
    | pauseReceived => exact trunkEvent_forwards h ((State.heardOn_forwards hlost).trans (State.holdUp_forwards _)) e
    | resumeReceived => exact trunkEvent_forwards h ((State.heardOn_forwards hlost).trans (State.releaseUp_forwards _)) e
    | upstreamHoldExpiry => exact trunkEvent_forwards h s.holdExpiry_forwards e
    | pauseRepeat => exact trunkEvent_forwards h s.repeatPause_forwards e
    | upstreamTransmit => exact trunkEvent_forwards h (State.transmitUp_forwards hown) e
    | upstreamFrameSent => exact trunkEvent_forwards h (State.endUp_forwards hgate) e
    | downTransmit => exact trunkEvent_forwards h s.sendDown_forwards e
    | _ => cases hp

end

/-! ## The end of start-up (10 R179) -/

/-- The end of start-up takes the raw status, restarts the silence time and the measured second, and changes the report
sources. -/
theorem State.begun_eq (s : State) : s.begun = { s with
    outlet := { s.outlet with raw := s.conditions }
    trunk := { s.trunk with silenceFrom := s.now, sources := s.begun.trunk.sources }
    mgmt := { s.mgmt with secondStart := s.now } } := by
  rw [State.begun, State.createSource_eq]
  rfl

/-- Units at power-on present a stale tide, an invalid clock and the service hold (04 Table 4.5). -/
theorem State.conditions_of_start {s : State} (hberth : s.berth = BerthUnit.start)
    (houtlet : s.outlet = { OutletUnit.start with raw := s.outlet.raw }) (htap : s.tap = TapUnit.start)
    (hfuel : s.fuel = FuelUnit.start) (hbus : s.bus = BusController.start) (hlost : s.trunk.lost = false)
    (hclock : s.mgmt.timeValid = false) :
    s.conditions = { RawStatus.all false with tideStale := true, clockInvalid := true, serviceHold := true } := by
  have houtlets : s.outlet.outlets = [] := by rw [houtlet]; rfl
  have hfeeders : s.outlet.feeders = [] := by rw [houtlet]; rfl
  have hhold : s.outlet.serviceHold = true := by rw [houtlet]; rfl
  simp [State.conditions, State.salesInProgress, houtlets, hfeeders, hhold, hberth, htap, hfuel, hbus, hlost, hclock,
    BerthUnit.start, TapUnit.start, FuelUnit.start, BusController.start, RawStatus.all, Config.saleCapacity]

/-- The end of start-up of a transparent part takes what the conditions of its idle units come to. -/
theorem State.begun_transparentIdle {s : State} (hs : TransparentIdle s) :
    TransparentIdle (State.begun { s with phase := .running }) := by
  rw [State.begun_eq]
  intro h
  obtain ⟨hmgmt, hberth, hcharge, houtlet, -, htap, hfuel, hgate, hbus, htally, hintake, hown, hnoRoute, hlost⟩ := hs h
  have hraw := State.conditions_of_start hberth houtlet htap hfuel hbus hlost (congrArg ManagementUnit.timeValid hmgmt)
  refine ⟨?_, hberth, hcharge, ?_, fun _ => hraw, htap, hfuel, hgate, hbus, htally, hintake, hown, hnoRoute, hlost⟩
  · exact congrArg (fun m : ManagementUnit => { m with secondStart := s.now }) hmgmt
  · exact congrArg (fun o : OutletUnit => { o with raw := s.conditions }) houtlet

/-- The units at power-on are idle, whatever the straps, as long as the part does not run. -/
theorem transparentIdle_of_powered {s : State} (straps : Straps) {phase : Phase} (h : phase ≠ .running) :
    TransparentIdle { s.powered with straps := straps, phase := phase } :=
  fun _ => ⟨rfl, rfl, rfl, rfl, fun hp => absurd hp h, rfl, rfl, rfl, rfl, rfl, rfl, rfl, rfl, rfl⟩

/-- The commands of power, reset and start-up keep the units of a transparent part idle. -/
theorem exec_restarts_transparentIdle {c : Instr} {s t : State} (hc : Instr.restarts c = true) (hs : TransparentIdle s)
    (e : exec c s = .next t) : TransparentIdle t := by
  cases c with
  | powerOn straps => cases e; exact transparentIdle_of_powered straps Phase.noConfusion
  | resetAsserted => cases e; exact transparentIdle_of_powered State.reset.straps Phase.noConfusion
  | resetReleased straps =>
    by_cases hp : s.phase = .held
    · cases (if_pos hp).symm.trans e; exact transparentIdle_of_powered straps Phase.noConfusion
    · cases (if_neg hp).symm.trans e; exact hs
  | startupComplete =>
    by_cases hp : s.phase = .startUp
    · cases (if_pos hp).symm.trans e; exact State.begun_transparentIdle hs
    · cases (if_neg hp).symm.trans e; exact hs
  | _ => cases hc

/-- The units of a transparent part are idle at power-on, after start-up, and over whatever its ports forward. -/
theorem transparentUnitsStayAtPowerOn : Claim.TransparentUnitsStayAtPowerOn := by
  refine keptByStep_of_exec (fun s hs => hs) (fun s pending hs => hs) (fun c s t hs e => ?_)
  cases hc : Instr.restarts c with
  | false =>
    intro h
    have htransparent := (State.transparent_of_straps (exec_keeps hc e).straps).symm.trans h
    exact (exec_forwards hc htransparent hs e).transparentIdle hs h
  | true => exact exec_restarts_transparentIdle hc hs e

/-- Settles O5, from its two invariants. -/
theorem passivePartsStayAtPowerOn : Obligations.PassivePartsStayAtPowerOn :=
  ⟨heldPartStaysAtPowerOn, transparentUnitsStayAtPowerOn⟩

end Sys2Proof.Machine
end

section
/-! SUPPORT. Power-on, the RESET pin and the end of start-up (10 R177, R179). -/

namespace Sys2Proof.Machine

open Sys2Proof Sys2Proof.Claim

/-- Settles O7: each pin command answers its state, and a release acts on a held part alone. -/
theorem powerAndResetPin : Obligations.PowerAndResetPin :=
  fun _ _ => ⟨rfl, rfl, fun h => if_pos h, fun h => if_neg h⟩

/-! ## The report sources at the end of start-up (09 R172) -/

/-- What the report sources read as once one comes to exist. -/
theorem State.createSource_sources_get (c : ReportClass) (n : Nat) (s : State) (k : Nat) :
    (s.createSource c n).trunk.sources.get k =
      if k = sourceKey ⟨c, n⟩ then
        some ((s.trunk.sources.get k).getD { SourceRecord.clear with timerEnd := s.freshTimer c })
      else s.trunk.sources.get k := by
  by_cases h : s.trunk.sources.has (sourceKey ⟨c, n⟩) = true
  · rw [State.createSource_of_has h]
    obtain ⟨r, hr⟩ := Option.isSome_iff_exists.1 h
    split
    · next hk => rw [hk, hr]; rfl
    · rfl
  · have hnone : s.trunk.sources.get (sourceKey ⟨c, n⟩) = none := Option.not_isSome_iff_eq_none.1 h
    simp only [State.createSource, if_neg h, Table.get_set]
    split
    · next hk => rw [hk, hnone]; rfl
    · rfl

/-- The period timers started, whatever they were. -/
theorem State.startTimers_sources_get (s : State) (k : Nat) : s.startTimers.trunk.sources.get k =
    (s.trunk.sources.get k).map fun r => { r with timerEnd := s.freshTimer (sourceOfKey k).cls } :=
  Table.get_map (β := SourceRecord) s.trunk.sources (fun k r => { r with timerEnd := s.freshTimer (sourceOfKey k).cls }) k

/-- What the report sources read as once one is marked. -/
theorem State.mark_sources_get (c : ReportClass) (n : Nat) (s : State) (k : Nat) :
    (s.mark c n).trunk.sources.get k = (s.trunk.sources.get k).map fun r =>
      if k = sourceKey ⟨c, n⟩ then r.marked s.now else r := by
  rw [State.mark_trunk, Table.get_modify]
  split
  · next h => rw [h]
  · simp

/-- The marks of segment status and alarm, after every period timer has started. -/
theorem State.startTimers_marked_get (s : State) (k : Nat) :
    ((s.startTimers.markStatus).mark .alarm 0).trunk.sources.get k = (s.trunk.sources.get k).map fun r =>
      { (if k = sourceKey ⟨.status, 0⟩ ∨ k = sourceKey ⟨.alarm, 0⟩ then pended s.now r else r) with
        timerEnd := s.freshTimer (sourceOfKey k).cls } := by
  have hkeys : sourceKey ⟨.status, 0⟩ ≠ sourceKey ⟨.alarm, 0⟩ := by decide
  rw [State.mark_sources_get, State.markStatus, State.mark_sources_get, State.startTimers_sources_get, Option.map_map,
    Option.map_map]
  refine congrArg (Option.map · _) (funext fun r => ?_)
  by_cases hs : k = sourceKey ⟨.status, 0⟩
  · subst hs
    simp [hkeys, SourceRecord.marked, pended, State.startTimers]
  · by_cases ha : k = sourceKey ⟨.alarm, 0⟩
    · subst ha
      simp [hkeys.symm, SourceRecord.marked, pended, State.startTimers]
    · simp [hs, ha]

/-- What the report sources read as after the end of start-up: the journal source exists, those of segment status and
alarm are marked, and every period timer starts by the mode of its class. -/
theorem State.begun_sources_get (s : State) (k : Nat) : s.begun.trunk.sources.get k =
    (if k = sourceKey ⟨.journal, 0⟩ then some ((s.trunk.sources.get k).getD ⟨false, none, none, none, none⟩)
      else s.trunk.sources.get k).map fun r =>
        { (if k = sourceKey ⟨.status, 0⟩ ∨ k = sourceKey ⟨.alarm, 0⟩ then pended s.now r else r) with
          timerEnd := s.freshTimer (sourceOfKey k).cls } := by
  unfold State.begun
  rw [State.startTimers_marked_get, State.createSource_sources_get, State.createSource_eq]
  by_cases hj : k = sourceKey ⟨.journal, 0⟩
  · subst hj
    simp only [if_true]
    cases s.trunk.sources.get (sourceKey ⟨.journal, 0⟩) <;> rfl
  · simp only [if_neg hj]
    rfl

/-- Settles O8: what the end of start-up writes, source by source, and the conditions of units at power-on. -/
theorem startupCompletes : Obligations.StartupCompletes := by
  intro s hp
  refine ⟨⟨s.complete, if_pos hp, State.begun_sources_get _, State.begun_eq _⟩, ?_⟩
  rintro ⟨hberth, houtlet, htap, hfuel, hbus, hlost, hclock⟩
  exact State.conditions_of_start hberth (by rw [houtlet]) htap hfuel hbus hlost hclock

end Sys2Proof.Machine
end

section
/-! SUPPORT. Local frames taken, answered, and not acted on (10 R173, R174), and the segment clock (10 R178). -/

namespace Sys2Proof.Machine

open Sys2Proof Sys2Proof.Claim

/-! ## Taking and answering (10 R173, R174; 09 R166) -/

/-- Settles O9: a broadcast is neither counted nor answered; the reply of an addressed frame enters the LOCAL queue or
waits, by the room in the queue. -/
theorem localFrameCountedAndAnswered : Obligations.LocalFrameCountedAndAnswered := by
  refine fun fr a s => ⟨?_, fun hb => State.answer_broadcast a s hb, fun hb hl => ?_, fun hb hl => ?_⟩
  · unfold State.taken
    split <;> rfl
  · rw [State.answer_addressed a s hb, State.enterReply_room hl]
    rfl
  · rw [State.answer_addressed a s hb, State.enterReply_full hl]
    rfl

/-! ## Frames not acted on (10 R173, Table 10.1) -/

/-- A command with a frame type is the local command of that type and of its form's body. -/
theorem exec_of_frameOf {c : Instr} {type : Byte} {body : Option LocalBody} (h : frameOf c = some (type, body)) :
    ∃ (α : Type) (mk : α → LocalBody) (f : Form α) (act : IntakeFrame → α → State → State),
      f.body mk = body ∧ ∀ s, exec c s = localCommand type mk f act s := by
  cases c with
  | segmentConfig f | time f | tide f | restart f | read f | berthLoad f | berthRead f | openBerth f | closeBerth f
  | book f | allocate f | confirm f | decline f | depart f | accountLoad f | accountUpdate f | topUp f | accountRemove f
  | accountRead f | tariffLoad f | outletLoad f | feederLoad f | protectionLoad f | forceOff f | releaseForce f
  | serviceHold f | serviceRelease f | clearFault f | returnToService f | tapLoad f | waterSuspend f | waterResume f
  | deviceLoad f | deviceRemove f | credentialFill f | credentialUnknown f | invalidate f | authoriseSale f | stopSale f
  | takeSale f | tankSet f | tankAdd f | freeze f | freezeRelease f | closePeriod f | readTally f =>
    cases h
    exact ⟨_, _, f, _, rfl, fun _ => rfl⟩
  | _ => cases h

theorem Form.body_eq_none_iff {α : Type} {mk : α → LocalBody} {f : Form α} : f.body mk = none ↔ f = .badLength := by
  cases f <;> simp [Form.body]

theorem badLengthIsRefused : Claim.BadLengthIsRefused := by
  rintro c type fr s hf ⟨ha, hw, hi, ht, hbody, hb⟩
  obtain ⟨α, mk, f, act, hform, hx⟩ := exec_of_frameOf hf
  rw [hx s, Form.body_eq_none_iff.1 hform]
  exact localCommand_badLength act ha hw hi ht hbody hb

/-- A frame in the intake of an active part with a free management unit is the one a test of the intake finds. -/
theorem State.intakeFrame_of {s : State} {fr : IntakeFrame} {test : IntakeFrame → Bool} (ha : s.active = true)
    (hw : s.mgmt.work = .idle) (hi : s.trunk.intake = some fr) (ht : test fr = true) :
    s.intakeFrame test = some fr := by
  simp [State.intakeFrame, ha, hw, hi, ht, Option.filter]

theorem unmarkedBroadcastIsDiscarded : Claim.UnmarkedBroadcastIsDiscarded := by
  refine ⟨fun c type b fr s hf hn ha hw hi hb ht hbody => ?_, fun fr s ha hw hi hb hn => ?_⟩
  · obtain ⟨α, mk, f, act, hform, hx⟩ := exec_of_frameOf hf
    rw [hx s]
    exact localCommand_discard act ha hw hi ht (hbody.trans hform.symm) hb hn
  · have htaken := State.intakeFrame_of (test := fun fr => fr.broadcast && !broadcastTypes.contains fr.type) ha hw hi
      (by simp [hb, hn])
    rw [exec_of_active (act := State.takeDiscard) rfl ha, State.takeDiscard, htaken]

theorem unknownTypeIsRefused : Claim.UnknownTypeIsRefused := by
  intro fr s ha hw hi hn
  have htaken := State.intakeFrame_of (test := fun fr => !catalogue.contains fr.type) ha hw hi (by simp [hn])
  have hexec := exec_of_active (c := .unknownType) (act := State.takeUnknown) rfl ha
  refine ⟨fun hb => ?_, fun hb => ?_⟩
  · rw [hexec, State.takeUnknown, htaken]
    simp [hb, acted, done, State.refuse]
  · rw [hexec, State.takeUnknown, htaken]
    simp [hb]

/-- Settles O10, from its three claims. -/
theorem framesNotActedOnAreRefusedOrDiscarded : Obligations.FramesNotActedOnAreRefusedOrDiscarded :=
  ⟨badLengthIsRefused, unmarkedBroadcastIsDiscarded, unknownTypeIsRefused⟩

/-! ## The segment clock (10 R178) -/

theorem timeSetsTheSegmentClock : Claim.TimeSetsTheSegmentClock := by
  intro c fr s h u t
  refine exec_of_takes (act := timeAct) rfl rfl h ?_
  simp only [timeAct, State.taken_now, State.taken_clock, State.taken_timeValid]
  rfl

theorem secondTickAdvancesAValidClock : Claim.SecondTickAdvancesAValidClock := by
  intro s ha t
  have hexec := exec_of_active (c := .secondTick) (act := State.second) rfl ha
  refine ⟨fun hv => ?_, fun hv => ?_⟩
  · rw [hexec, State.second, if_pos hv]
    rfl
  · rw [hexec, State.second, if_neg (by simp [hv])]
    rfl

/-- Settles O12, from its two claims. -/
theorem clockIsSetAndAdvances : Obligations.ClockIsSetAndAdvances :=
  ⟨timeSetsTheSegmentClock, secondTickAdvancesAValidClock⟩

end Sys2Proof.Machine
end

section
/-! SUPPORT. SEGMENT CONFIG over a pending query that no card read makes (07 R134, R137; 10 R176): the statement that the
changed fields take effect covers every state, and this one refutes it. -/

namespace Sys2Proof.Machine

open Sys2Proof Sys2Proof.Claim

/-- A part with one pending query, of a gate reader whose index is so far out of range that the query's report source has
the key of the alarm source: class code 7 with identity 2 · 2^24 against class code 9 with identity 0 (09 Table 9.3). -/
def strayQuery : State :=
  { State.reset with
    now := 4000
    gate := { GateUnit.start with queries := [⟨0, .gate 33554432, 0, 0⟩] } }

/-- A record with another alarm mask and a silence limit that 4 s of silence have already passed. -/
def maskedAndSilent : SegmentConfig :=
  { SegmentConfig.defaults with alarmMask := RawStatus.all false, silenceLimit := 4 }

/-- The alarm source exists before the change. -/
theorem strayQuery_alarm : strayQuery.source ⟨.alarm, 0⟩ = some SourceRecord.clear := by decide

/-- The change of the mask marks the alarm source; but the upstream-loss state is entered in the same operation, the
stray query is failed, and the source that ceases with it is the alarm's. -/
theorem strayQuery_configured_alarm :
    (strayQuery.configured (strayQuery.putConfig maskedAndSilent)).source ⟨.alarm, 0⟩ = none := by decide

/-- Refutes O11: with the changed mask the statement has the alarm source still there and marked, over every state; the
stray query's failure removes it. -/
theorem not_segmentConfigIsClampedStoredOrRefused : ¬ Obligations.SegmentConfigIsClampedStoredOrRefused := by
  rintro ⟨-, -, heffects⟩
  obtain ⟨-, -, -, -, -, -, -, -, -, -, hmask, -⟩ := heffects maskedAndSilent strayQuery
  obtain ⟨q, hq, -⟩ := hmask (by decide) SourceRecord.clear strayQuery_alarm
  cases strayQuery_configured_alarm.symm.trans hq

end Sys2Proof.Machine
end

section
/-! SUPPORT. Tables whose records a run of operations works on in place, and the records RESTART restarts (10 R181). -/

namespace Sys2Proof.Machine

open Sys2Proof Sys2Proof.Claim

/-! ## Records worked on in place -/

theorem Table.mem_keys_of_get {α : Type} {t : Table α} {n : Nat} {a : α} (h : t.get n = some a) : n ∈ t.keys :=
  List.mem_map_of_mem (Table.mem_of_get h)

/-- An entry of a table after a store is one of before, or the one stored. -/
theorem Table.mem_of_mem_set {α : Type} {t : Table α} {n : Nat} {a : α} {p : Nat × α} (h : p ∈ Table.set t n a) :
    p ∈ t ∨ p = (n, a) := by
  induction t with
  | nil => exact .inr (List.mem_singleton.1 h)
  | cons q t ih =>
    obtain ⟨k, b⟩ := q
    unfold Table.set at h
    split at h
    · exact (List.mem_cons.1 h).symm
    · split at h
      · exact (List.mem_cons.1 h).symm.imp_left (.tail _)
      · rcases List.mem_cons.1 h with rfl | h
        · exact .inl (.head _)
        · exact (ih h).imp_left (.tail _)

/-- A table holds the records of another under their keys, and in each what a view of it shows; none of its entries has
another origin. -/
structure Reworked {α β : Type} (view : α → β) (t u : Table α) : Prop where
  absent : ∀ k, t.get k = none → u.get k = none
  present : ∀ k a, t.get k = some a → ∃ b, u.get k = some b ∧ view b = view a
  entries : ∀ p ∈ u, ∃ q ∈ t, view p.2 = view q.2

namespace Reworked

variable {α β : Type} {view : α → β} {t u v : Table α}

theorem refl (t : Table α) : Reworked view t t := ⟨fun _ h => h, fun _ a h => ⟨a, h, rfl⟩, fun p h => ⟨p, h, rfl⟩⟩

theorem trans (h : Reworked view t u) (k : Reworked view u v) : Reworked view t v where
  absent n hn := k.absent n (h.absent n hn)
  present n a ha := by
    obtain ⟨b, hb, hba⟩ := h.present n a ha
    obtain ⟨c, hc, hcb⟩ := k.present n b hb
    exact ⟨c, hc, hcb.trans hba⟩
  entries p hp := by
    obtain ⟨q, hq, hpq⟩ := k.entries p hp
    obtain ⟨x, hx, hqx⟩ := h.entries q hq
    exact ⟨x, hx, hpq.trans hqx⟩

/-- A record stored over one of the same view. -/
theorem set {n : Nat} {a b : α} (ha : t.get n = some a) (h : view b = view a) : Reworked view t (t.set n b) where
  absent k hk := by
    have hne : k ≠ n := by rintro rfl; cases hk.symm.trans ha
    rwa [Table.get_set_ne _ _ hne]
  present k c hc := by
    by_cases hk : k = n
    · subst hk
      cases ha.symm.trans hc
      exact ⟨b, Table.get_set_self _ _ _, h⟩
    · exact ⟨c, (Table.get_set_ne _ _ hk).trans hc, rfl⟩
  entries p hp := by
    obtain hp | rfl := Table.mem_of_mem_set hp
    · exact ⟨p, hp, rfl⟩
    · exact ⟨(n, a), Table.mem_of_get ha, h⟩

theorem modify {f : α → α} (n : Nat) (h : ∀ a, view (f a) = view a) : Reworked view t (t.modify n f) := by
  cases ha : t.get n with
  | none => simpa [Table.modify, ha] using refl t
  | some a => rw [Table.modify_of_some f ha]; exact set ha (h a)

/-- Every record changed to one of the same view. -/
theorem map {f : α → α} (h : ∀ a, view (f a) = view a) (t : Table α) :
    Reworked view t (t.map fun p => (p.1, f p.2)) where
  absent k hk := (Table.get_map t (fun _ => f) k).trans (congrArg _ hk)
  present k a hk := ⟨f a, (Table.get_map t (fun _ => f) k).trans (congrArg _ hk), h a⟩
  entries p hp := by
    obtain ⟨q, hq, rfl⟩ := List.mem_map.1 hp
    exact ⟨q, hq, h q.2⟩

/-- A run of operations on a state's table, each of which reworks it. -/
theorem foldl {σ γ : Type} {table : σ → Table α} {g : σ → γ → σ} (h : ∀ s x, Reworked view (table s) (table (g s x)))
    (l : List γ) (s : σ) : Reworked view (table s) (table (l.foldl g s)) := by
  induction l generalizing s with
  | nil => exact refl _
  | cons x l ih => exact (h s x).trans (ih _)

/-- Records reworked and then all changed alike, against those of before. -/
theorem keptTable_map {r : α → α → Prop} {f : α → α} (h : Reworked view t u)
    (hr : ∀ a b, view b = view a → r a (f b)) : keptTable r t (u.map fun p => (p.1, f p.2)) := by
  intro k
  rw [Table.get_map u (fun _ => f)]
  cases ha : t.get k with
  | none => rw [h.absent k ha]; exact .none
  | some a =>
    obtain ⟨b, hb, hba⟩ := h.present k a ha
    rw [hb]
    exact .some (hr a b hba)

/-- Records all changed alike and then reworked, against those of before. -/
theorem keptTable_of_map {r : α → α → Prop} {f : α → α} (h : Reworked view (t.map fun p => (p.1, f p.2)) u)
    (hr : ∀ a b, view b = view (f a) → r a b) : keptTable r t u := by
  intro k
  have hmap := Table.get_map t (fun _ => f) k
  cases ha : t.get k with
  | none =>
    rw [ha] at hmap
    rw [h.absent k hmap]
    exact .none
  | some a =>
    rw [ha] at hmap
    obtain ⟨b, hb, hba⟩ := h.present k _ hmap
    rw [hb]
    exact .some (hr a b hba)

end Reworked

theorem keptTable_map {α : Type} {r : α → α → Prop} {f : α → α} (h : ∀ a, r a (f a)) (t : Table α) :
    keptTable r t (t.map fun p => (p.1, f p.2)) :=
  (Reworked.refl (view := id) t).keptTable_map fun a b (hb : b = a) => hb ▸ h a

end Sys2Proof.Machine
end

section
/-! SUPPORT. RESTART at the outlets, feeders and taps: the sessions end into closing entries, and every record restarts
(03 R72, 04 R91, 05 R103). -/

namespace Sys2Proof.Machine

open Sys2Proof Sys2Proof.Claim

/-! ## Closing entries (02 R37) -/

/-- A closing entry of a source is among the postings of a service. -/
def closingPosted (i : Nat) (l : List Posting) : Prop := ∃ e ∈ l, e.source = i ∧ e.closing ≠ none

section
variable {i j acct q : Nat} {c : Closing} {l : List Posting} {w : List WaitingClosing}

theorem findPosting_some {e : Posting} (h : findPosting i l = some e) : e ∈ l ∧ e.source = i :=
  ⟨List.mem_of_find?_eq_some h, of_decide_eq_true (List.find?_some h :)⟩

/-- The end of a session leaves a closing entry of its source. -/
theorem closePosting_posted : closingPosted i (closePosting i acct q c l w).1 := by
  cases hf : findPosting i l with
  | none =>
    rw [closePosting_new hf]
    exact ⟨_, List.mem_append_right _ (List.mem_singleton_self _), rfl, Option.some_ne_none c⟩
  | some e =>
    obtain ⟨hmem, hsource⟩ := findPosting_some hf
    cases hc : e.closing with
    | none =>
      rw [closePosting_own hf hc]
      exact ⟨_, List.mem_map.2 ⟨e, hmem, if_pos hsource⟩, hsource, Option.some_ne_none c⟩
    | some y =>
      rw [closePosting_waits hf hc]
      exact ⟨e, hmem, hsource, by simp [hc]⟩

/-- The end of a session leaves the closing entries there are. -/
theorem closePosting_keeps (h : closingPosted j l) : closingPosted j (closePosting i acct q c l w).1 := by
  obtain ⟨e, he, hj, hclosed⟩ := h
  cases hf : findPosting i l with
  | none =>
    rw [closePosting_new hf]
    exact ⟨e, List.mem_append_left _ he, hj, hclosed⟩
  | some p =>
    obtain ⟨-, hsource⟩ := findPosting_some hf
    cases hc : p.closing with
    | some y => rw [closePosting_waits hf hc]; exact ⟨e, he, hj, hclosed⟩
    | none =>
      rw [closePosting_own hf hc]
      by_cases hi : e.source = i
      · exact ⟨_, List.mem_map.2 ⟨e, he, if_pos hi⟩, hsource.trans (hi.symm.trans hj), Option.some_ne_none c⟩
      · exact ⟨e, List.mem_map.2 ⟨e, he, if_neg hi⟩, hj, hclosed⟩

end

/-! ## The sessions of the outlets (03 R72) -/

/-- What the end of an outlet's session writes: the POWER slots, the outlets and the report sources. -/
def State.OnlyPower (s t : State) : Prop :=
  t = { s with
    charge := { s.charge with power := t.charge.power }
    outlet := { s.outlet with outlets := t.outlet.outlets }
    trunk := { s.trunk with sources := t.trunk.sources } }

/-- What an outlet holds but for its session and waiting closings. -/
def Outlet.unsessioned (o : Outlet) : Outlet := { o with session := none, waiting := [] }

section
variable {i : Nat} {reason : Reason} {s t u : State}

theorem State.OnlyPower.trans (h : s.OnlyPower t) (k : t.OnlyPower u) : s.OnlyPower u := by
  unfold State.OnlyPower at *
  rw [k, h]

theorem State.endOutletSession_onlyPower (i : Nat) (reason : Reason) (s : State) :
    s.OnlyPower (s.endOutletSession i reason) := by
  unfold State.endOutletSession
  split
  · rfl
  · split <;> rfl

theorem State.endOutletSession_reworked (i : Nat) (reason : Reason) (s : State) :
    Reworked Outlet.unsessioned s.outlet.outlets (s.endOutletSession i reason).outlet.outlets := by
  cases ho : s.outlet.outlets.get i with
  | none => simp only [State.endOutletSession, ho]; exact .refl _
  | some o =>
    cases hx : o.session with
    | none => rw [State.endOutletSession_none ho hx]; exact .refl _
    | some x => rw [State.endOutletSession_some ho hx]; exact .set ho rfl

theorem State.endOutletSession_keepsPosted {j : Nat} (h : closingPosted j s.charge.power) :
    closingPosted j (s.endOutletSession i reason).charge.power := by
  cases ho : s.outlet.outlets.get i with
  | none => simpa only [State.endOutletSession, ho] using h
  | some o =>
    cases hx : o.session with
    | none => rwa [State.endOutletSession_none ho hx]
    | some x => rw [State.endOutletSession_some ho hx]; exact closePosting_keeps h

end

/-- An outlet has no session, and one that had has a closing entry. -/
def State.SessionEnded (j : Nat) (o : Outlet) (s : State) : Prop :=
  ∃ p, s.outlet.outlets.get j = some p ∧ p.session = none ∧ (o.session ≠ none → closingPosted j s.charge.power)

section
variable {i j : Nat} {o : Outlet} {reason : Reason} {s : State}

theorem State.endOutletSession_ended (ho : s.outlet.outlets.get j = some o) :
    (s.endOutletSession j reason).SessionEnded j o := by
  cases hx : o.session with
  | none => rw [State.endOutletSession_none ho hx]; exact ⟨o, ho, hx, fun h => absurd hx h⟩
  | some x =>
    rw [State.endOutletSession_some ho hx]
    exact ⟨_, Table.get_set_self _ _ _, rfl, fun _ => closePosting_posted⟩

/-- A session that has ended stays so when others end. -/
theorem State.SessionEnded.endOutletSession (h : s.SessionEnded j o) :
    (s.endOutletSession i reason).SessionEnded j o := by
  obtain ⟨p, hp, hx, hc⟩ := h
  have hposted (hs : o.session ≠ none) := State.endOutletSession_keepsPosted (i := i) (reason := reason) (hc hs)
  by_cases hi : j = i
  · subst hi
    rw [State.endOutletSession_none hp hx] at *
    exact ⟨p, hp, hx, hc⟩
  · have hstays := (State.endOutletSession_only (.refl i s) reason).others j hi
    exact ⟨p, hstays.trans hp, hx, hposted⟩

end

/-- Every session of an outlet ended, in ascending order of index (log 51). -/
def State.sessionsEnded (s : State) : State :=
  s.outlet.outlets.keys.foldl (fun t i => t.endOutletSession i .restart) s

section
variable {s : State}

theorem State.sessionsEnded_onlyPower (s : State) : s.OnlyPower s.sessionsEnded :=
  List.foldlRecOn (motive := s.OnlyPower) _ _ rfl fun _ h _ _ => h.trans (State.endOutletSession_onlyPower _ _ _)

theorem State.sessionsEnded_reworked (s : State) :
    Reworked Outlet.unsessioned s.outlet.outlets s.sessionsEnded.outlet.outlets :=
  .foldl (table := fun t : State => t.outlet.outlets) (fun t i => t.endOutletSession_reworked i .restart) _ s

theorem State.sessionsEnded_ended {j : Nat} {o : Outlet} (ho : s.outlet.outlets.get j = some o) :
    s.sessionsEnded.SessionEnded j o := by
  refine foldl_of_mem (Inv := fun u => u.outlet.outlets.get j = some o ∨ u.SessionEnded j o) (fun u i h => ?_)
    (fun u i _ h => h.endOutletSession) (fun u h => ?_) (Table.mem_keys_of_get ho) (.inl ho)
  · rcases h with h | h
    · by_cases hi : j = i
      · subst hi
        exact .inr (State.endOutletSession_ended h)
      · exact .inl (((State.endOutletSession_only (.refl i u) _).others j hi).trans h)
    · exact .inr h.endOutletSession
  · exact h.elim State.endOutletSession_ended fun h => h.endOutletSession

/-- The outlet unit at RESTART: with every session ended, each outlet and feeder restarts, the admission queue is empty,
and the service hold is at its configured start. -/
theorem State.restartOutlets_eq (s : State) : s.restartOutlets = { s with
    charge := { s.charge with power := s.sessionsEnded.charge.power }
    outlet := { s.outlet with
      outlets := s.sessionsEnded.outlet.outlets.map fun p => (p.1, p.2.restarted)
      feeders := s.outlet.feeders.map fun p => (p.1, p.2.restarted)
      queue := [], serviceHold := s.mgmt.config.holdAtStart }
    trunk := { s.trunk with sources := s.sessionsEnded.trunk.sources } } := by
  have h : s.restartOutlets = { s.sessionsEnded with outlet := { s.sessionsEnded.outlet with
      outlets := s.sessionsEnded.outlet.outlets.map fun p => (p.1, p.2.restarted)
      feeders := s.sessionsEnded.outlet.feeders.map fun p => (p.1, p.2.restarted)
      queue := [], serviceHold := s.sessionsEnded.mgmt.config.holdAtStart } } := rfl
  rw [h, s.sessionsEnded_onlyPower]

end

/-! ## An outlet restarted (03 R72, 04 R91) -/

/-- A restarted outlet keeps what RESTART keeps of the outlet whose session was ended. -/
theorem Outlet.restarted_kept {o p : Outlet} (h : p.unsessioned = o.unsessioned) : outletKept o p.restarted := by
  have field {γ : Type} (f : Outlet → γ) (hf : ∀ x : Outlet, f x.unsessioned = f x := by exact fun _ => rfl) :
      f p = f o := by rw [← hf p, ← hf o, h]
  have hfault := field Outlet.fault
  have hreadback := field Outlet.readback
  refine ⟨field Outlet.address, field Outlet.side, field Outlet.rating, field Outlet.feeder, field Outlet.lock,
    hreadback, field Outlet.current, rfl, ?_, field Outlet.ends, field Outlet.endsDropped,
    field fun x => x.fault.trips, field fun x => x.fault.last, ?_, fun ho => ?_⟩
  · rw [← hreadback, ← field Outlet.reservation]
    rfl
  · rw [← hfault]
    rfl
  · have hstate : p.state = .outOfService := (field Outlet.state).trans ho
    simp [Outlet.restarted, hstate, OutletState.restarted]

/-- No restarted outlet is in use. -/
theorem Outlet.restarted_state (p : Outlet) :
    p.restarted.state ≠ .live ∧ p.restarted.state ≠ .ready ∧ ∀ b, p.restarted.state ≠ .waiting b := by
  have hstate : p.restarted.state = p.state.restarted p.fault.restarted.latches.any := rfl
  rw [hstate]
  cases p.state with
  | tripped => cases p.fault.restarted.latches.any <;> simp [OutletState.restarted]
  | _ => simp [OutletState.restarted]

/-! ## The taps (05 R103) -/

/-- What a tap shut at RESTART writes: the WATER slots, the taps, the images of devices and the report sources. -/
def State.OnlyWater (s t : State) : Prop :=
  t = { s with
    charge := { s.charge with water := t.charge.water }
    tap := { s.tap with taps := t.tap.taps }
    bus := { s.bus with devices := t.bus.devices }
    trunk := { s.trunk with sources := t.trunk.sources } }

/-- What of a tap its closing leaves. -/
def Tap.lasting (q : Tap) : Nat × Side × Bool × List EndRecord × Bool × FaultRecord :=
  (q.address, q.side, q.outOfService, q.ends, q.endsDropped, q.fault)

section
variable {i : Nat} {reason : Reason} {s t u : State}

theorem State.OnlyWater.trans (h : s.OnlyWater t) (k : t.OnlyWater u) : s.OnlyWater u := by
  unfold State.OnlyWater at *
  rw [k, h]

theorem State.endTapSession_onlyWater (i : Nat) (reason : Reason) (s : State) :
    s.OnlyWater (s.endTapSession i reason) := by
  unfold State.endTapSession
  split
  · rfl
  · split <;> rfl

theorem State.shutTap_onlyWater (i : Nat) (target : TapState) (reason : Reason) (s : State) :
    s.OnlyWater (s.shutTap i target reason) := by
  refine (s.endTapSession_onlyWater i reason).trans ?_
  unfold State.shutTap
  dsimp only
  split <;> rfl

theorem State.closeIfOpen_onlyWater (i : Nat) (reason : Reason) (s : State) :
    s.OnlyWater (s.closeIfOpen i reason) := by
  unfold State.closeIfOpen
  split
  · rfl
  · split
    · exact s.shutTap_onlyWater i .closed reason
    · rfl

theorem State.closeAllTaps_onlyWater (reason : Reason) (s : State) : s.OnlyWater (s.closeAllTaps reason) :=
  List.foldlRecOn (motive := s.OnlyWater) _ _ rfl fun _ h _ _ => h.trans (State.closeIfOpen_onlyWater _ _ _)

theorem State.endTapSession_reworked (i : Nat) (reason : Reason) (s : State) :
    Reworked Tap.lasting s.tap.taps (s.endTapSession i reason).tap.taps := by
  cases hq : s.tap.taps.get i with
  | none => simp only [State.endTapSession, hq]; exact .refl _
  | some q =>
    cases hx : q.session with
    | none => rw [State.endTapSession_none hq hx]; exact .refl _
    | some x => rw [State.endTapSession_some hq hx]; exact .set hq rfl

theorem State.shutTap_reworked (i : Nat) (target : TapState) (reason : Reason) (s : State) :
    Reworked Tap.lasting s.tap.taps (s.shutTap i target reason).tap.taps := by
  refine (s.endTapSession_reworked i reason).trans ?_
  unfold State.shutTap
  dsimp only
  split
  · exact .refl _
  · next hq => exact .set hq rfl

theorem State.shutTap_charge (i : Nat) (target : TapState) (reason : Reason) (s : State) :
    (s.shutTap i target reason).charge = (s.endTapSession i reason).charge := by
  unfold State.shutTap
  dsimp only
  split <;> rfl

/-- The end of a tap's session leaves the closing entries there are, and leaves one of an open session. -/
theorem State.endTapSession_posted {j : Nat} (h : closingPosted j s.charge.water ∨
    ∃ q, j = i ∧ s.tap.taps.get i = some q ∧ q.session ≠ none) :
    closingPosted j (s.endTapSession i reason).charge.water := by
  cases hq : s.tap.taps.get i with
  | none => simpa [State.endTapSession, hq] using h
  | some q =>
    cases hx : q.session with
    | none => rw [State.endTapSession_none hq hx]; simpa [hq, hx] using h
    | some x =>
      rw [State.endTapSession_some hq hx]
      rcases h with h | ⟨-, rfl, -⟩
      · exact closePosting_keeps h
      · exact closePosting_posted

section
variable {q : Tap} (hq : s.tap.taps.get i = some q)
include hq

theorem State.closeIfOpen_of_opened (hx : q.state = .opened) :
    s.closeIfOpen i reason = s.shutTap i .closed reason := by
  simp only [State.closeIfOpen, hq, if_pos hx]

theorem State.closeIfOpen_of_not_opened (hx : q.state ≠ .opened) : s.closeIfOpen i reason = s := by
  simp only [State.closeIfOpen, hq, if_neg hx]

end

/-- A close shuts a tap or does nothing. -/
theorem State.closeIfOpen_cases (i : Nat) (reason : Reason) (s : State) :
    s.closeIfOpen i reason = s ∨ s.closeIfOpen i reason = s.shutTap i .closed reason := by
  unfold State.closeIfOpen
  split
  · exact .inl rfl
  · split
    · exact .inr rfl
    · exact .inl rfl

theorem State.closeAllTaps_reworked (reason : Reason) (s : State) :
    Reworked Tap.lasting s.tap.taps (s.closeAllTaps reason).tap.taps := by
  refine .foldl (table := fun t : State => t.tap.taps) (fun t i => ?_) _ s
  obtain h | h := t.closeIfOpen_cases i reason <;> rw [h]
  · exact .refl _
  · exact t.shutTap_reworked i .closed reason

/-- A tap that is not OPEN is as it was. -/
theorem State.closeAllTaps_get {j : Nat} {q : Tap} (hq : s.tap.taps.get j = some q) (hx : q.state ≠ .opened) :
    (s.closeAllTaps reason).tap.taps.get j = some q := by
  refine List.foldlRecOn (motive := fun t : State => t.tap.taps.get j = some q) _ _ hq fun t ht i _ => ?_
  by_cases hi : j = i
  · subst hi
    rwa [State.closeIfOpen_of_not_opened ht hx]
  · exact ((t.closeIfOpen_only i reason).others j hi).trans ht

/-- A tap was OPEN and is shut: its session has ended, into a closing entry where it had one. -/
def State.TapEnded (j : Nat) (q : Tap) (s : State) : Prop :=
  ∃ p, s.tap.taps.get j = some p ∧ p.state = .closed ∧ p.reason = .restart ∧ p.session = none ∧
    (q.session ≠ none → closingPosted j s.charge.water)

section
variable {j : Nat} {q : Tap}

theorem State.closeIfOpen_ended (hq : s.tap.taps.get j = some q) (hx : q.state = .opened) :
    (s.closeIfOpen j .restart).TapEnded j q := by
  rw [State.closeIfOpen_of_opened hq hx]
  obtain ⟨p, hp, hstate, hreason, hsession⟩ := State.shutTap_get hq .closed .restart
  refine ⟨p, hp, hstate, hreason, hsession, fun hs => ?_⟩
  rw [State.shutTap_charge]
  exact State.endTapSession_posted (.inr ⟨q, rfl, hq, hs⟩)

/-- A shut tap stays so when others are closed. -/
theorem State.TapEnded.closeIfOpen (h : s.TapEnded j q) (i : Nat) : (s.closeIfOpen i .restart).TapEnded j q := by
  obtain ⟨p, hp, hstate, hreason, hsession, hposted⟩ := h
  by_cases hi : j = i
  · subst hi
    rw [State.closeIfOpen_of_not_opened hp (by simp [hstate])]
    exact ⟨p, hp, hstate, hreason, hsession, hposted⟩
  · have hget := ((s.closeIfOpen_only i .restart).others j hi).trans hp
    refine ⟨p, hget, hstate, hreason, hsession, fun hs => ?_⟩
    obtain he | he := s.closeIfOpen_cases i .restart <;> rw [he]
    · exact hposted hs
    · rw [State.shutTap_charge]
      exact State.endTapSession_posted (.inl (hposted hs))

theorem State.closeAllTaps_ended (hq : s.tap.taps.get j = some q) (hx : q.state = .opened) :
    (s.closeAllTaps .restart).TapEnded j q := by
  refine foldl_of_mem (Inv := fun u => u.tap.taps.get j = some q ∨ u.TapEnded j q) (fun u i h => ?_)
    (fun u i _ h => h.closeIfOpen i)
    (fun u h => h.elim (State.closeIfOpen_ended · hx) fun h => h.closeIfOpen j)
    (List.mem_map.2 ⟨(j, q), List.mem_filter.2 ⟨Table.mem_of_get hq, decide_eq_true hx⟩, rfl⟩) (.inl hq)
  rcases h with h | h
  · by_cases hi : j = i
    · subst hi
      exact .inr (State.closeIfOpen_ended h hx)
    · exact .inl (((u.closeIfOpen_only i .restart).others j hi).trans h)
  · exact .inr (h.closeIfOpen i)

end

/-- The tap unit at RESTART: with every OPEN tap closed, each tap restarts. -/
theorem State.restartTaps_eq (s : State) : s.restartTaps = { s with
    charge := { s.charge with water := (s.closeAllTaps .restart).charge.water }
    tap := { s.tap with taps := (s.closeAllTaps .restart).tap.taps.map fun p => (p.1, p.2.restarted) }
    bus := { s.bus with devices := (s.closeAllTaps .restart).bus.devices }
    trunk := { s.trunk with sources := (s.closeAllTaps .restart).trunk.sources } } := by
  have h : s.restartTaps = { s.closeAllTaps .restart with tap := { (s.closeAllTaps .restart).tap with
      taps := (s.closeAllTaps .restart).tap.taps.map fun p => (p.1, p.2.restarted) } } := rfl
  rw [h, s.closeAllTaps_onlyWater .restart]

end

/-- A restarted tap keeps what RESTART keeps of the tap before it was closed. -/
theorem Tap.restarted_kept {q p : Tap} (h : p.lasting = q.lasting) : tapKept q p.restarted := by
  simp only [Tap.lasting, Prod.mk.injEq] at h
  obtain ⟨haddress, hside, hservice, hends, hdropped, hfault⟩ := h
  refine ⟨haddress, hside, hservice, hends, hdropped, ?_, ?_, fun k hk => ?_, rfl⟩
  · rw [← hfault]; rfl
  · rw [← hfault]; rfl
  · cases k with
    | earthLeak => exact absurd rfl hk
    | _ => rfl

end Sys2Proof.Machine
end

section
/-! SUPPORT. RESTART at the poll list and the sales (08 R160; 06 R125, 02 R47): what the images and one-shots of units
leave of a device, and how the sale of each dispenser is resolved. -/

namespace Sys2Proof.Machine

open Sys2Proof Sys2Proof.Claim

/-! ## Devices (08 R160) -/

/-- What of a device the images and one-shots of its units leave. -/
def Device.lasting (d : Device) : (DeviceKind × PollClass × List WatchField × Nat × DeviceState) ×
    Bool × Option Image × Nat × Option Status × Option Image :=
  ((d.kind, d.pollClass, d.watch, d.index, d.state), d.sequence, d.lastTransmitted, d.misses, d.stored, d.lastSent)

theorem Device.state_eq_of_lasting {d e : Device} (h : e.lasting = d.lasting) : e.state = d.state := by
  simp only [Device.lasting, Prod.mk.injEq] at h
  obtain ⟨⟨-, -, -, -, hstate⟩, -⟩ := h
  exact hstate

theorem Device.writeSlot_lasting (c : OneShot) (d : Device) : (d.writeSlot c).lasting = d.lasting := by
  unfold Device.writeSlot
  split
  · split <;> rfl
  · rfl

theorem State.writeOneShot_devices (a : Nat) (c : OneShot) (s : State) :
    Reworked Device.lasting s.bus.devices (s.writeOneShot a c).bus.devices := .modify a (Device.writeSlot_lasting c)

theorem State.writeImage_devices (a : Nat) (s : State) :
    Reworked Device.lasting s.bus.devices (s.writeImage a).bus.devices := .modify a fun _ => rfl

theorem State.endTapSession_bus (i : Nat) (reason : Reason) (s : State) : (s.endTapSession i reason).bus = s.bus := by
  unfold State.endTapSession
  split
  · rfl
  · split <;> rfl

theorem State.shutTap_devices (i : Nat) (target : TapState) (reason : Reason) (s : State) :
    Reworked Device.lasting s.bus.devices (s.shutTap i target reason).bus.devices := by
  rw [← s.endTapSession_bus i reason]
  unfold State.shutTap
  dsimp only
  split
  · exact .refl _
  · exact .modify _ fun _ => rfl

theorem State.closeAllTaps_devices (reason : Reason) (s : State) :
    Reworked Device.lasting s.bus.devices (s.closeAllTaps reason).bus.devices := by
  refine .foldl (table := fun t : State => t.bus.devices) (fun t i => ?_) _ s
  obtain h | h := t.closeIfOpen_cases i reason <;> rw [h]
  · exact .refl _
  · exact t.shutTap_devices i .closed reason

/-- A restarted device keeps what RESTART keeps, whatever images and one-shots follow. -/
theorem Device.restarted_kept {now : Nat} {d e : Device} (h : e.lasting = (d.restarted now).lasting) :
    deviceKept d e := by
  simp only [Device.lasting, Prod.mk.injEq] at h
  obtain ⟨⟨hkind, hclass, hwatch, hindex, -⟩, hsequence, htransmitted, hmisses, hstored, hsent⟩ := h
  exact ⟨hkind, hclass, hwatch, hindex, hsequence, htransmitted, hmisses, hstored, hsent⟩

/-! ## What the end of a sale leaves (06 R125) -/

/-- What of a dispenser the end of its sale leaves. -/
def Dispenser.lasting (d : Dispenser) : Nat × Bool × Bool × Option Nat × Option Nat :=
  (d.address, d.hose0, d.hose1, d.total0, d.total1)

/-- The tallies no sale adds to when it ends (11 Table 11.1). -/
def Tallies.lasting (t : Tallies) : (Table Nat × Table Nat × Table Nat) × Nat × Nat × Nat × Nat :=
  ((t.energy, t.litres, t.totaliser), t.chargedPower, t.chargedWater, t.chargedFuel0, t.chargedFuel1)

theorem Tallies.sold_lasting (i grade volume amount : Nat) (cash : Bool) (t : Tallies) :
    (t.sold i grade volume amount cash).lasting = t.lasting := by
  unfold Tallies.sold
  dsimp only
  split
  · rfl
  · split <;> rfl

theorem Tank.lower_cutoff (v : Nat) (t : Tank) : (t.lower v).cutoff = t.cutoff := by
  unfold Tank.lower
  split <;> rfl

/-- What the ends of sales leave of the fuel unit and of what it reaches; OFFICE steps and completed sales are added. -/
structure State.SalesEnd (s t : State) : Prop where
  fifo : s.fuel.fifo = [] → t.fuel.fifo = []
  dispensers : Reworked Dispenser.lasting s.fuel.dispensers t.fuel.dispensers
  devices : Reworked Device.lasting s.bus.devices t.bus.devices
  office : s.charge.office ⊆ t.charge.office
  sales : s.fuel.sales ⊆ t.fuel.sales
  cutoff0 : t.fuel.tank0.cutoff = s.fuel.tank0.cutoff
  cutoff1 : t.fuel.tank1.cutoff = s.fuel.tank1.cutoff
  live : t.tally.live.lasting = s.tally.live.lasting

section
variable {i volume amount : Nat} {d : Dispenser} {x : Sale} {s t u : State}

/-- An operation that leaves the fuel unit, the OFFICE steps, the devices and the tallies. -/
theorem State.salesEnd_of_eq (hf : t.fuel = s.fuel) (ho : t.charge.office = s.charge.office)
    (hb : t.bus.devices = s.bus.devices) (hl : t.tally.live = s.tally.live) : s.SalesEnd t where
  fifo h := hf ▸ h
  dispensers := by rw [hf]; exact .refl _
  devices := by rw [hb]; exact .refl _
  office := by rw [ho]; exact List.Subset.refl _
  sales := by rw [hf]; exact List.Subset.refl _
  cutoff0 := by rw [hf]
  cutoff1 := by rw [hf]
  live := by rw [hl]

theorem State.SalesEnd.refl (s : State) : s.SalesEnd s := State.salesEnd_of_eq rfl rfl rfl rfl

theorem State.SalesEnd.trans (h : s.SalesEnd t) (k : t.SalesEnd u) : s.SalesEnd u where
  fifo e := k.fifo (h.fifo e)
  dispensers := h.dispensers.trans k.dispensers
  devices := h.devices.trans k.devices
  office _ ho := k.office (h.office ho)
  sales _ hs := k.sales (h.sales hs)
  cutoff0 := k.cutoff0.trans h.cutoff0
  cutoff1 := k.cutoff1.trans h.cutoff1
  live := k.live.trans h.live

theorem State.writeOneShot_salesEnd (a : Nat) (c : OneShot) (s : State) : s.SalesEnd (s.writeOneShot a c) :=
  { State.SalesEnd.refl s with devices := s.writeOneShot_devices a c }

theorem State.request_salesEnd (b : Bool) (r : FuelRequest) (s : State) : s.SalesEnd (s.request b r) := by
  cases b with
  | false => exact State.salesEnd_of_eq rfl rfl rfl rfl
  | true => exact { State.SalesEnd.refl s with office := List.subset_append_left _ _ }

theorem State.setDispenser_salesEnd {e : Dispenser} (hd : s.fuel.dispensers.get i = some d)
    (he : e.lasting = d.lasting) : s.SalesEnd (s.setDispenser i e) :=
  { State.SalesEnd.refl s with dispensers := .set hd he }

theorem State.answerHold_eq (i : Nat) (a : Answer) (s : State) : s.answerHold i a = { s with
    trunk := { s.trunk with own := (s.answerHold i a).trunk.own }
    mgmt := { s.mgmt with work := (s.answerHold i a).mgmt.work } } := by
  unfold State.answerHold
  split
  · split
    · exact State.answer_eq _ _ _
    · rfl
  all_goals rfl

/-- A sale off the FIFO with its HOLD withdrawn: no more changes than these, the reply and the management unit's
work. -/
theorem State.withdrawn_eq (i : Nat) (s : State) : s.withdrawn i = { s with
    charge := (s.withdrawHold i).charge
    fuel := { s.fuel with fifo := s.fuel.fifo.filter fun j => decide (j ≠ i) }
    trunk := { s.trunk with own := (s.withdrawn i).trunk.own }
    mgmt := { s.mgmt with work := (s.withdrawn i).mgmt.work } } := by
  rw [State.withdrawn, State.answerHold_eq]
  rfl

theorem State.withdrawn_salesEnd (i : Nat) (s : State) : s.SalesEnd (s.withdrawn i) := by
  rw [State.withdrawn_eq]
  exact { State.SalesEnd.refl s with fifo := fun h => by rw [h]; rfl }

theorem State.settleAt_bus : (s.settleAt i volume amount d x).bus = s.bus := by
  unfold State.settleAt State.lowerTank
  split <;> rfl

theorem State.settleAt_salesEnd (hd : s.fuel.dispensers.get i = some d) :
    s.SalesEnd (s.settleAt i volume amount d x) where
  fifo h := by rw [State.settleAt_fuel]; exact h
  dispensers := by rw [State.settleAt_fuel]; exact .set hd rfl
  devices := by rw [State.settleAt_bus]; exact .refl _
  office := by rw [State.settleAt_charge]; exact List.Subset.refl _
  sales := by rw [State.settleAt_fuel]; exact List.Subset.refl _
  cutoff0 := by
    rw [State.settleAt_fuel]
    dsimp only
    split
    · exact Tank.lower_cutoff _ _
    · rfl
  cutoff1 := by
    rw [State.settleAt_fuel]
    dsimp only
    split
    · rfl
    · exact Tank.lower_cutoff _ _
  live := by rw [State.settleAt_live]; exact Tallies.sold_lasting ..

theorem State.completeSale_bus (i : Nat) (s : State) : (s.completeSale i).bus = s.bus := by
  unfold State.completeSale
  split
  · rfl
  · split <;> rfl

theorem State.completeSale_salesEnd (hd : s.fuel.dispensers.get i = some d) (hx : d.sale = some x) :
    s.SalesEnd (s.completeSale i) where
  fifo h := by rw [State.completeSale_fuel hd hx]; exact h
  dispensers := by rw [State.completeSale_fuel hd hx]; exact .set hd rfl
  devices := by rw [State.completeSale_bus]; exact .refl _
  office := by rw [State.completeSale_charge]; exact List.Subset.refl _
  sales := by rw [State.completeSale_fuel hd hx]; exact List.subset_append_left _ _
  cutoff0 := by rw [State.completeSale_fuel hd hx]
  cutoff1 := by rw [State.completeSale_fuel hd hx]
  live := by
    obtain ⟨k, hk⟩ := s.completeSale_tally i
    rw [hk]
    rfl

end

/-! ## The sale of a dispenser resolved (06 R125) -/

/-- The states the sale of a dispenser ends in. -/
def SaleState.resting (x : SaleState) : Prop := x = .idle ∨ x = .settling ∨ x = .cancelling

section
variable {i volume : Nat} {d : Dispenser} {x : Sale} {s : State}

theorem State.grantPumps_empty (h : s.fuel.fifo = []) : s.grantPumps = s := State.grantHeads_nil _ h

variable (hd : s.fuel.dispensers.get i = some d)
include hd

theorem State.restartSale_resting (hs : d.state.resting) : s.restartSale i = s := by
  rcases hs with hs | hs | hs <;> simp only [State.restartSale, hd, hs]

theorem State.restartSale_cardWait (hs : d.state = .cardWait) : s.restartSale i = s.setDispenser i d.idled := by
  simp only [State.restartSale, hd, hs]

theorem State.restartSale_cancels (hs : d.state = .holding ∨ d.state = .waitPump) :
    s.restartSale i = s.cancelSale true i := by
  rcases hs with hs | hs <;> simp only [State.restartSale, hd, hs]

theorem State.restartSale_settles (hs : d.state = .authorised ∨ d.state = .delivering) : s.restartSale i =
    (s.enterSettling true i ((d.sale.map (·.volume)).getD 0) true).writeOneShot d.address .stop := by
  rcases hs with hs | hs <;> simp only [State.restartSale, hd, hs]

theorem State.cancelSale_none {b : Bool} (hx : d.sale = none) : s.cancelSale b i = s := by
  simp only [State.cancelSale, hd, hx]

theorem State.enterSettling_none {b incomplete : Bool} (hx : d.sale = none) :
    s.enterSettling b i volume incomplete = s := by
  simp only [State.enterSettling, hd, hx]

variable (hx : d.sale = some x) (hf : s.fuel.fifo = [])
include hx hf

/-- A sale with no hold to release is dropped. -/
theorem State.restartSale_unheld (hs : d.state = .holding ∨ d.state = .waitPump) (h : x.hold = 0 ∨ x.account = none) :
    s.restartSale i = ((s.withdrawn i).setDispenser i d.idled).mark .sale 0 := by
  rw [State.restartSale_cancels hd hs, State.cancelSale_unheld hd hx h]
  exact State.grantPumps_empty ((s.withdrawn_salesEnd i).fifo hf)

/-- The RELEASE of a held amount is handed to OFFICE (02 R47). -/
theorem State.restartSale_held (hs : d.state = .holding ∨ d.state = .waitPump) {n : Nat} (hz : x.hold ≠ 0)
    (hn : x.account = some n) : s.restartSale i = (((s.withdrawn i).setDispenser i (d.cancelling x)).request true
      ⟨i, n, .release x.hold⟩).mark .sale 0 := by
  rw [State.restartSale_cancels hd hs, State.cancelSale_held hd hx hz hn]
  exact State.grantPumps_empty ((s.withdrawn_salesEnd i).fifo hf)

/-- A sale settled on its last volume, INCOMPLETE. -/
def Sale.cutShort (x : Sale) (amount : Nat) (capped : Bool) (ended : Option Clock) : Sale :=
  x.settled x.volume amount capped true ended

/-- A cash sale in delivery completes on its last volume, and a STOP is written. -/
theorem State.restartSale_cash (hs : d.state = .authorised ∨ d.state = .delivering) (hn : x.account = none) :
    let amount := fuelAmount x.volume x.price
    s.restartSale i = (((s.settleAt i x.volume amount d (x.cutShort amount false s.clockValue)).completeSale
      i).writeOneShot d.address .stop) := by
  intro amount
  have hsettled : s.enterSettling true i x.volume true =
      ((s.settleAt i x.volume amount d (x.cutShort amount false s.clockValue)).completeSale i).grantPumps := by
    simp [amount, State.enterSettling, hd, hx, hn, State.settleAt, State.lowerTank, Sale.cutShort, Sale.settled]
  have hfifo := ((State.settleAt_salesEnd (volume := x.volume) (amount := amount)
    (x := x.cutShort amount false s.clockValue) hd).trans
    (State.completeSale_salesEnd State.settleAt_dispenser rfl)).fifo hf
  rw [State.restartSale_settles hd hs, hx, Option.map_some, Option.getD_some, hsettled,
    State.grantPumps_empty hfifo]

/-- The SETTLE of an account sale in delivery is handed to OFFICE, and a STOP is written (02 R47). -/
theorem State.restartSale_account (hs : d.state = .authorised ∨ d.state = .delivering) {n : Nat}
    (hn : x.account = some n) :
    let full := fuelAmount x.volume x.price
    let y := x.cutShort (min full x.hold) (decide (x.hold < full)) s.clockValue
    s.restartSale i = ((s.settleAt i x.volume (min full x.hold) d y).request true
      ⟨i, n, .settle x.hold (min full x.hold)⟩).writeOneShot d.address .stop := by
  intro full y
  have hmin : (if x.hold < full then x.hold else full) = min full x.hold := by
    split <;> omega
  have hsettled : s.enterSettling true i x.volume true = ((s.settleAt i x.volume (min full x.hold) d y).request true
      ⟨i, n, .settle x.hold (min full x.hold)⟩).grantPumps := by
    simp only [State.enterSettling, hd, hx, hn, Option.isSome_some, Bool.true_and, decide_eq_true_eq, full, y, hmin]
    simp [State.settleAt, State.lowerTank, Sale.cutShort, Sale.settled, hn, full]
  have hfifo := ((State.settleAt_salesEnd (volume := x.volume) (amount := min full x.hold) (x := y) hd).trans
    (State.request_salesEnd true ⟨i, n, .settle x.hold (min full x.hold)⟩ _)).fifo hf
  rw [State.restartSale_settles hd hs, hx, Option.map_some, Option.getD_some, hsettled,
    State.grantPumps_empty hfifo]

end

end Sys2Proof.Machine
end

section
/-! SUPPORT. RESTART at the fuel unit as a whole: every sale resolved by its state, and what the run over the dispensers
leaves (06 R125, 02 R47). -/

namespace Sys2Proof.Machine

open Sys2Proof Sys2Proof.Claim

/-! ## One dispenser -/

/-- The sale a dispenser held is resolved: a card in wait is dropped; a sale before its delivery is cancelled, with the
RELEASE of its hold handed to OFFICE; one in delivery is settled INCOMPLETE on its last volume, with its SETTLE handed
to OFFICE (06 R125, 02 R47). -/
def State.SaleResolved (i : Nat) (d v : Dispenser) (s : State) : Prop :=
  (d.state = .cardWait → v.state = .idle ∧ v.card = none) ∧
  (∀ x, d.state = .holding ∨ d.state = .waitPump → d.sale = some x →
    (x.account = none ∨ x.hold = 0 → v.state = .idle ∧ v.sale = none) ∧
    (∀ n, x.account = some n → x.hold ≠ 0 → v.state = .cancelling ∧ v.sale = some x ∧
      .restartStep ⟨i, n, .release x.hold⟩ ∈ s.charge.office)) ∧
  (∀ x, d.state = .authorised ∨ d.state = .delivering → d.sale = some x →
    (x.account = none → v.state = .idle ∧
      ∃ y ∈ s.fuel.sales, y.dispenser = x.dispenser ∧ y.volume = x.volume ∧ y.incomplete = true) ∧
    (∀ n, x.account = some n → v.state = .settling ∧ ∃ y c, v.sale = some y ∧ y.volume = x.volume ∧
      y.incomplete = true ∧ y.amount = some c ∧ .restartStep ⟨i, n, .settle x.hold c⟩ ∈ s.charge.office))

section
variable {i j : Nat} {d v : Dispenser} {x : Sale} {s t : State}

/-- What is handed to OFFICE and what joins the sale list stays there. -/
theorem State.SaleResolved.mono (h : s.SaleResolved i d v) (ho : s.charge.office ⊆ t.charge.office)
    (hl : s.fuel.sales ⊆ t.fuel.sales) : t.SaleResolved i d v := by
  obtain ⟨hcard, hcancel, hsettle⟩ := h
  refine ⟨hcard, fun x hs hx => ⟨(hcancel x hs hx).1, fun n hn hz => ?_⟩, fun x hs hx => ⟨fun hn => ?_, fun n hn => ?_⟩⟩
  · obtain ⟨hstate, hsale, hop⟩ := (hcancel x hs hx).2 n hn hz
    exact ⟨hstate, hsale, ho hop⟩
  · obtain ⟨hstate, y, hy, hrest⟩ := (hsettle x hs hx).1 hn
    exact ⟨hstate, y, hl hy, hrest⟩
  · obtain ⟨hstate, y, c, hsale, hvolume, hincomplete, hamount, hop⟩ := (hsettle x hs hx).2 n hn
    exact ⟨hstate, y, c, hsale, hvolume, hincomplete, hamount, ho hop⟩

/-- What RESTART makes of a state for one dispenser, by the state and the sale of it. -/
inductive State.SaleRestarts (i : Nat) (d : Dispenser) (s : State) : State → Prop where
  | resting : d.state.resting → SaleRestarts i d s s
  | card : d.state = .cardWait → SaleRestarts i d s (s.setDispenser i d.idled)
  | unsold : d.sale = none → d.state = .holding ∨ d.state = .waitPump → SaleRestarts i d s s
  | unheld (x : Sale) : d.sale = some x → d.state = .holding ∨ d.state = .waitPump → x.hold = 0 ∨ x.account = none →
      SaleRestarts i d s (((s.withdrawn i).setDispenser i d.idled).mark .sale 0)
  | held (x : Sale) (n : Nat) : d.sale = some x → d.state = .holding ∨ d.state = .waitPump → x.hold ≠ 0 →
      x.account = some n → SaleRestarts i d s ((((s.withdrawn i).setDispenser i (d.cancelling x)).request true
        ⟨i, n, .release x.hold⟩).mark .sale 0)
  | stopped : d.sale = none → d.state = .authorised ∨ d.state = .delivering →
      SaleRestarts i d s (s.writeOneShot d.address .stop)
  | cash (x : Sale) : d.sale = some x → d.state = .authorised ∨ d.state = .delivering → x.account = none →
      SaleRestarts i d s (((s.settleAt i x.volume (fuelAmount x.volume x.price) d
        (x.cutShort (fuelAmount x.volume x.price) false s.clockValue)).completeSale i).writeOneShot d.address .stop)
  | account (x : Sale) (n c : Nat) (capped : Bool) : d.sale = some x → d.state = .authorised ∨ d.state = .delivering →
      x.account = some n → SaleRestarts i d s (((s.settleAt i x.volume c d
        (x.cutShort c capped s.clockValue)).request true ⟨i, n, .settle x.hold c⟩).writeOneShot d.address .stop)

theorem State.restartSale_restarts (hd : s.fuel.dispensers.get i = some d) (hf : s.fuel.fifo = []) :
    s.SaleRestarts i d (s.restartSale i) := by
  have hcancels (hs : d.state = .holding ∨ d.state = .waitPump) : s.SaleRestarts i d (s.restartSale i) := by
    cases hx : d.sale with
    | none => rw [State.restartSale_cancels hd hs, State.cancelSale_none hd hx]; exact .unsold hx hs
    | some x =>
      by_cases hz : x.hold = 0
      · rw [State.restartSale_unheld hd hx hf hs (.inl hz)]; exact .unheld x hx hs (.inl hz)
      · cases hn : x.account with
        | none => rw [State.restartSale_unheld hd hx hf hs (.inr hn)]; exact .unheld x hx hs (.inr hn)
        | some n => rw [State.restartSale_held hd hx hf hs hz hn]; exact .held x n hx hs hz hn
  have hsettles (hs : d.state = .authorised ∨ d.state = .delivering) : s.SaleRestarts i d (s.restartSale i) := by
    cases hx : d.sale with
    | none => rw [State.restartSale_settles hd hs, State.enterSettling_none hd hx]; exact .stopped hx hs
    | some x =>
      cases hn : x.account with
      | none => rw [State.restartSale_cash hd hx hf hs hn]; exact .cash x hx hs hn
      | some n => rw [State.restartSale_account hd hx hf hs hn]; exact .account x n _ _ hx hs hn
  have hrests (hs : d.state.resting) : s.SaleRestarts i d (s.restartSale i) := by
    rw [State.restartSale_resting hd hs]
    exact .resting hs
  cases hs : d.state with
  | cardWait => rw [State.restartSale_cardWait hd hs]; exact .card hs
  | idle => exact hrests (.inl hs)
  | settling => exact hrests (.inr (.inl hs))
  | cancelling => exact hrests (.inr (.inr hs))
  | holding => exact hcancels (.inl hs)
  | waitPump => exact hcancels (.inr hs)
  | authorised => exact hsettles (.inl hs)
  | delivering => exact hsettles (.inr hs)

/-- A sale off the FIFO, its dispenser written. -/
theorem State.withdrawn_setDispenser_salesEnd (hd : s.fuel.dispensers.get i = some d) (hv : v.lasting = d.lasting) :
    s.SalesEnd ((s.withdrawn i).setDispenser i v) := by
  refine (s.withdrawn_salesEnd i).trans (State.setDispenser_salesEnd ?_ hv)
  rw [State.withdrawn_eq]
  exact hd

theorem State.SaleRestarts.salesEnd (h : s.SaleRestarts i d t) (hd : s.fuel.dispensers.get i = some d) :
    s.SalesEnd t := by
  cases h with
  | resting | unsold => exact .refl s
  | card => exact State.setDispenser_salesEnd hd rfl
  | unheld =>
    exact (State.withdrawn_setDispenser_salesEnd (v := d.idled) hd rfl).trans (State.salesEnd_of_eq rfl rfl rfl rfl)
  | held x =>
    exact ((State.withdrawn_setDispenser_salesEnd (v := d.cancelling x) hd rfl).trans
      (State.request_salesEnd _ _ _)).trans (State.salesEnd_of_eq rfl rfl rfl rfl)
  | stopped => exact State.writeOneShot_salesEnd _ _ _
  | cash =>
    exact ((State.settleAt_salesEnd hd).trans (State.completeSale_salesEnd State.settleAt_dispenser rfl)).trans
      (State.writeOneShot_salesEnd _ _ _)
  | account =>
    exact ((State.settleAt_salesEnd hd).trans (State.request_salesEnd _ _ _)).trans (State.writeOneShot_salesEnd _ _ _)

/-- Of the dispensers one alone is written. -/
theorem State.SaleRestarts.others (h : s.SaleRestarts i d t) (hj : j ≠ i) :
    t.fuel.dispensers.get j = s.fuel.dispensers.get j := by
  have hset (s : State) (v : Dispenser) : (s.fuel.dispensers.set i v).get j = s.fuel.dispensers.get j :=
    Table.get_set_ne _ _ hj
  have hwithdrawn : (s.withdrawn i).fuel.dispensers = s.fuel.dispensers := by rw [State.withdrawn_eq]
  have hsettled (volume amount : Nat) (x : Sale) :
      (s.settleAt i volume amount d x).fuel.dispensers.get j = s.fuel.dispensers.get j := by
    rw [State.settleAt_fuel]
    exact hset s _
  cases h with
  | resting | unsold | stopped => rfl
  | card => exact hset s _
  | unheld => exact (hset _ _).trans (congrArg (·.get j) hwithdrawn)
  | held => exact (hset _ _).trans (congrArg (·.get j) hwithdrawn)
  | cash x =>
    refine Eq.trans ?_ (hsettled x.volume (fuelAmount x.volume x.price) (x.cutShort (fuelAmount x.volume x.price) false
      s.clockValue))
    refine (congrArg (·.dispensers.get j) (State.completeSale_fuel State.settleAt_dispenser rfl)).trans ?_
    exact hset _ _
  | account x n c capped => exact hsettled x.volume c (x.cutShort c capped s.clockValue)

theorem State.restartSale_salesEnd (i : Nat) (hf : s.fuel.fifo = []) : s.SalesEnd (s.restartSale i) := by
  cases hd : s.fuel.dispensers.get i with
  | none => simp only [State.restartSale, hd]; exact .refl s
  | some d => exact (State.restartSale_restarts hd hf).salesEnd hd

theorem State.restartSale_get_ne (hf : s.fuel.fifo = []) (hj : j ≠ i) :
    (s.restartSale i).fuel.dispensers.get j = s.fuel.dispensers.get j := by
  cases hd : s.fuel.dispensers.get i with
  | none => simp only [State.restartSale, hd]
  | some d => exact (State.restartSale_restarts hd hf).others hj

theorem State.SaleResolved.of_resting (hs : d.state.resting) : s.SaleResolved i d v := by
  rcases hs with hs | hs | hs <;>
    refine ⟨fun h => ?_, fun _ h _ => ?_, fun _ h _ => ?_⟩ <;> simp [hs] at h

theorem State.SaleResolved.of_cancels (hs : d.state = .holding ∨ d.state = .waitPump) (hx : d.sale = some x)
    (hunheld : x.account = none ∨ x.hold = 0 → v.state = .idle ∧ v.sale = none)
    (hheld : ∀ n, x.account = some n → x.hold ≠ 0 → v.state = .cancelling ∧ v.sale = some x ∧
      .restartStep ⟨i, n, .release x.hold⟩ ∈ s.charge.office) : s.SaleResolved i d v := by
  refine ⟨fun h => ?_, fun y _ hy => ?_, fun _ h _ => ?_⟩
  · rcases hs with hs | hs <;> cases hs.symm.trans h
  · cases hx.symm.trans hy
    exact ⟨hunheld, hheld⟩
  · rcases hs with hs | hs <;> simp [hs] at h

theorem State.SaleResolved.of_settles (hs : d.state = .authorised ∨ d.state = .delivering) (hx : d.sale = some x)
    (hcash : x.account = none → v.state = .idle ∧
      ∃ y ∈ s.fuel.sales, y.dispenser = x.dispenser ∧ y.volume = x.volume ∧ y.incomplete = true)
    (haccount : ∀ n, x.account = some n → v.state = .settling ∧ ∃ y c, v.sale = some y ∧ y.volume = x.volume ∧
      y.incomplete = true ∧ y.amount = some c ∧ .restartStep ⟨i, n, .settle x.hold c⟩ ∈ s.charge.office) :
    s.SaleResolved i d v := by
  refine ⟨fun h => ?_, fun _ h _ => ?_, fun y _ hy => ?_⟩
  · rcases hs with hs | hs <;> cases hs.symm.trans h
  · rcases hs with hs | hs <;> simp [hs] at h
  · cases hx.symm.trans hy
    exact ⟨hcash, haccount⟩

/-- The sale of a dispenser that holds one is resolved, and the dispenser rests. -/
theorem State.SaleRestarts.resolved (h : s.SaleRestarts i d t) (hd : s.fuel.dispensers.get i = some d)
    (hr : d.sale ≠ none ∨ d.state = .cardWait ∨ d.state.resting) :
    ∃ v, t.fuel.dispensers.get i = some v ∧ v.state.resting ∧ t.SaleResolved i d v := by
  have hset (s : State) (v : Dispenser) : (s.fuel.dispensers.set i v).get i = some v := Table.get_set_self _ _ _
  cases h with
  | resting hs => exact ⟨d, hd, hs, .of_resting hs⟩
  | card hs =>
    refine ⟨d.idled, hset s _, .inl rfl, fun _ => ⟨rfl, rfl⟩, fun x h _ => ?_, fun x h _ => ?_⟩ <;> simp [hs] at h
  | unsold hx hs => rcases hs with hs | hs <;> simp [hx, hs, SaleState.resting] at hr
  | stopped hx hs => rcases hs with hs | hs <;> simp [hx, hs, SaleState.resting] at hr
  | unheld x hx hs hz =>
    exact ⟨d.idled, hset (s.withdrawn i) _, .inl rfl, .of_cancels hs hx (fun _ => ⟨rfl, rfl⟩)
      fun n hn hhold => absurd hz (by simp [hn, hhold])⟩
  | held x n hx hs hz hn =>
    refine ⟨d.cancelling x, hset (s.withdrawn i) _, .inr (.inr rfl), .of_cancels hs hx (fun h => ?_) fun m hm _ => ?_⟩
    · simp [hn, hz] at h
    · cases hn.symm.trans hm
      exact ⟨rfl, rfl, List.mem_append_right _ (List.mem_singleton_self _)⟩
  | cash x hx hs hn =>
    have hfuel := State.completeSale_settleAt_fuel i x.volume (fuelAmount x.volume x.price) d
      (x.cutShort (fuelAmount x.volume x.price) false s.clockValue) s
    refine ⟨d.idled, ?_, .inl rfl, .of_settles hs hx (fun _ => ⟨rfl, ?_⟩) fun m hm => ?_⟩
    · exact (congrArg (·.dispensers.get i) hfuel).trans (hset _ _)
    · have hsales := congrArg FuelUnit.sales hfuel
      refine ⟨{ x.cutShort (fuelAmount x.volume x.price) false s.clockValue with
        number := some (s.fuel.counter + 1), hold := 0 }, ?_, rfl, rfl, Bool.or_true x.incomplete⟩
      exact hsales.symm ▸ List.mem_append_right _ (List.mem_singleton_self _)
    · cases hn.symm.trans hm
  | account x n c capped hx hs hn =>
    refine ⟨_, State.settleAt_dispenser (amount := c), .inr (.inl rfl), .of_settles hs hx (fun h => ?_) fun m hm => ?_⟩
    · cases hn.symm.trans h
    · cases hn.symm.trans hm
      exact ⟨rfl, _, c, rfl, rfl, Bool.or_true x.incomplete, rfl,
        List.mem_append_right _ (List.mem_singleton_self _)⟩

end

end Sys2Proof.Machine
end

section
/-! SUPPORT. RESTART at the fuel unit: the sales of all dispensers resolved, in the order of the table (06 R125). -/

namespace Sys2Proof.Machine

open Sys2Proof Sys2Proof.Claim

/-! ## Where nothing is delivered -/

/-- No dispenser is authorised or delivers. -/
def State.NoDelivery (s : State) : Prop :=
  ∀ i d, s.fuel.dispensers.get i = some d → d.state ≠ .authorised ∧ d.state ≠ .delivering

/-- No tank, sale list or tally has changed. -/
structure State.NothingSold (s t : State) : Prop where
  tank0 : t.fuel.tank0 = s.fuel.tank0
  tank1 : t.fuel.tank1 = s.fuel.tank1
  sales : t.fuel.sales = s.fuel.sales
  counter : t.fuel.counter = s.fuel.counter
  live : t.tally.live = s.tally.live

section
variable {i : Nat} {d : Dispenser} {s t u : State}

theorem State.NothingSold.refl (s : State) : s.NothingSold s := ⟨rfl, rfl, rfl, rfl, rfl⟩

theorem State.NothingSold.trans (h : s.NothingSold t) (k : t.NothingSold u) : s.NothingSold u :=
  ⟨k.tank0.trans h.tank0, k.tank1.trans h.tank1, k.sales.trans h.sales, k.counter.trans h.counter, k.live.trans h.live⟩

/-- A dispenser that does not deliver sells nothing, and does not deliver afterwards. -/
theorem State.SaleRestarts.nothingSold (h : s.SaleRestarts i d t) (hd : s.fuel.dispensers.get i = some d)
    (hn : d.state ≠ .authorised ∧ d.state ≠ .delivering) :
    s.NothingSold t ∧ ∃ v, t.fuel.dispensers.get i = some v ∧ v.state ≠ .authorised ∧ v.state ≠ .delivering := by
  have hset (s : State) (v : Dispenser) : (s.fuel.dispensers.set i v).get i = some v := Table.get_set_self _ _ _
  have hwithdrawn : s.NothingSold (s.withdrawn i) := by
    rw [State.withdrawn_eq]
    exact ⟨rfl, rfl, rfl, rfl, rfl⟩
  have hstill (hs : d.state = .authorised ∨ d.state = .delivering) : False := hs.elim hn.1 hn.2
  cases h with
  | resting | unsold => exact ⟨.refl s, d, hd, hn⟩
  | card => exact ⟨⟨rfl, rfl, rfl, rfl, rfl⟩, d.idled, hset s _, SaleState.noConfusion, SaleState.noConfusion⟩
  | unheld =>
    exact ⟨hwithdrawn.trans ⟨rfl, rfl, rfl, rfl, rfl⟩, d.idled, hset _ _, SaleState.noConfusion, SaleState.noConfusion⟩
  | held x =>
    exact ⟨hwithdrawn.trans ⟨rfl, rfl, rfl, rfl, rfl⟩, d.cancelling x, hset _ _, SaleState.noConfusion,
      SaleState.noConfusion⟩
  | stopped _ hs | cash _ _ hs | account _ _ _ _ _ hs => exact (hstill hs).elim

theorem State.restartSale_nothingSold (i : Nat) (hf : s.fuel.fifo = []) (hn : s.NoDelivery) :
    s.NothingSold (s.restartSale i) ∧ (s.restartSale i).NoDelivery := by
  cases hd : s.fuel.dispensers.get i with
  | none =>
    have h : s.restartSale i = s := by simp only [State.restartSale, hd]
    rw [h]
    exact ⟨.refl s, hn⟩
  | some d =>
    obtain ⟨hsold, v, hv, hrests⟩ := (State.restartSale_restarts hd hf).nothingSold hd (hn i d hd)
    refine ⟨hsold, fun j e he => ?_⟩
    by_cases hj : j = i
    · subst hj
      cases hv.symm.trans he
      exact hrests
    · exact hn j e ((State.restartSale_get_ne hf hj).symm.trans he)

end

/-! ## The run over the dispensers -/

/-- No sale waits for a pump. -/
def State.fifoEmptied (s : State) : State := { s with fuel := { s.fuel with fifo := [] } }

/-- The sales of all dispensers resolved, the FIFO emptied before. -/
def State.salesResolved (s : State) : State :=
  s.fuel.dispensers.keys.foldl (fun t i => t.restartSale i) s.fifoEmptied

theorem State.restartFuel_eq (s : State) : s.restartFuel = State.mark .sale 0 { s.salesResolved with
    fuel := { s.salesResolved.fuel with
      dispensers := s.salesResolved.fuel.dispensers.map fun p => (p.1, p.2.restarted) } } := rfl

section
variable {i j : Nat} {d : Dispenser} {s : State}

theorem State.foldl_restartSale_salesEnd (l : List Nat) (hf : s.fuel.fifo = []) :
    s.SalesEnd (l.foldl (fun t i => t.restartSale i) s) := by
  induction l generalizing s with
  | nil => exact .refl s
  | cons i l ih =>
    have hstep := State.restartSale_salesEnd i hf
    exact hstep.trans (ih (hstep.fifo hf))

theorem State.foldl_restartSale_nothingSold (l : List Nat) (hf : s.fuel.fifo = []) (hn : s.NoDelivery) :
    s.NothingSold (l.foldl (fun t i => t.restartSale i) s) := by
  induction l generalizing s with
  | nil => exact .refl s
  | cons i l ih =>
    obtain ⟨hsold, hrests⟩ := State.restartSale_nothingSold i hf hn
    exact hsold.trans (ih ((State.restartSale_salesEnd i hf).fifo hf) hrests)

theorem State.salesResolved_fifo (s : State) : s.salesResolved.fuel.fifo = [] :=
  (State.foldl_restartSale_salesEnd _ rfl).fifo rfl

theorem State.salesResolved_salesEnd (s : State) : s.SalesEnd s.salesResolved :=
  { State.foldl_restartSale_salesEnd s.fuel.dispensers.keys (s := s.fifoEmptied) rfl with
    fifo := fun _ => s.salesResolved_fifo }

theorem State.salesResolved_nothingSold (hn : s.NoDelivery) : s.NothingSold s.salesResolved :=
  State.NothingSold.trans (t := s.fifoEmptied) ⟨rfl, rfl, rfl, rfl, rfl⟩
    (State.foldl_restartSale_nothingSold _ rfl hn)

/-- A dispenser whose sale is resolved, and which rests. -/
def State.SaleOver (i : Nat) (d : Dispenser) (s : State) : Prop :=
  ∃ v, s.fuel.dispensers.get i = some v ∧ v.state.resting ∧ s.SaleResolved i d v

theorem State.SaleOver.restartSale (h : s.SaleOver i d) (hf : s.fuel.fifo = []) (j : Nat) :
    (s.restartSale j).SaleOver i d := by
  obtain ⟨v, hv, hrests, hresolved⟩ := h
  have hends := State.restartSale_salesEnd j hf
  refine ⟨v, ?_, hrests, hresolved.mono hends.office hends.sales⟩
  by_cases hi : i = j
  · subst hi
    rwa [State.restartSale_resting hv hrests]
  · rwa [State.restartSale_get_ne hf hi]

/-- During the run a dispenser is as it was, or its sale is over; no sale waits for a pump. -/
def State.SalePasses (i : Nat) (d : Dispenser) (s : State) : Prop :=
  s.fuel.fifo = [] ∧ (s.fuel.dispensers.get i = some d ∨ s.SaleOver i d)

theorem State.SaleResolved.of_no_sale {v : Dispenser} (hx : d.sale = none) (hs : d.state ≠ .cardWait) :
    s.SaleResolved i d v :=
  ⟨fun h => absurd h hs, fun x _ h => by simp [hx] at h, fun x _ h => by simp [hx] at h⟩

/-- The sale of every dispenser is resolved, however often its key stands in the table. -/
theorem State.salesResolved_get (hd : s.fuel.dispensers.get i = some d) :
    ∃ v, s.salesResolved.fuel.dispensers.get i = some v ∧ s.salesResolved.SaleResolved i d v := by
  by_cases hr : d.sale ≠ none ∨ d.state = .cardWait ∨ d.state.resting
  · have hover : s.salesResolved.SaleOver i d := by
      refine foldl_of_mem (Inv := State.SalePasses i d)
        (fun u j ⟨hf, h⟩ => ⟨(State.restartSale_salesEnd j hf).fifo hf, ?_⟩)
        (fun u j ⟨hf, _⟩ hover => hover.restartSale hf j) (fun u ⟨hf, h⟩ => ?_)
        (Table.mem_keys_of_get hd) ⟨rfl, .inl hd⟩
      · rcases h with h | h
        · by_cases hj : i = j
          · subst hj
            exact .inr ((State.restartSale_restarts h hf).resolved h hr)
          · exact .inl ((State.restartSale_get_ne hf hj).trans h)
        · exact .inr (h.restartSale hf j)
      · exact h.elim (fun h => (State.restartSale_restarts h hf).resolved h hr) fun h => h.restartSale hf i
    obtain ⟨v, hv, -, hresolved⟩ := hover
    exact ⟨v, hv, hresolved⟩
  · obtain ⟨v, hv, -⟩ := s.salesResolved_salesEnd.dispensers.present i d hd
    push Not at hr
    exact ⟨v, hv, .of_no_sale hr.1 hr.2.1⟩

/-! ## The fuel unit -/

/-- What RESTART keeps of a dispenser. -/
def dispenserKept (d e : Dispenser) : Prop :=
  e.address = d.address ∧ e.hose0 = d.hose0 ∧ e.hose1 = d.hose1 ∧ e.total0 = d.total0 ∧ e.total1 = d.total1 ∧
    e.nozzle = .unknown ∧ e.volume = 0 ∧ e.nozzleEnd = none

theorem Dispenser.restarted_kept {e : Dispenser} (h : e.lasting = d.lasting) : dispenserKept d e.restarted := by
  simp only [Dispenser.lasting, Prod.mk.injEq] at h
  obtain ⟨haddress, hhose0, hhose1, htotal0, htotal1⟩ := h
  exact ⟨haddress, hhose0, hhose1, htotal0, htotal1, rfl, rfl, rfl⟩

theorem State.restartFuel_salesEnd (s : State) : s.SalesEnd s.restartFuel :=
  { s.salesResolved_salesEnd with
    dispensers := s.salesResolved_salesEnd.dispensers.trans (.map (f := Dispenser.restarted) (fun _ => rfl) _) }

theorem State.restartFuel_fifo (s : State) : s.restartFuel.fuel.fifo = [] := s.salesResolved_fifo

theorem State.restartFuel_kept (s : State) :
    keptTable dispenserKept s.fuel.dispensers s.restartFuel.fuel.dispensers :=
  s.salesResolved_salesEnd.dispensers.keptTable_map fun _ _ h => Dispenser.restarted_kept h

theorem State.restartFuel_get (hd : s.fuel.dispensers.get i = some d) :
    ∃ v, s.restartFuel.fuel.dispensers.get i = some v ∧ s.restartFuel.SaleResolved i d v := by
  obtain ⟨v, hv, hresolved⟩ := State.salesResolved_get hd
  have hmap := Table.get_map s.salesResolved.fuel.dispensers (fun _ => Dispenser.restarted) i
  exact ⟨v.restarted, hmap.trans (congrArg _ hv), hresolved⟩

theorem State.restartFuel_nothingSold (hn : s.NoDelivery) : s.NothingSold s.restartFuel := by
  obtain ⟨htank0, htank1, hsales, hcounter, hlive⟩ := State.salesResolved_nothingSold hn
  exact ⟨htank0, htank1, hsales, hcounter, hlive⟩

end

end Sys2Proof.Machine
end

section
/-! SUPPORT. RESTART as a whole: what its steps write, and what each leaves of the state before it (10 R181). -/

namespace Sys2Proof.Machine

open Sys2Proof Sys2Proof.Claim

/-! ## The gate unit, the freeze, the reports and the images -/

section
variable {s : State}

/-- The removal of queries changes the pending queries and the report sources. -/
theorem State.foldl_dropQuery_eq (l : List Query) (s : State) :
    l.foldl (fun t q => t.dropQuery q.requester) s = { s with
    gate := { s.gate with queries := (l.foldl (fun t q => t.dropQuery q.requester) s).gate.queries }
    trunk := { s.trunk with sources := (l.foldl (fun t q => t.dropQuery q.requester) s).trunk.sources } } := by
  refine List.foldlRecOn (motive := fun t : State => t = { s with
    gate := { s.gate with queries := t.gate.queries }, trunk := { s.trunk with sources := t.trunk.sources } })
    l _ rfl fun t ht q _ => ?_
  rw [State.dropQuery_eq, ht]

/-- With every pending query removed no query is pending. -/
theorem State.foldl_dropQuery_queries (s : State) :
    (s.gate.queries.foldl (fun t q => t.dropQuery q.requester) s).gate.queries = [] := by
  rw [(State.foldl_resolves (fun u q => .dropQuery q u) s.gate.queries s).queries, List.filter_eq_nil_iff]
  exact fun q hq => by simpa using ⟨q, hq, rfl⟩

/-- The gate unit at RESTART: no query is pending, and every reader restarts. -/
theorem State.restartGate_eq (s : State) : s.restartGate = { s with
    gate := { s.gate with queries := [], readers := s.gate.readers.map fun p => (p.1, p.2.restarted) }
    trunk := { s.trunk with sources := s.restartGate.trunk.sources } } := by
  have hdropped := State.foldl_dropQuery_eq s.gate.queries s
  rw [State.foldl_dropQuery_queries] at hdropped
  unfold State.restartGate
  rw [hdropped]

/-- The end of a freeze: none is held, and its cause is the last. -/
theorem State.endFreeze_eq (c : FreezeEnd) (s : State) : s.endFreeze c = { s with
    tally := { s.tally with freeze := none, lastEnd := (s.endFreeze c).tally.lastEnd }
    trunk := { s.trunk with sources := (s.endFreeze c).trunk.sources } } := by
  unfold State.endFreeze
  split
  · next h => rw [← h]
  · rfl

/-- The images of devices written anew change the devices. -/
theorem State.foldl_writeImage_eq (l : List Nat) (s : State) : l.foldl (fun t a => t.writeImage a) s = { s with
    bus := { s.bus with devices := (l.foldl (fun t a => t.writeImage a) s).bus.devices } } := by
  refine List.foldlRecOn (motive := fun t : State => t = { s with bus := { s.bus with devices := t.bus.devices } })
    l _ rfl fun t ht a _ => ?_
  rw [State.writeImage, State.modDevice, ht]

/-- The steps of RESTART after those of the bus and of the fuel unit: the outlets, the taps, the gate unit, the freeze,
the berths and the reports. -/
def State.restEnded (u : State) : State :=
  (u.restartOutlets.restartTaps.restartGate.endFreeze .restart).restartBerths.restartTrunk

/-- What the steps after the fuel unit's write. -/
theorem State.restEnded_eq (u : State) : u.restEnded = { u with
    berth := { u.berth with berths := u.berth.berths.map fun p => (p.1, { p.2 with reason := BerthReason.restarted }) }
    charge := { u.charge with
      power := u.sessionsEnded.charge.power
      water := (u.restartOutlets.closeAllTaps .restart).charge.water }
    outlet := { u.outlet with
      outlets := u.sessionsEnded.outlet.outlets.map fun p => (p.1, p.2.restarted)
      feeders := u.outlet.feeders.map fun p => (p.1, p.2.restarted)
      queue := [], serviceHold := u.mgmt.config.holdAtStart }
    tap := { u.tap with taps := (u.restartOutlets.closeAllTaps .restart).tap.taps.map fun p => (p.1, p.2.restarted) }
    gate := { u.gate with
      queries := [], readers := u.gate.readers.map fun p => (p.1, p.2.restarted), copied := u.restEnded.gate.copied }
    bus := { u.bus with devices := (u.restartOutlets.closeAllTaps .restart).bus.devices }
    trunk := { u.trunk with
      own := u.trunk.own.filter fun e => !e.frame.isReport, sources := u.restEnded.trunk.sources }
    tally := { u.tally with freeze := none, lastEnd := u.restEnded.tally.lastEnd } } := by
  have houtlets := u.restartOutlets_eq
  have htaps := u.restartOutlets.restartTaps_eq
  have hgate := u.restartOutlets.restartTaps.restartGate_eq
  have hfreeze := u.restartOutlets.restartTaps.restartGate.endFreeze_eq .restart
  unfold State.restEnded
  generalize u.sessionsEnded = e at *
  generalize u.restartOutlets = o at *
  generalize o.closeAllTaps .restart = c at *
  generalize o.restartTaps = w at *
  generalize w.restartGate = g at *
  generalize g.endFreeze .restart = f at *
  generalize g.trunk.sources = k at hgate
  generalize f.trunk.sources = l, f.tally.lastEnd = n at hfreeze
  subst hfreeze hgate htaps houtlets
  rfl

theorem State.restarted_eq_foldl (s : State) : s.restarted =
    s.restartBus.restartFuel.restEnded.bus.devices.keys.foldl (fun t a => t.writeImage a)
      s.restartBus.restartFuel.restEnded := rfl

/-- What RESTART writes after the fuel unit's step, with the conditions passed on. -/
theorem State.restarted_eq (s : State) :
    let u := s.restartBus.restartFuel
    let t := s.restarted.refreshAlarm
    t = { u with
      berth := { u.berth with
        berths := u.berth.berths.map fun p => (p.1, { p.2 with reason := BerthReason.restarted }) }
      charge := { u.charge with
        power := u.sessionsEnded.charge.power
        water := (u.restartOutlets.closeAllTaps .restart).charge.water }
      outlet := { u.outlet with
        outlets := u.sessionsEnded.outlet.outlets.map fun p => (p.1, p.2.restarted)
        feeders := u.outlet.feeders.map fun p => (p.1, p.2.restarted)
        queue := [], serviceHold := u.mgmt.config.holdAtStart, raw := t.outlet.raw }
      tap := { u.tap with taps := (u.restartOutlets.closeAllTaps .restart).tap.taps.map fun p => (p.1, p.2.restarted) }
      gate := { u.gate with
        queries := [], readers := u.gate.readers.map fun p => (p.1, p.2.restarted), copied := t.gate.copied }
      bus := { u.bus with devices := t.bus.devices }
      trunk := { u.trunk with own := u.trunk.own.filter fun e => !e.frame.isReport, sources := t.trunk.sources }
      tally := { u.tally with freeze := none, lastEnd := t.tally.lastEnd } } := by
  intro u t
  have hrest := u.restEnded_eq
  have hfold := State.foldl_writeImage_eq u.restEnded.bus.devices.keys u.restEnded
  rw [← State.restarted_eq_foldl s] at hfold
  have halarm : t = _ := s.restarted.refreshAlarm_eq
  clear_value t u
  generalize s.restarted = x at *
  generalize u.restEnded = y at *
  generalize x.bus.devices = devices at hfold
  generalize y.trunk.sources = sources, y.tally.lastEnd = cause, y.gate.copied = copied at hrest
  generalize x.refreshAlarm.trunk.sources = marked at halarm
  subst halarm hfold hrest
  rfl

/-! ## The devices and the report sources -/

/-- The restarted part has the devices the steps before the images leave, given their images. -/
theorem State.restarted_devices (s : State) : Reworked Device.lasting s.restartBus.restartFuel.bus.devices
    s.restarted.refreshAlarm.bus.devices := by
  have houtlets : s.restartBus.restartFuel.restartOutlets.bus = s.restartBus.restartFuel.bus := by
    rw [State.restartOutlets_eq]
  have hclosed := s.restartBus.restartFuel.restartOutlets.closeAllTaps_devices .restart
  have hrest : s.restartBus.restartFuel.restEnded.bus.devices =
      (s.restartBus.restartFuel.restartOutlets.closeAllTaps .restart).bus.devices := by rw [State.restEnded_eq]
  have himages := Reworked.foldl (table := fun t : State => t.bus.devices) (fun t a => t.writeImage_devices a)
    s.restartBus.restartFuel.restEnded.bus.devices.keys s.restartBus.restartFuel.restEnded
  rw [← State.restarted_eq_foldl] at himages
  rw [State.refreshAlarm_eq]
  rw [houtlets, ← hrest] at hclosed
  exact hclosed.trans himages

/-- A report source restarted: marked, without image, its period timer started anew. -/
def SourceRecord.RestartedWith (timer : Option Nat) (r : SourceRecord) : Prop :=
  r.mark = true ∧ r.image = none ∧ r.timerEnd = timer

theorem State.restartTrunk_source {k : Nat} {r : SourceRecord} (h : s.restartTrunk.trunk.sources.get k = some r) :
    r.RestartedWith (s.restartTrunk.freshTimer (sourceOfKey k).cls) := by
  have hmap := Table.get_map s.trunk.sources (fun k => s.dropReports.sourceRestart (sourceOfKey k)) k
  obtain ⟨x, -, rfl⟩ := Option.map_eq_some_iff.1 (hmap.symm.trans h)
  exact ⟨rfl, rfl, rfl⟩

/-- The passing on of the conditions leaves a source restarted. -/
theorem State.refreshAlarm_source {k : Nat} {r : SourceRecord} {timer : Option Nat}
    (h : ∀ x, s.trunk.sources.get k = some x → x.RestartedWith timer)
    (hr : s.refreshAlarm.trunk.sources.get k = some r) : r.RestartedWith timer := by
  unfold State.refreshAlarm at hr
  split at hr
  · exact h r hr
  · have hget := Table.get_modify s.trunk.sources (sourceKey ⟨.alarm, 0⟩) k (SourceRecord.marked s.now)
    replace hr := hget.symm.trans hr
    split at hr
    · next hk =>
      obtain ⟨x, hx, rfl⟩ := Option.map_eq_some_iff.1 hr
      obtain ⟨-, himage, htimer⟩ := h x (hk ▸ hx)
      exact ⟨rfl, himage, htimer⟩
    · exact h r hr

theorem State.restEnded_source {u : State} {k : Nat} {r : SourceRecord}
    (h : u.restEnded.trunk.sources.get k = some r) : r.RestartedWith (u.freshTimer (sourceOfKey k).cls) := by
  have htimer (c : ReportClass) : u.restEnded.freshTimer c = u.freshTimer c := by
    rw [State.restEnded_eq]
    rfl
  rw [← htimer]
  exact State.restartTrunk_source h

/-- Every report source of the restarted part. -/
theorem State.restarted_source {k : Nat} {r : SourceRecord}
    (h : s.restarted.refreshAlarm.trunk.sources.get k = some r) :
    r.RestartedWith (s.restartBus.restartFuel.freshTimer (sourceOfKey k).cls) := by
  have hfold := State.foldl_writeImage_eq s.restartBus.restartFuel.restEnded.bus.devices.keys
    s.restartBus.restartFuel.restEnded
  rw [← State.restarted_eq_foldl] at hfold
  refine State.refreshAlarm_source (fun x hx => State.restEnded_source ?_) h
  rwa [hfold] at hx

end

end Sys2Proof.Machine
end

section
/-! SUPPORT. RESTART ends sessions, sales, queries and reports, keeps the tables field by field, and is refused BUSY
while steps of an earlier one wait (10 R180, R181). -/

namespace Sys2Proof.Machine

open Sys2Proof Sys2Proof.Claim

/-! ## The units of a restarted part -/

section
variable {i : Nat} {s : State}

theorem State.restartBus_spares (s : State) : s.restartBus.Spares s.restartBus.restartFuel :=
  State.restartFuel_spares (.refl _)

theorem State.restartFuel_config (s : State) : s.restartBus.restartFuel.mgmt.config = s.mgmt.config := by
  rw [s.restartBus_spares.mgmt]
  rfl

theorem State.restarted_fuel (s : State) : s.restarted.refreshAlarm.fuel = s.restartBus.restartFuel.fuel := by
  rw [s.restarted_eq]

theorem State.restarted_office (s : State) :
    s.restarted.refreshAlarm.charge.office = s.restartBus.restartFuel.charge.office := by
  rw [s.restarted_eq]

theorem State.restarted_mgmt (s : State) :
    s.restarted.refreshAlarm.mgmt = { s.mgmt with work := s.restarted.refreshAlarm.mgmt.work } := by
  have h : s.restarted.refreshAlarm.mgmt = s.restartBus.restartFuel.mgmt := by rw [s.restarted_eq]
  rw [h]
  exact s.restartBus_spares.mgmt

theorem State.restarted_berth (s : State) : s.restarted.refreshAlarm.berth = { s.berth with
    berths := s.berth.berths.map fun p => (p.1, { p.2 with reason := BerthReason.restarted }) } := by
  have h : s.restartBus.restartFuel.berth = s.berth := s.restartBus_spares.berth
  rw [s.restarted_eq, h]

theorem State.restarted_outlet (s : State) : s.restarted.refreshAlarm.outlet = { s.outlet with
    outlets := s.restartBus.restartFuel.sessionsEnded.outlet.outlets.map fun p => (p.1, p.2.restarted)
    feeders := s.outlet.feeders.map fun p => (p.1, p.2.restarted)
    queue := [], serviceHold := s.mgmt.config.holdAtStart, raw := s.restarted.refreshAlarm.outlet.raw } := by
  have houtlet : s.restartBus.restartFuel.outlet = s.outlet := s.restartBus_spares.outlet
  rw [s.restarted_eq, s.restartFuel_config, houtlet]

theorem State.restarted_gate (s : State) : s.restarted.refreshAlarm.gate = { s.gate with
    queries := [], readers := s.gate.readers.map fun p => (p.1, p.2.restarted)
    copied := s.restarted.refreshAlarm.gate.copied } := by
  have h : s.restartBus.restartFuel.gate = s.gate := s.restartBus_spares.gate
  rw [s.restarted_eq, h]

theorem State.restarted_tally (s : State) : s.restarted.refreshAlarm.tally = { s.tally with
    live := s.restartBus.restartFuel.tally.live, freeze := none
    lastEnd := s.restarted.refreshAlarm.tally.lastEnd } := by
  have h : s.restartBus.restartFuel.tally = { s.tally with live := s.restartBus.restartFuel.tally.live } :=
    s.restartBus_spares.tally
  rw [s.restarted_eq]
  dsimp only
  rw [h]

theorem State.restarted_trunk (s : State) : s.restarted.refreshAlarm.trunk = { s.trunk with
    own := s.restartBus.restartFuel.trunk.own.filter fun e => !e.frame.isReport
    sources := s.restarted.refreshAlarm.trunk.sources } := by
  have h := s.restartBus_spares.trunk
  rw [s.restarted_eq]
  dsimp only
  rw [h]
  rfl

/-- The accounts, the tariff and the last granted outlet are as they were. -/
theorem State.restarted_charge (s : State) : s.restarted.refreshAlarm.charge.accounts = s.charge.accounts ∧
    s.restarted.refreshAlarm.charge.tariff = s.charge.tariff ∧
    s.restarted.refreshAlarm.charge.lastGranted = s.charge.lastGranted := by
  rw [s.restarted_eq]
  exact ⟨s.restartBus_spares.accounts, s.restartBus_spares.tariff, s.restartBus_spares.lastGranted⟩

theorem State.restarted_waterSuspend (s : State) : s.restarted.refreshAlarm.tap.waterSuspend = s.tap.waterSuspend := by
  have h : s.restartBus.restartFuel.tap = s.tap := s.restartBus_spares.tap
  rw [s.restarted_eq, h]

/-- No exchange is in progress, and the cycle starts. -/
theorem State.restarted_bus (s : State) :
    s.restarted.refreshAlarm.bus.exchange = none ∧ s.restarted.refreshAlarm.bus.cycle = Cycle.start := by
  have h := s.restartBus_spares.bus
  rw [s.restarted_eq]
  dsimp only
  rw [h]
  exact ⟨rfl, rfl⟩

theorem State.freshTimer_congr {t : State} (hnow : t.now = s.now) (hconfig : t.mgmt.config = s.mgmt.config)
    (c : ReportClass) : t.freshTimer c = s.freshTimer c := by
  have hmode : t.mode c = s.mode c := by
    unfold State.mode
    rw [hconfig]
  rw [State.freshTimer, State.freshTimer, hmode, hnow, hconfig]

/-- Every report source is marked, without image, its period timer started anew. -/
theorem State.restarted_sources {k : Nat} {r : SourceRecord}
    (h : s.restarted.refreshAlarm.trunk.sources.get k = some r) :
    r.RestartedWith (s.freshTimer (sourceOfKey k).cls) := by
  have htimer := State.freshTimer_congr (s := s) s.restartBus_spares.now s.restartFuel_config
  rw [← htimer]
  exact State.restarted_source h

/-! ## The records of a restarted part -/

/-- What RESTART makes of a tap: an OPEN one is closed, its session into a closing entry; a CLOSED one stands; a LOCKED
one stays so where it is out of service. -/
def State.TapRestarted (i : Nat) (q : Tap) (t : State) : Prop :=
  ∃ p, t.tap.taps.get i = some p ∧
    (q.state = .opened → p.state = .closed ∧ p.reason = .restart ∧ p.session = none ∧
      (q.session ≠ none → closingPosted i t.charge.water)) ∧
    (q.state = .closed → p.state = .closed ∧ p.session = q.session) ∧
    (q.state = .locked → p.state = if q.outOfService then .locked else .closed)

/-- The poll list entries restarted, and given their one-shots and images. -/
theorem State.restarted_reworked (s : State) : Reworked Device.lasting
    (s.bus.devices.map fun p => (p.1, p.2.restarted s.now)) s.restarted.refreshAlarm.bus.devices :=
  s.restartBus.restartFuel_salesEnd.devices.trans s.restarted_devices

theorem State.restarted_unpolled (s : State) : ∀ p ∈ s.restarted.refreshAlarm.bus.devices, p.2.state = .unpolled := by
  intro p hp
  obtain ⟨q, hq, hlasting⟩ := s.restarted_reworked.entries p hp
  obtain ⟨d, -, rfl⟩ := List.mem_map.1 hq
  exact Device.state_eq_of_lasting hlasting

/-- Every session of an outlet has ended, into a closing entry. -/
theorem State.restarted_session {o : Outlet} (ho : s.outlet.outlets.get i = some o) :
    s.restarted.refreshAlarm.SessionEnded i o := by
  have hu : s.restartBus.restartFuel.outlet.outlets.get i = some o := by
    rwa [s.restartBus_spares.outlet]
  obtain ⟨p, hp, hsession, hposted⟩ := State.sessionsEnded_ended hu
  have hpower : s.restarted.refreshAlarm.charge.power = s.restartBus.restartFuel.sessionsEnded.charge.power := by
    rw [s.restarted_eq]
  have hmap := Table.get_map s.restartBus.restartFuel.sessionsEnded.outlet.outlets (fun _ => Outlet.restarted) i
  rw [hp] at hmap
  rw [State.SessionEnded, hpower, s.restarted_outlet]
  exact ⟨p.restarted, hmap, hsession, hposted⟩

theorem State.restarted_outletsKept (s : State) :
    keptTable outletKept s.outlet.outlets s.restarted.refreshAlarm.outlet.outlets := by
  have hreworked := s.restartBus.restartFuel.sessionsEnded_reworked
  have houtlet : s.restartBus.restartFuel.outlet = s.outlet := s.restartBus_spares.outlet
  rw [houtlet] at hreworked
  rw [s.restarted_outlet]
  exact hreworked.keptTable_map fun _ _ h => Outlet.restarted_kept h

theorem State.restarted_unused (s : State) : ∀ p ∈ s.restarted.refreshAlarm.outlet.outlets,
    p.2.state ≠ .live ∧ p.2.state ≠ .ready ∧ ∀ b, p.2.state ≠ .waiting b := by
  intro p hp
  rw [s.restarted_outlet] at hp
  obtain ⟨q, -, rfl⟩ := List.mem_map.1 hp
  exact q.2.restarted_state

/-- The taps the closing works on are those of before. -/
theorem State.restartOutlets_taps (s : State) : s.restartBus.restartFuel.restartOutlets.tap = s.tap := by
  rw [State.restartOutlets_eq, s.restartBus_spares.tap]
  rfl

theorem State.restarted_taps (s : State) : s.restarted.refreshAlarm.tap.taps =
    (s.restartBus.restartFuel.restartOutlets.closeAllTaps .restart).tap.taps.map fun p => (p.1, p.2.restarted) := by
  rw [s.restarted_eq]

theorem State.restarted_tapsKept (s : State) : keptTable tapKept s.tap.taps s.restarted.refreshAlarm.tap.taps := by
  have hreworked := s.restartBus.restartFuel.restartOutlets.closeAllTaps_reworked .restart
  rw [s.restartOutlets_taps] at hreworked
  rw [s.restarted_taps]
  exact hreworked.keptTable_map fun _ _ h => Tap.restarted_kept h

theorem State.restarted_tap {q : Tap} (hq : s.tap.taps.get i = some q) :
    s.restarted.refreshAlarm.TapRestarted i q := by
  have hu : s.restartBus.restartFuel.restartOutlets.tap.taps.get i = some q := by rwa [s.restartOutlets_taps]
  have hmap := Table.get_map (s.restartBus.restartFuel.restartOutlets.closeAllTaps .restart).tap.taps
    (fun _ => Tap.restarted) i
  have hwater : s.restarted.refreshAlarm.charge.water =
      (s.restartBus.restartFuel.restartOutlets.closeAllTaps .restart).charge.water := by rw [s.restarted_eq]
  rw [State.TapRestarted, s.restarted_taps, hwater]
  by_cases hx : q.state = .opened
  · obtain ⟨p, hp, hstate, hreason, hsession, hposted⟩ := State.closeAllTaps_ended hu hx
    refine ⟨p.restarted, hmap.trans (congrArg _ hp), fun _ => ⟨?_, ?_, hsession, hposted⟩,
      fun h => ?_, fun h => ?_⟩
    · simp [Tap.restarted, hstate]
    · simp [Tap.restarted, hreason]
    · cases hx.symm.trans h
    · cases hx.symm.trans h
  · refine ⟨q.restarted, hmap.trans (congrArg _ (State.closeAllTaps_get hu hx)), fun h => absurd h hx,
      fun h => ⟨?_, rfl⟩, fun h => ?_⟩
    · simp [Tap.restarted, h]
    · cases hservice : q.outOfService <;> simp [Tap.restarted, h, hservice]

/-- The sale of every dispenser is resolved. -/
theorem State.restarted_sale {d : Dispenser} (hd : s.fuel.dispensers.get i = some d) :
    ∃ v, s.restarted.refreshAlarm.fuel.dispensers.get i = some v ∧ s.restarted.refreshAlarm.SaleResolved i d v := by
  obtain ⟨v, hv, hresolved⟩ := State.restartFuel_get (s := s.restartBus) hd
  refine ⟨v, ?_, hresolved.mono ?_ ?_⟩
  · rwa [s.restarted_fuel]
  · rw [s.restarted_office]
    exact List.Subset.refl _
  · rw [s.restarted_fuel]
    exact List.Subset.refl _

theorem State.restarted_nothingSold (s : State) (hn : s.NoDelivery) : s.NothingSold s.restarted.refreshAlarm := by
  obtain ⟨htank0, htank1, hsales, hcounter, hlive⟩ := State.restartFuel_nothingSold (s := s.restartBus) hn
  have htallies := congrArg TallyUnit.live s.restarted_tally
  rw [← s.restarted_fuel] at htank0 htank1 hsales hcounter
  exact ⟨htank0, htank1, hsales, hcounter, htallies.trans hlive⟩

/-- What RESTART makes of a state: what its units hold, what is kept of their records, and how what was in progress has
ended. -/
structure State.Restarts (s t : State) : Prop where
  mgmt : t.mgmt = { s.mgmt with work := t.mgmt.work }
  berth : t.berth = { s.berth with
    berths := s.berth.berths.map fun p => (p.1, { p.2 with reason := BerthReason.restarted }) }
  accounts : t.charge.accounts = s.charge.accounts
  tariff : t.charge.tariff = s.charge.tariff
  lastGranted : t.charge.lastGranted = s.charge.lastGranted
  outlet : t.outlet = { s.outlet with
    outlets := t.outlet.outlets, feeders := s.outlet.feeders.map fun p => (p.1, p.2.restarted)
    queue := [], serviceHold := s.mgmt.config.holdAtStart, raw := t.outlet.raw }
  outletsKept : keptTable outletKept s.outlet.outlets t.outlet.outlets
  unused : ∀ p ∈ t.outlet.outlets, p.2.state ≠ .live ∧ p.2.state ≠ .ready ∧ ∀ b, p.2.state ≠ .waiting b
  session : ∀ i o, s.outlet.outlets.get i = some o → t.SessionEnded i o
  waterSuspend : t.tap.waterSuspend = s.tap.waterSuspend
  tapsKept : keptTable tapKept s.tap.taps t.tap.taps
  tap : ∀ i q, s.tap.taps.get i = some q → t.TapRestarted i q
  fifo : t.fuel.fifo = []
  dispensersKept : keptTable dispenserKept s.fuel.dispensers t.fuel.dispensers
  sale : ∀ i d, s.fuel.dispensers.get i = some d → ∃ v, t.fuel.dispensers.get i = some v ∧ t.SaleResolved i d v
  sales : s.fuel.sales ⊆ t.fuel.sales
  cutoff0 : t.fuel.tank0.cutoff = s.fuel.tank0.cutoff
  cutoff1 : t.fuel.tank1.cutoff = s.fuel.tank1.cutoff
  tallies : t.tally.live.lasting = s.tally.live.lasting
  nothingSold : s.NoDelivery → s.NothingSold t
  gate : t.gate = { s.gate with
    queries := [], readers := s.gate.readers.map fun p => (p.1, p.2.restarted), copied := t.gate.copied }
  exchange : t.bus.exchange = none
  cycle : t.bus.cycle = Cycle.start
  devicesKept : keptTable deviceKept s.bus.devices t.bus.devices
  unpolled : ∀ p ∈ t.bus.devices, p.2.state = .unpolled
  trunk : t.trunk = { s.trunk with own := t.trunk.own, sources := t.trunk.sources }
  own : ∀ e ∈ t.trunk.own, e.frame.isReport = false
  source : ∀ k r, t.trunk.sources.get k = some r → r.RestartedWith (s.freshTimer (sourceOfKey k).cls)
  tally : t.tally = { s.tally with live := t.tally.live, freeze := none, lastEnd := t.tally.lastEnd }

theorem State.restarted_restarts (s : State) : s.Restarts s.restarted.refreshAlarm := by
  have hends := s.restartBus.restartFuel_salesEnd
  have hlive := congrArg TallyUnit.live s.restarted_tally
  obtain ⟨haccounts, htariff, hlastGranted⟩ := s.restarted_charge
  obtain ⟨hexchange, hcycle⟩ := s.restarted_bus
  exact {
    mgmt := s.restarted_mgmt
    berth := s.restarted_berth
    accounts := haccounts
    tariff := htariff
    lastGranted := hlastGranted
    outlet := by rw [s.restarted_outlet]
    outletsKept := s.restarted_outletsKept
    unused := s.restarted_unused
    session := fun _ _ => State.restarted_session
    waterSuspend := s.restarted_waterSuspend
    tapsKept := s.restarted_tapsKept
    tap := fun _ _ => State.restarted_tap
    fifo := by rw [s.restarted_fuel, State.restartFuel_fifo]
    dispensersKept := by rw [s.restarted_fuel]; exact s.restartBus.restartFuel_kept
    sale := fun _ _ => State.restarted_sale
    sales := by rw [s.restarted_fuel]; exact hends.sales
    cutoff0 := by rw [s.restarted_fuel]; exact hends.cutoff0
    cutoff1 := by rw [s.restarted_fuel]; exact hends.cutoff1
    tallies := (congrArg Tallies.lasting hlive).trans hends.live
    nothingSold := s.restarted_nothingSold
    gate := s.restarted_gate
    exchange := hexchange
    cycle := hcycle
    devicesKept := s.restarted_reworked.keptTable_of_map fun _ _ h => Device.restarted_kept h
    unpolled := s.restarted_unpolled
    trunk := by rw [s.restarted_trunk]
    own := by rw [s.restarted_trunk]; simp
    source := fun _ _ => State.restarted_sources
    tally := by rw [s.restarted_tally] }

end

/-! ## The command (10 R180) -/

/-- A state whose RESTART frame has been taken and answered: the management unit, the intake, the LOCAL queue and the
copied journal entries alone may differ. -/
def State.restartTaken (accepted : Half) (work : Work) (own : List LocalEntry) (copied : Nat) (s : State) : State :=
  { s with
    mgmt := { s.mgmt with accepted := accepted, work := work }
    trunk := { s.trunk with intake := none, own := own }
    gate := { s.gate with copied := copied } }

theorem State.taken_eq_restartTaken (fr : IntakeFrame) (s : State) : ∃ accepted,
    s.taken fr = s.restartTaken accepted s.mgmt.work s.trunk.own s.gate.copied := by
  unfold State.taken
  cases fr.broadcast <;> exact ⟨_, rfl⟩

theorem State.accept_restartTaken (fr : IntakeFrame) (accepted : Half) (work : Work) (own : List LocalEntry)
    (copied : Nat) (s : State) : ∃ work' own', (s.restartTaken accepted work own copied).accept fr [] .none =
      s.restartTaken accepted work' own' copied :=
  ⟨_, _, State.answer_eq fr _ _⟩

/-- The reply enters the LOCAL queue, or a full one after its reports are removed. -/
theorem State.restartAct_eq (fr : IntakeFrame) (s : State)
    (hfree : s.charge.office.any OfficeOp.isRestart = false) : ∃ accepted work own copied,
      restartAct fr () (s.taken fr) = (s.restartTaken accepted work own copied).restarted := by
  obtain ⟨accepted, htaken⟩ := s.taken_eq_restartTaken fr
  have hfree' : ¬(s.restartTaken accepted s.mgmt.work s.trunk.own s.gate.copied).charge.office.any OfficeOp.isRestart =
      true := by simpa [State.restartTaken] using hfree
  rw [htaken, restartAct, if_neg hfree']
  dsimp only
  split
  · obtain ⟨work, own, haccept⟩ := s.accept_restartTaken fr accepted s.mgmt.work
      (s.trunk.own.filter fun e => !e.frame.isReport)
      (s.restartTaken accepted s.mgmt.work s.trunk.own s.gate.copied).dropReports.gate.copied
    exact ⟨accepted, work, own, _, congrArg State.restarted haccept⟩
  · obtain ⟨work, own, haccept⟩ := s.accept_restartTaken fr accepted s.mgmt.work s.trunk.own s.gate.copied
    exact ⟨accepted, work, own, _, congrArg State.restarted haccept⟩

/-- RESTART restarts the part whose frame it has taken and answered. -/
theorem exec_restart {fr : IntakeFrame} {s : State} (h : takes (.restart (.fields ())) fr s)
    (hfree : s.charge.office.any OfficeOp.isRestart = false) : ∃ accepted work own copied t,
      exec (.restart (.fields ())) s = .next t ∧ (s.restartTaken accepted work own copied).Restarts t := by
  have hact : exec (.restart (.fields ())) s = acted (restartAct fr () (s.taken fr)) :=
    exec_of_takes_acted restartAct rfl rfl h
  obtain ⟨accepted, work, own, copied, hrestarts⟩ := s.restartAct_eq fr hfree
  exact ⟨accepted, work, own, copied, _, hact.trans (congrArg acted hrestarts), State.restarted_restarts _⟩

/-- RESTART is refused BUSY while steps of an earlier one wait. -/
theorem exec_restart_busy : Claim.RestartIsRefusedWhileItsStepsWait := fun _ _ h hbusy =>
  exec_of_takes (act := restartAct) rfl rfl h (if_pos hbusy)

theorem exec_restart_ends : Claim.RestartEndsWhatIsInProgress := by
  intro fr s h hfree
  obtain ⟨accepted, work, own, copied, t, hexec, hr⟩ := exec_restart h hfree
  refine ⟨t, hexec, (congrArg ManagementUnit.config hr.mgmt :), (congrArg ManagementUnit.clock hr.mgmt :),
    (congrArg ManagementUnit.timeValid hr.mgmt :), hr.exchange, hr.cycle, hr.fifo,
    (congrArg GateUnit.queries hr.gate :), (congrArg GateUnit.cache hr.gate :), (congrArg GateUnit.journal hr.gate :),
    (congrArg TallyUnit.freeze hr.tally :), (congrArg OutletUnit.queue hr.outlet :),
    (congrArg OutletUnit.serviceHold hr.outlet :), (congrArg BerthUnit.tide hr.berth :),
    (congrArg TallyUnit.period hr.tally :), hr.own, hr.unpolled, hr.unused,
    fun p hp => ?_, hr.session, hr.tap, hr.sale, fun i b hb => ?_, hr.source⟩
  · rw [hr.outlet] at hp
    obtain ⟨f, -, rfl⟩ := List.mem_map.1 hp
    exact ⟨rfl, rfl⟩
  · have hberths := Table.get_map s.berth.berths (fun _ b => { b with reason := BerthReason.restarted }) i
    rw [hr.berth]
    exact hberths.trans (congrArg _ hb)

theorem exec_restart_keeps : Claim.RestartKeepsTheTables := by
  intro fr s h hfree
  obtain ⟨accepted, work, own, copied, t, hexec, hr⟩ := exec_restart h hfree
  have hlive := hr.tallies
  simp only [Tallies.lasting, Prod.mk.injEq] at hlive
  obtain ⟨⟨henergy, hlitres, htotaliser⟩, hpower, hwater, hfuel0, hfuel1⟩ := hlive
  refine ⟨t, hexec, hr.accounts, hr.tariff, hr.lastGranted, (congrArg OutletUnit.protection hr.outlet :),
    hr.waterSuspend, hr.trunk, hr.outletsKept, hr.tapsKept, ?_, hr.devicesKept, hr.dispensersKept, ?_,
    (congrArg GateUnit.gap hr.gate :), hr.cutoff0, hr.cutoff1, fun _ he => hr.sales he, henergy, hlitres, htotaliser,
    hpower, hwater, hfuel0, hfuel1, fun hn => ?_⟩
  · rw [hr.outlet]
    exact keptTable_map (r := fun f g => g = Feeder.restarted f) (fun _ => rfl) s.outlet.feeders
  · rw [hr.gate]
    exact keptTable_map (r := fun r v => v = Reader.restarted r) (fun _ => rfl) s.gate.readers
  · obtain ⟨htank0, htank1, hsales, hcounter, hlive⟩ := hr.nothingSold hn
    exact ⟨hlive, htank0, htank1, hsales, hcounter⟩

/-- Settles O13, by the steps of RESTART in their order: each unit's step says what it writes, and the sessions and
sales are resolved one by one along the tables. -/
theorem restartEndsWhatIsInProgress : Obligations.RestartEndsWhatIsInProgress :=
  ⟨exec_restart_ends, exec_restart_keeps, exec_restart_busy⟩

end Sys2Proof.Machine
end

section
/-! SUPPORT. The end of a freeze by FREEZE RELEASE and by its timer (11 R186), and the pages READ TALLY returns of the
frozen view (11 R185). -/

namespace Sys2Proof.Machine

open Sys2Proof Sys2Proof.Claim

/-! ## The end of a freeze (11 R186) -/

section
variable {fr : IntakeFrame} {f : Freeze} {s : State}

/-- A freeze in force ends with its cause, and the end marks the segment status source. -/
theorem State.endFreeze_frozen (h : s.tally.freeze = some f) (c : FreezeEnd) :
    s.endFreeze c = State.markStatus { s with tally := { s.tally with freeze := none, lastEnd := some c } } := by
  simp only [State.endFreeze, h]

theorem freezeReleaseAct_notFrozen (h : s.tally.freeze = none) : freezeReleaseAct fr () s = s.refuse fr .notFrozen := by
  simp only [freezeReleaseAct, h]

theorem freezeReleaseAct_frozen (h : s.tally.freeze = some f) :
    freezeReleaseAct fr () s = (s.endFreeze .release).accept fr [] .none := by
  simp only [freezeReleaseAct, h]

theorem State.autoRelease_frozen (h : s.tally.freeze = some f) :
    s.autoRelease = (s.advanceTo f.releaseEnd).endFreeze .autoRelease := by
  simp only [State.autoRelease, h]

theorem State.autoRelease_notFrozen (h : s.tally.freeze = none) : s.autoRelease = s := by
  simp only [State.autoRelease, h]

end

/-! ## READ TALLY (11 R185) -/

section
variable {fr : IntakeFrame} {f : Freeze} {n : Nat} {s : State}

theorem readTallyAct_notFrozen (h : s.tally.freeze = none) : readTallyAct fr n s = s.refuse fr .notFrozen := by
  simp only [readTallyAct, h]

theorem readTallyAct_outOfRange (h : s.tally.freeze = some f) (hn : f.pages ≤ n) :
    readTallyAct fr n s = s.refuse fr .outOfRange := by
  simp only [readTallyAct, h, if_neg (Nat.not_lt.2 hn)]

theorem readTallyAct_page (h : s.tally.freeze = some f) (hn : n < f.pages) :
    readTallyAct fr n s = s.accept fr [] (.page (f.page s.tally.period n)) := by
  simp only [readTallyAct, h, if_pos hn]

/-- The four pages of tallies stand in every frozen view. -/
theorem Freeze.lt_pages (f : Freeze) (hn : n < 4) : n < f.pages := Nat.lt_add_right _ hn

/-- The pages after the tallies hold the accounts, eight to a page. -/
theorem Freeze.page_accounts (f : Freeze) (period : Half) (hn : 4 ≤ n) :
    f.page period n = .accounts ((f.accounts.drop (8 * (n - 4))).take 8) := by
  obtain ⟨k, rfl⟩ := Nat.exists_eq_add_of_le' hn
  rw [Nat.add_sub_cancel]
  rfl

end

/-! ## The statement -/

section
variable {fr : IntakeFrame} {f : Freeze} {n : Nat} {s : State}

/-- FREEZE RELEASE ends the freeze in force. -/
theorem exec_freezeRelease_frozen (h : takes (.freezeRelease (.fields ())) fr s) (hf : s.tally.freeze = some f) :
    exec (.freezeRelease (.fields ())) s = done fr (.accepted [] .none) ((s.taken fr).endFreeze .release) :=
  exec_of_takes rfl rfl h (freezeReleaseAct_frozen (s := s.taken fr) hf)

/-- The auto-release timer ends the freeze in force, with the clock at its expiry (log 1). -/
theorem exec_freezeAutoRelease_frozen (h : s.active = true) (hf : s.tally.freeze = some f) :
    exec .freezeAutoRelease s = acted ((s.advanceTo f.releaseEnd).endFreeze .autoRelease) :=
  (exec_of_active rfl h).trans (congrArg acted (State.autoRelease_frozen hf))

/-- READ TALLY returns a page of the frozen view. -/
theorem exec_readTally_page (h : takes (.readTally (.fields n)) fr s) (hf : s.tally.freeze = some f)
    (hn : n < f.pages) : exec (.readTally (.fields n)) s =
      done fr (.accepted [] (.page (f.page s.tally.period n))) (s.taken fr) :=
  exec_of_takes rfl rfl h (readTallyAct_page (s := s.taken fr) hf hn)

end

/-- Settles O58, by whether a freeze is in force, and for READ TALLY by the page asked for. -/
theorem freezeEndsAndPagesAreRead : Obligations.FreezeEndsAndPagesAreRead := by
  intro s ended
  refine ⟨fun fr h => ⟨fun hf => ?_, fun hf => ?_⟩, fun f h hf => ?_, fun h hf => ?_, fun n fr h =>
    ⟨fun hf => ?_, fun f hf => ?_⟩⟩
  · exact exec_of_takes rfl rfl h (freezeReleaseAct_notFrozen (s := s.taken fr) hf)
  · obtain ⟨f, hf⟩ := Option.ne_none_iff_exists'.1 hf
    rw [exec_freezeRelease_frozen h hf, State.endFreeze_frozen (s := s.taken fr) hf]
  · rw [exec_freezeAutoRelease_frozen h hf, State.endFreeze_frozen (s := s.advanceTo f.releaseEnd) hf]
    rfl
  · exact (exec_of_active rfl h).trans (congrArg acted (State.autoRelease_notFrozen hf))
  · exact exec_of_takes rfl rfl h (readTallyAct_notFrozen (s := s.taken fr) hf)
  · intro pages values answers
    have page (hn : n < pages) : answers (f.page s.tally.period n) := exec_readTally_page h hf hn
    refine ⟨fun hn => exec_of_takes rfl rfl h (readTallyAct_outOfRange (s := s.taken fr) hf hn), ?_, ?_, ?_, ?_,
      fun hn hlt => Freeze.page_accounts f s.tally.period hn ▸ page hlt⟩
    all_goals
      rintro rfl
      exact page (f.lt_pages (by decide))

end Sys2Proof.Machine
end

section
/-! SUPPORT. The machine as a whole: the step by its queue, the answer of every command, the settings that no other
command writes, and the part at reset. -/

namespace Sys2Proof.Machine

open Sys2Proof Sys2Proof.Claim

/-! ## The step (log 1) -/

/-- Settles O1: the two branches of the step, by the queue. -/
theorem stepRunsTheFrontCommandOrIdles : Obligations.StepRunsTheFrontCommandOrIdles :=
  ⟨fun _ _ _ h => step_cons h, fun _ h => step_nil h⟩

/-! ## Every command answers (10 R177, R179; log 2) -/

/-- A command of the trunk ports answers a next state always. -/
theorem trunkEvent_next (act : State → State) (s : State) : ∃ t, trunkEvent act s = .next t := by
  unfold trunkEvent
  split <;> exact ⟨_, rfl⟩

/-- A command of power, reset, start-up or the trunk ports answers a next state always. -/
theorem exec_port_next {c : Instr} (h : portCommand c = true) (s : State) : ∃ t, exec c s = .next t := by
  cases c with
  | powerOn | resetAsserted | upFrameReceived | downFrameReceived | portDisconnected | portConnected => exact ⟨_, rfl⟩
  | resetReleased straps =>
    by_cases hp : s.phase = .held
    · exact ⟨_, if_pos hp⟩
    · exact ⟨_, if_neg hp⟩
  | startupComplete =>
    by_cases hp : s.phase = .startUp
    · exact ⟨_, if_pos hp⟩
    · exact ⟨_, if_neg hp⟩
  | pauseReceived | resumeReceived | upstreamHoldExpiry | pauseRepeat | upstreamTransmit | upstreamFrameSent
  | downTransmit => exact trunkEvent_next _ s
  | _ => cases h

/-- A unit's command leaves the state or ends with the alarm raw status passed on; a port command answers too. -/
theorem everyCommandAnswersNext : Claim.EveryCommandAnswersNext := by
  intro c s
  cases h : portCommand c with
  | true => exact exec_port_next h s
  | false =>
    obtain hx | ⟨u, hx⟩ := exec_refreshes h s
    · exact ⟨s, hx⟩
    · exact ⟨u.refreshAlarm, hx⟩

/-- Settles O2, from its two claims. -/
theorem commandsAnswerNextAndNeedAnActivePart : Obligations.CommandsAnswerNextAndNeedAnActivePart :=
  ⟨everyCommandAnswersNext, fun _ _ hc h => exec_of_inactive hc h⟩

/-! ## What every other command leaves -/

/-- The commands of power, reset and start-up are setting commands. -/
theorem restarts_eq_false_of_settingCommand {c : Instr} (h : settingCommand c = false) : Instr.restarts c = false := by
  cases c with
  | powerOn | resetAsserted | resetReleased | startupComplete => cases h
  | _ => rfl

/-- Settles O3: the settings stay under every operation that such a command runs (`exec_stays`), and the phase, the
straps and the queue are among what every operation keeps (`exec_keeps`). -/
theorem commandsLeaveSettingsAlone : Obligations.CommandsLeaveSettingsAlone := by
  intro c s t h e
  have hstays : s.Stays t := exec_stays h e
  have hkeeps : s.Keeps t := exec_keeps (restarts_eq_false_of_settingCommand h) e
  exact ⟨hstays.config, hstays.clock, hstays.timeValid, hstays.tide, hstays.tariff, hstays.protection,
    hstays.serviceHold, hstays.waterSuspend, hstays.freeze, hstays.lastEnd, hstays.period, hkeeps.phase, hkeeps.straps,
    hkeeps.pending⟩

/-! ## The part at reset (10 R179) -/

/-- A part held in reset is not active, has its blocks at power-on, and is transparent with idle units; its empty tables
are ordered and its empty queues bounded. -/
theorem invariantsHoldAtReset : Claim.InvariantsHoldAtReset :=
  have hidle : TransparentIdle State.reset :=
    transparentIdle_of_powered (s := State.reset) State.reset.straps (phase := .held) Phase.noConfusion
  ⟨rawFollows_powered State.reset, fun _ => rfl, hidle, State.reset_ordered, State.reset_bounded, State.reset_oneReport⟩

/-- No tariff row is loaded at reset, so every class has the prices of an absent one. -/
theorem State.reset_tariffRow (n : Nat) : State.reset.tariffRow n = ⟨0, 0, 0, 0⟩ := rfl

/-- Each block at reset is its record of power-on values, where the value is written. -/
theorem resetValuesOfTheBlocks : Claim.ResetValuesOfTheBlocks := by
  refine ⟨rfl, rfl, rfl, rfl, rfl, rfl, State.reset_tariffRow, ?_⟩
  and_intros
  all_goals rfl

/-- Settles O6, from its two claims. -/
theorem invariantsAndValuesHoldAtReset : Obligations.InvariantsAndValuesHoldAtReset :=
  ⟨invariantsHoldAtReset, resetValuesOfTheBlocks⟩

end Sys2Proof.Machine
end
